-- ==== Sys2Proof/Word.lean ====
section
/-! DEFINITION. The words of the Altepo 8812: bytes on the links, the 32-bit time base, and the plainest arithmetic on
them. -/

namespace Sys2Proof

/-- A byte as it crosses Link T or Link P (12.1). -/
abbrev Byte := BitVec 8

/-- A value of the time base: a 32-bit free-running count of microseconds (00_scope, "Time"). -/
abbrev Time := BitVec 32

/-- A signed 24-bit audio sample (00_scope, "Quantities"). -/
abbrev Sample24 := BitVec 24

/-- The difference of two time-base values, taken modulo 2^32 (00_scope, "Time"). -/
def elapsed (later earlier : Time) : Nat := (later - earlier).toNat

/-- The time base `micros` microseconds after `t`, modulo 2^32. -/
def Time.after (t : Time) (micros : Nat) : Time := t + BitVec.ofNat 32 micros

end Sys2Proof
end

