-- ==== Sys2Proof/Config.lean ====
section
/-! DEFINITION. The figures of 00_scope that the rules use by name, and the one value the manual leaves open. -/

namespace Sys2Proof.Config

/-- FREE VALUE: the Gesfaro vendor code that IDENTIFY returns (R199). The manual names the item and states no value
(assumption 5). -/
opaque vendorCode : BitVec 16

/-- The part code IDENTIFY returns (R199). -/
def partCode : Nat := 8812

/-- Revision letter B as its character code (R199). -/
def revisionLetter : Nat := 0x42

def plausibleLow : Nat := 8
def plausibleHigh : Nat := 1015
def faultEntry : Nat := 4
def faultRecovery : Nat := 64
def minimumSpan : Nat := 64
def restCaptureSamples : Nat := 64
def restCaptureSpread : Nat := 12
def restCaptureMicros : Nat := 6400
def bottomWindowMicros : Nat := 2000000
def maxSpeed : Nat := 1048575
def maxCount16 : Nat := 65535
def maxCount8 : Nat := 255
def maxCount32 : Nat := 4294967295
def queueCapacity : Nat := 192
def noteOnLimit : Nat := 168
def ageLimitMicros : Nat := 2000
def panelCapacity : Nat := 64
def audioFifoFrames : Nat := 64
def takeBlocks : Nat := 2048
def blockSlots : Nat := 32
def blockBytes : Nat := 128
def recordingReserve : Nat := 3
def maxTakeMs : Nat := 36000000
def gapMs : Nat := 4095
def transferChunk : Nat := 64
def transferIdleMicros : Nat := 5000000
def headerBytes : Nat := 31
def retryDwellMicros : Nat := 200000
def reversalDwellMicros : Nat := 50000
def restartMicros : Nat := 100000
def stretchMicros : Nat := 1000
def expectedLimit : Nat := 16
def recentLimit : Nat := 8
def levelStep : Nat := 262144
def sampleLimit : Int := 8388607
def seekSlotsPerTick : Nat := 32
def seekTickMicros : Nat := 100

end Sys2Proof.Config
end

