-- ==== Sys2Proof/Syntax.lean ====
section
/-! DEFINITION. The commands of the Altepo 8812: one constructor of `Instr` for each row of spec/opcode_table.json, with
the operands its rule gives it. A request carries the bytes of its frame (R191, R203), since the two processors see the
part only through bytes. An event carries the time base at which it comes about (`now`): the model's own operand, since the
table has no row for the passing of time (assumption 1). -/

namespace Sys2Proof

/-- The two links (00_scope, "External connections"): Link T to the tone processor, Link P to the panel controller. -/
inductive Link where
  | t
  | p
  deriving DecidableEq, Repr

/-- The three pedals (00_scope, "Keys and pedals"). -/
inductive PedalId where
  | damper
  | sostenuto
  | soft
  deriving DecidableEq, Repr

/-- The two end switches of the rail. -/
inductive EndSwitch where
  | retractEnd
  | engageEnd
  deriving DecidableEq, Repr

/-- The direction of an encoder pulse (R85). -/
inductive Direction where
  | towardEngaged
  | towardRetracted
  deriving DecidableEq, Repr

/-- The two headphone jacks. -/
inductive Jack where
  | jack1
  | jack2
  deriving DecidableEq, Repr

/-- The input levels a start takes at once: the end switches (R110), the fallboard (R103), the jacks (R119) and the two
address strap pins (R193). -/
structure Pins where
  retractEnd : Bool
  engageEnd : Bool
  fallboardClosed : Bool
  jack1 : Bool
  jack2 : Bool
  strap : BitVec 2
  deriving DecidableEq, Repr

/-- What a transaction of a link carries, with the 7-bit address that it names on Link P (R193). Link T has a chip select in its
place (R192), and the address means nothing there. -/
structure Addressed (α : Type) where
  address : BitVec 7
  payload : α
  deriving DecidableEq, Repr

/-- A request frame as a link carries it (R191, 12.2): the link, the address that the transaction names on Link P (R193; with Link
T's chip select there is none, and the field is not looked at), the bytes after the kind byte (the parameter length, then the
parameters), and the time base at the end of the transaction. `deferred` says that the owning block has not judged the request when
the next command comes, so that the reply buffer is left HANDLING (R190; assumption 3). -/
structure Frame where
  now : Time
  link : Link
  address : BitVec 7
  body : List Byte
  deferred : Bool
  deriving DecidableEq, Repr

/-- The request kinds of 12.2, in the table's order, and `unknown` for a frame whose kind byte names no request. -/
inductive ReqKind where
  | calWrite
  | calRead
  | calCaptureRest
  | calCaptureBottom
  | keyWatch
  | keyReport
  | keyLines
  | curveWrite
  | curveSelect
  | curveRead
  | strokeSlowLimit
  | noteCopy
  | soundingReport
  | allNotesOff
  | toneStreamSetup
  | flushTone
  | railEngage
  | railRetract
  | railStatus
  | railAck
  | railClearDisturbed
  | railProfile
  | audioSetup
  | audioMute
  | metroSet
  | metroRun
  | audioReport
  | takeList
  | takeDelete
  | takeName
  | memoryReport
  | takeRecord
  | takePlay
  | takeStop
  | takePause
  | takeResume
  | takeSpeed
  | takeSeek
  | loopSet
  | loopClear
  | transportReport
  | practiceSet
  | waitReport
  | exportOpen
  | exportRead
  | exportClose
  | importOpen
  | importWrite
  | importClose
  | identify
  | linkReport
  | restart
  | statusMask
  | unknown
  deriving DecidableEq, Repr

/-- The commands: one constructor per row of spec/opcode_table.json. -/
inductive Instr where
  /-- KEY_SAMPLE (R1). A raw reading of one key arrives with its time-base stamp and is handled according to the key's state. -/
  | keySample (now : Time) (key raw : Nat)
  /-- PEDAL_SAMPLE (R46). A raw reading of one pedal arrives and is handled according to the pedal's state. -/
  | pedalSample (now : Time) (pedal : PedalId) (raw : Nat)
  /-- CAL_WRITE (R12). Replaces the calibration record of one key or pedal and resets the state of that key or pedal. -/
  | calWrite (frame : Frame)
  /-- CAL_READ (R13). Returns the current calibration record of one key or pedal. -/
  | calRead (frame : Frame)
  /-- CAL_CAPTURE_REST (R14). Starts a rest capture of every key that is not in FAULT. -/
  | calCaptureRest (frame : Frame)
  /-- REST_CAPTURE_COMPLETE (R15). 64 sample periods after acceptance, the rest capture writes the new rest raw values, moves its keys out of CAPTURE and posts CAL_DONE. -/
  | restCaptureComplete (now : Time)
  /-- CAL_CAPTURE_BOTTOM (R16). Starts a 2 s bottom capture of one key. -/
  | calCaptureBottom (frame : Frame)
  /-- BOTTOM_CAPTURE_COMPLETE (R16). The first sample after the 2 s window completes the bottom capture, writes bottom raw if the span is at least 64, and posts CAL_DONE. -/
  | bottomCaptureComplete (now : Time) (raw : Nat)
  /-- KEY_WATCH (R19). Selects the key whose raw signal is collected for the Panel Stream, or turns the watch off. -/
  | keyWatch (frame : Frame)
  /-- KEY_REPORT (R21). Reports the state, record, history and counters of one key, clearing the counters on request. -/
  | keyReport (frame : Frame)
  /-- KEY_LINES (R25). Reads the key lines, or replaces the current key line set so that keys in a stroke keep the previous set. -/
  | keyLines (frame : Frame)
  /-- CURVE_WRITE (R40). Replaces one velocity curve slot whole. -/
  | curveWrite (frame : Frame)
  /-- CURVE_SELECT (R41). Selects the active velocity curve slot. -/
  | curveSelect (frame : Frame)
  /-- CURVE_READ (R42). Returns a curve slot, the active slot and the slow limit. -/
  | curveRead (frame : Frame)
  /-- STROKE_SLOW_LIMIT (R43). Sets the slow limit, clamped into 100..2000 ms. -/
  | strokeSlowLimit (frame : Frame)
  /-- NOTE_COPY (R67). Sets the monitor copy of note entries to off, all keys or a key range. -/
  | noteCopy (frame : Frame)
  /-- SOUNDING_REPORT (R66). Reports the Sounding Table, the Sostenuto Set, the effective pedals and the Router counters, clearing the counters on request. -/
  | soundingReport (frame : Frame)
  /-- ALL_NOTES_OFF (R65). Silences every key, empties the Sostenuto Set and offers an ALL_OFF entry. -/
  | allNotesOff (frame : Frame)
  /-- TONE_STREAM_SETUP (R81). Sets the ready mode and trigger level, judges READY_T afresh, and clears RESYNCS on request. -/
  | toneStreamSetup (frame : Frame)
  /-- FLUSH_TONE (R82). Empties the Tone Queue, places a RESYNC and clears every announced mark. -/
  | flushTone (frame : Frame)
  /-- DRAIN (R75). A DRAIN exchange on Link T sends the occupancy count byte and then runs drain slots. -/
  | drain (now : Time)
  /-- DRAIN_SLOT_START (R75). At a slot's first byte, a copy of the head entry is latched, or a NONE filler is sent when the queue is empty. -/
  | drainSlotStart (now : Time)
  /-- DRAIN_SLOT_COMPLETE (R75). The eighth byte of a slot holding an entry completes it, and the head entry is removed unless the copy is stale. -/
  | drainSlotComplete (now : Time)
  /-- DRAIN_SLOT_ABANDON (R77). Chip select ending before a slot's eighth byte abandons the slot, and nothing is removed. -/
  | drainSlotAbandon (now : Time)
  /-- AGE_CONDITION (R80). In BURST mode, the head entry reaching 2,000 µs of age sets the READY_T latch. -/
  | ageCondition (now : Time)
  /-- RAIL_ENGAGE (R88). Requests a move of the rail toward the engaged end, judged in the rail's state. -/
  | railEngage (frame : Frame)
  /-- RAIL_RETRACT (R88). Requests a move of the rail toward the retracted end, judged in the rail's state. -/
  | railRetract (frame : Frame)
  /-- QUIET_WAIT_EXPIRY (R89). The quiet timer expiring returns the rail to its prior state with last move result ABANDONED. -/
  | quietWaitExpiry (now : Time)
  /-- KICK_END (R91). The kick time ending moves the run to RAMP and starts the stall timer. -/
  | kickEnd (now : Time)
  /-- DUTY_STEP (R91). Each duty step time in RAMP moves the duty one step toward the phase target. -/
  | dutyStep (now : Time)
  /-- STALL_TIMER_EXPIRY (R97). The stall timer expiring cuts the duty and starts a retry dwell, or fails the run with STALL when the retries are used up. -/
  | stallTimerExpiry (now : Time)
  /-- RETRY_DWELL_END (R97). The 200 ms retry dwell ending starts a fresh kick of the same run. -/
  | retryDwellEnd (now : Time)
  /-- REVERSAL_DWELL_END (R93). The 50 ms reversal dwell ending starts a fresh run toward the new target. -/
  | reversalDwellEnd (now : Time)
  /-- MOVE_TIMEOUT (R98). The move timer expiring fails the run with TIMEOUT. -/
  | moveTimeout (now : Time)
  /-- ENCODER_PULSE (R85). An encoder pulse moves the position count and, during a run, restarts the stall timer and is judged by the no-switch check. -/
  | encoderPulse (now : Time) (direction : Direction)
  /-- END_SWITCH_CHANGE (R86). A conditioned change of an end switch updates the position count and the rail state. -/
  | endSwitchChange (now : Time) (switch : EndSwitch) (active : Bool)
  /-- CURRENT_SAMPLE (R99). A motor current sample taken every 1 ms while the duty is above 0 is judged for overcurrent and for the current alert. -/
  | currentSample (now : Time) (milliamps : Nat)
  /-- RAIL_PROFILE (R87). Sets the rail profile settings, clamped, with the hysteresis and trip limit corrected. -/
  | railProfile (frame : Frame)
  /-- RAIL_STATUS (R108). Reports the whole rail record, clearing STALLS on request. -/
  | railStatus (frame : Frame)
  /-- RAIL_ACK (R106). Clears the alert requested mark, ending the alert tone. -/
  | railAck (frame : Frame)
  /-- RAIL_CLEAR_DISTURBED (R109). Clears the DISTURBED latch and returns its value before the request. -/
  | railClearDisturbed (frame : Frame)
  /-- STANDBY_SWITCH_CHANGE (R109). A change of either end switch seen on the standby supply while main power is off sets the DISTURBED latch. -/
  | standbySwitchChange (switch : EndSwitch) (active : Bool)
  /-- FALLBOARD_CLOSE (R103). A conditioned fallboard close suspends the keys, abandons a capture, closes a recording, makes the park request and posts FALLBOARD. -/
  | fallboardClose (now : Time)
  /-- FALLBOARD_OPEN (R103). A conditioned fallboard open lets the SUSPENDED keys return to REST and posts FALLBOARD. -/
  | fallboardOpen (now : Time)
  /-- JACK_CHANGE (R119). A conditioned change of a jack detect input updates the jack state and JACK_OUT and posts JACK. -/
  | jackChange (now : Time) (jack : Jack) (inserted : Bool)
  /-- INPUT_FRAME (R113). An audio input frame joins the Audio FIFO, or is dropped and counted in OVERRUNS when the FIFO is full. -/
  | inputFrame (now : Time) (left right : Sample24)
  /-- OUTPUT_FRAME (R115). An output frame steps the gain ramp, takes a tone frame, scales it, adds click and alert, saturates and sends the result. -/
  | outputFrame (now : Time)
  /-- CLICK_END (R121). 20 ms after it began, the click generator becomes idle. -/
  | clickEnd (now : Time)
  /-- ALERT_SEGMENT_END (R122). After 500 ms of a segment, the alert tone begins the next segment at the other frequency. -/
  | alertSegmentEnd (now : Time)
  /-- NEXT_BEAT_TIME (R124). In FREE or RECORDING, the time base reaching the next beat time makes a beat and sets the next beat time one interval later. -/
  | nextBeatTime (now : Time)
  /-- AUDIO_SETUP (R112). Sets the rate, volume, refill level, ramp interval and HP_IN_ACOUSTIC. -/
  | audioSetup (frame : Frame)
  /-- AUDIO_MUTE (R120). Sets or clears PANEL_MUTE in the mute-reason set. -/
  | audioMute (frame : Frame)
  /-- METRO_SET (R126). Sets the tempo, beats per bar, click level and beat copy. -/
  | metroSet (frame : Frame)
  /-- METRO_RUN (R127). Turns the free metronome on or off. -/
  | metroRun (frame : Frame)
  /-- AUDIO_REPORT (R128). Reports the Audio Stage state, clearing its counters on request. -/
  | audioReport (frame : Frame)
  /-- TAKE_LIST (R144). Lists one Take Directory entry or all sixteen. -/
  | takeList (frame : Frame)
  /-- TAKE_DELETE (R145). Releases a CLOSED take's chain to the Free List and empties its directory entry. -/
  | takeDelete (frame : Frame)
  /-- TAKE_NAME (R146). Sets or removes the name of a take. -/
  | takeName (frame : Frame)
  /-- MEMORY_REPORT (R147). Reports the free blocks, the reserve held and the Free List head. -/
  | memoryReport (frame : Frame)
  /-- GAP_EXPIRY (R136). 4095 ms of take time after the last record, a GAP record is written. -/
  | gapExpiry (now : Time)
  /-- DURATION_LIMIT (R136). Take time reaching 36,000,000 ms closes the recording with cause LIMIT. -/
  | durationLimit (now : Time)
  /-- TAKE_RECORD (R152). Opens a take for recording, armed on the first note or started at once. -/
  | takeRecord (frame : Frame)
  /-- TAKE_PLAY (R157). Starts playback of a CLOSED take, from record 0 or by seeking to a start position. -/
  | takePlay (frame : Frame)
  /-- TAKE_STOP (R151). Ends a recording, or stops a playback, as the Transport's state requires. -/
  | takeStop (frame : Frame)
  /-- TAKE_PAUSE (R161). Halts a playback in PAUSED with its notes forced off and its pedals cleared. -/
  | takePause (frame : Frame)
  /-- TAKE_RESUME (R162). Restates the take pedals and continues playback from the cursor. -/
  | takeResume (frame : Frame)
  /-- TAKE_SPEED (R160). Sets the playback speed, clamped into 50..150. -/
  | takeSpeed (frame : Frame)
  /-- TAKE_SEEK (R164). Starts a seek to a target position in the take. -/
  | takeSeek (frame : Frame)
  /-- SEEK_COMPLETE (R164). The scan reaching the landing record sets the cursor and pedals, and then pauses or continues the playback. -/
  | seekComplete (now : Time)
  /-- LOOP_SET (R165). Sets the loop marks and repeats. -/
  | loopSet (frame : Frame)
  /-- LOOP_CLEAR (R165). Removes the loop and its anchor. -/
  | loopClear (frame : Frame)
  /-- TRANSPORT_REPORT (R168). Reports the Transport record. -/
  | transportReport (frame : Frame)
  /-- RECORD_DELIVERY (R159). A wait expiring delivers the record at the cursor and computes the wait for the next record. -/
  | recordDelivery (now : Time)
  /-- LOOP_JUMP (R167). A wait toward B expiring forces off the take's notes and returns the take to the anchor, or seeks toward A. -/
  | loopJump (now : Time)
  /-- PRACTICE_SET (R178). Sets the part mask, wait mode and the chord and lead windows. -/
  | practiceSet (frame : Frame)
  /-- WAIT_REPORT (R179). Reports the wait score and wait-mode state, clearing the score on request. -/
  | waitReport (frame : Frame)
  /-- EXPORT_OPEN (R183). Opens an export of a CLOSED take and sets its exporting mark. -/
  | exportOpen (frame : Frame)
  /-- EXPORT_READ (R184). Returns up to 64 bytes of the export stream from an offset, folding new data bytes into the export check. -/
  | exportRead (frame : Frame)
  /-- EXPORT_CLOSE (R185). Ends the open export and posts TRANSFER. -/
  | exportClose (frame : Frame)
  /-- EXPORT_IDLE_EXPIRY (R185). 5 s without an EXPORT_READ ends the export with TIMEOUT. -/
  | exportIdleExpiry (now : Time)
  /-- IMPORT_OPEN (R186). Opens an EMPTY take for import with a declared length. -/
  | importOpen (frame : Frame)
  /-- IMPORT_WRITE (R187). Takes bytes at the expected offset, parsing and writing the header and records and folding them into the import check. -/
  | importWrite (frame : Frame)
  /-- IMPORT_CLOSE (R188). Ends the import with its closing checks, succeeding to CLOSED or failing. -/
  | importClose (frame : Frame)
  /-- IMPORT_IDLE_EXPIRY (R189). 5 s without an IMPORT_WRITE ends the import with TIMEOUT. -/
  | importIdleExpiry (now : Time)
  /-- IDENTIFY (R199). Returns the vendor, the part, the revision, the retention state and the last start cause. -/
  | identify (frame : Frame)
  /-- LINK_REPORT (R199). Reports the sending link's counters, pointer and pending kinds, clearing the counters on request. -/
  | linkReport (frame : Frame)
  /-- STATUS_MASK (R196). Sets the sending link's subscription mask, always including START. -/
  | statusMask (frame : Frame)
  /-- RESTART (R200). Answers OK and arranges a warm start after the reply is read. -/
  | restart (frame : Frame)
  /-- RESTART_WARM_START (R200). The reply to RESTART being read to its last byte makes the warm start. -/
  | restartWarmStart (now : Time) (pins : Pins)
  /-- RESTART_TIMEOUT (R200). 100 ms after RESTART with no read of its reply ended, the warm start is made. -/
  | restartTimeout (now : Time) (pins : Pins)
  /-- UNKNOWN (R191). A request frame of unknown kind is answered UNKNOWN and counted in MALFORMED. -/
  | unknown (kind : Byte) (frame : Frame)
  /-- BAD_SELECTOR (R192). A Link T exchange whose selector names no exchange is ignored and counted in MALFORMED. -/
  | badSelector (now : Time)
  /-- REPLY_READ (R190). A REPLY read shifts out the reply or a marker; a read to the last byte empties the buffer. -/
  | replyRead (now : Time) (link : Addressed Link) (toEnd judged : Bool)
  /-- REPLY_STRETCH_TIMEOUT (R193). On Link P, 1 ms of clock stretch without a reply placed ends the stretch and returns NOT_READY. -/
  | replyStretchTimeout (now : Time)
  /-- POINTER_WRITE (R193). A one-byte write on Link P sets the channel pointer, or counts MALFORMED for an unknown value. -/
  | pointerWrite (now : Time) (value : Addressed Byte)
  /-- STATUS_READ (R195). A status read takes every pending kind off the board at its first byte and returns each with its current snapshot. -/
  | statusRead (now : Time) (link : Addressed Link)
  /-- STATUS_READ_ABANDON (R195). A status read ending before its last byte puts its kinds back on the board. -/
  | statusReadAbandon (now : Time) (link : Link)
  /-- STREAM_READ (R197). A Panel Stream read returns the entry count and then whole entries, removing each entry when its last byte is read. -/
  | streamRead (now : Time) (bytes : Addressed Nat)
  /-- POWER_ON (R200). A power-on makes a cold start if the retention marker is invalid, and a warm start otherwise. -/
  | powerOn (now : Time) (pins : Pins)
  /-- RESET_PIN (R200). Assertion of the RESET pin makes a warm start. -/
  | resetPin (now : Time) (pins : Pins)
  /-- WAITING_COUNT_RISE (R170). While the Transport is WAITING, the waiting count rises by one each millisecond, saturating. -/
  | waitingCountRise (now : Time)
  /-- MAIN_POWER_LOSS (R200). Main power is lost: main-domain state is gone, the retention domain runs from the standby supply, encoder pulses are no longer counted, and end-switch changes now set DISTURBED. -/
  | mainPowerLoss
  /-- STANDBY_SUPPLY_LOSS (R200). Loss of the standby supply invalidates the retention marker, so the next power-on is a cold start. -/
  | standbySupplyLoss
  deriving DecidableEq, Repr

end Sys2Proof
end

