-- ==== Sys2Proof/Machine/State.lean ====
section
/-! DEFINITION. The state of the Altepo 8812, block by block, as plain data, and the state right after a cold start. Each
block's docstring names the rule of spec/ that lists its fields; a field in the retention domain (00_scope, "Starts and
retention") says so. -/

namespace Sys2Proof.Machine

/-! ### Outcomes -/

/-- Why the machine would stop. The manual describes no condition that stops the 8812: a sensor, rail or audio fault is an
event the part handles and reports. The type is empty, so no meaning can raise a fault. -/
inductive Fault where
  deriving DecidableEq, Repr

/-- Why a command has no meaning. -/
inductive Refusal where
  /-- Raised by an arm of `exec` whose command has no meaning yet. Safe: the machine stops. -/
  | notModelled (mnemonic : String)
  /-- Raised by the meaning of an event whose operands no event of the part carries (`Instr.wellFormed` fails: a key outside
  1..88, a raw reading above 1023, a current that is no step of 8 mA, an UNKNOWN frame with a known kind). Safe: the
  machine stops (assumption 4). -/
  | illFormed
  deriving DecidableEq, Repr

/-! ### Sensor Scanner and Stroke Analyzer (R1 to R45) -/

/-- The eight key states: four of the Scanner, four of the stroke (01, opening). -/
inductive KeyState where
  | uncalibrated
  | suspended
  | fault
  | capture
  | rest
  | descending
  | struck
  | rearmed
  deriving DecidableEq, Repr

/-- A key's calibration record (R2). Retention domain. -/
structure KeyCal where
  restRaw : Nat
  bottomRaw : Nat
  trim : Int
  enabled : Bool
  deriving DecidableEq, Repr

/-- A pedal's calibration record (R2). Retention domain. -/
structure PedalCal where
  restRaw : Nat
  fullRaw : Nat
  enabled : Bool
  deriving DecidableEq, Repr

/-- A plausible sample: raw reading, depth and stamp (R1). -/
structure Plausible where
  raw : Nat
  depth : Nat
  stamp : Time
  deriving DecidableEq, Repr

/-- The kinds of timing start (R23): tS, tR and tA. -/
inductive TimingKind where
  | start
  | rearmDown
  | rearmUp
  deriving DecidableEq, Repr

/-- A timing start: its kind and the interpolated crossing (R23). -/
structure Timing where
  kind : TimingKind
  time : Time
  deriving DecidableEq, Repr

/-- Everything the Scanner and the Analyzer keep for one key (R1, R2, R4, R5, R20, R23). -/
structure Key where
  /-- Calibration record. Retention domain. -/
  cal : KeyCal
  state : KeyState
  lastRaw : Option Nat
  lastPlausible : Option Plausible
  glitchRun : Nat
  recoveryRun : Nat
  /-- The stroke record's line set is PREVIOUS (R24). -/
  previousLines : Bool
  timing : Option Timing
  slowMark : Bool
  strikes : Nat
  partials : Nat
  glitches : Nat
  deriving DecidableEq, Repr

/-- What a rest capture has collected of one included key (R15). -/
structure RestTally where
  key : Nat
  count : Nat
  sum : Nat
  low : Nat
  high : Nat
  implausible : Bool
  deriving DecidableEq, Repr

/-- The kept sample of a bottom capture: its distance from rest raw and its reading (R16). -/
structure Farthest where
  distance : Nat
  raw : Nat
  deriving DecidableEq, Repr

/-- The capture in flight (R14, R16). -/
inductive Capture where
  | rest (accepted : Time) (keys : List RestTally)
  | bottom (accepted : Time) (key restRaw : Nat) (best : Option Farthest)
  deriving DecidableEq, Repr

inductive CaptureKind where
  | rest
  | bottom
  deriving DecidableEq, Repr

inductive CaptureOutcome where
  | complete
  | abandoned
  deriving DecidableEq, Repr

/-- The last capture result (R18). -/
structure CaptureResult where
  kind : CaptureKind
  key : Option Nat
  outcome : CaptureOutcome
  failed : Nat
  lowestFailed : Option Nat
  deriving DecidableEq, Repr

/-- One pair of the key watch: raw reading and depth when formed (R19). -/
structure WatchPair where
  raw : Nat
  depth : Option Nat
  deriving DecidableEq, Repr

/-- The key watch: the key, the samples to pass over before the next collection, the stamp of the group's first sample, and
the group (R19). -/
structure Watch where
  key : Nat
  skip : Nat
  firstStamp : Time
  group : List WatchPair
  deriving DecidableEq, Repr

/-- The Sensor Scanner's record, with the stroke record of each key beside its sample history. -/
structure Scanner where
  keys : Vector Key 88
  capture : Option Capture
  lastCapture : Option CaptureResult
  watch : Option Watch
  deriving DecidableEq, Repr

/-- A key line set (R24). -/
structure LineSet where
  start : Nat
  damp : Nat
  rearm : Nat
  strike : Nat
  deriving DecidableEq, Repr

/-- One breakpoint of a velocity curve (R39). -/
structure Breakpoint where
  speed : Nat
  velocity : Nat
  deriving DecidableEq, Repr

abbrev Curve := List Breakpoint

/-- The Stroke Analyzer's common state (R24, R39, R41, R43). The stroke count of R34 is computed from the key states. -/
structure Strokes where
  current : LineSet
  previous : Option LineSet
  /-- The four curve slots. Retention domain. -/
  curves : List Curve
  active : Nat
  slowLimit : Nat
  deriving DecidableEq, Repr

/-! ### Pedal Unit (R46 to R54) -/

inductive PedalState where
  | active
  | fault
  | invalid
  deriving DecidableEq, Repr

/-- The sensing side of one pedal. -/
structure PedalSense where
  /-- Calibration record. Retention domain. -/
  cal : PedalCal
  state : PedalState
  glitchRun : Nat
  recoveryRun : Nat
  deriving DecidableEq, Repr

/-- DAMPER or SOFT: live reported, playback and effective level (R49, R51, R52). -/
structure LevelPedal where
  sense : PedalSense
  live : Nat
  playback : Nat
  effective : Nat
  deriving DecidableEq, Repr

/-- SOSTENUTO: live, playback and effective switch state (R50, R51, R52). -/
structure SwitchPedal where
  sense : PedalSense
  live : Bool
  playback : Bool
  effective : Bool
  deriving DecidableEq, Repr

structure PedalUnit where
  damper : LevelPedal
  sostenuto : SwitchPedal
  soft : LevelPedal
  deriving DecidableEq, Repr

/-! ### Note Router (R55 to R67) -/

/-- The two sources (R55). -/
inductive Source where
  | live
  | playback
  deriving DecidableEq, Repr

/-- One entry of the Sounding Table (R55). The key is SOUNDING exactly when an owner is present. -/
structure SoundEntry where
  owner : Option Source
  lastVelocity : Option Nat
  released : Bool
  announced : Bool
  deriving DecidableEq, Repr

/-- The monitor copy setting (R67). -/
inductive CopySetting where
  | off
  | all
  | range (lo hi : Nat)
  deriving DecidableEq, Repr

/-- The cause of a forced off, in the coding order of 12.5. -/
inductive Cause where
  | keyFault
  | fallboard
  | calibrationWrite
  | playbackStop
  | playbackPause
  | loopJump
  | panic
  deriving DecidableEq, Repr

structure Router where
  table : Vector SoundEntry 88
  /-- The Sostenuto Set in ascending order (R56). -/
  sostenutoSet : List Nat
  strayOff : Nat
  foreignOff : Nat
  droppedOn : Nat
  copy : CopySetting
  deriving DecidableEq, Repr

/-! ### Tone Stream (R68 to R83) -/

/-- The two pedals whose level goes to the tone processor. -/
inductive LevelId where
  | damper
  | soft
  deriving DecidableEq, Repr

/-- The flags of a note entry (R68). -/
structure NoteFlags where
  restrike : Bool := false
  forced : Bool := false
  transit : Bool := false
  deriving DecidableEq, Repr

/-- A Tone Queue entry (R68). -/
inductive ToneEntry where
  | noteOn (key velocity : Nat) (source : Source) (flags : NoteFlags) (time : Time)
  | noteOff (key velocity : Nat) (source : Source) (flags : NoteFlags) (time : Time)
  | pedal (pedal : LevelId) (level : Nat) (source : Source) (time : Time)
  | allOff (time : Time)
  | resync (time : Time)
  deriving DecidableEq, Repr

/-- An entry with its private admission time (R69). -/
structure Queued where
  entry : ToneEntry
  admitted : Time
  deriving DecidableEq, Repr

inductive ReadyMode where
  | single
  | burst
  deriving DecidableEq, Repr

/-- The slot of an open DRAIN exchange: none holding an entry, or the latched copy in flight (R75, R77). -/
inductive Slot where
  | idle
  | entry (copy : ToneEntry) (stale : Bool)
  deriving DecidableEq, Repr

structure Tone where
  queue : List Queued
  mode : ReadyMode
  trigger : Nat
  /-- The BURST latch of READY_T (R79). -/
  latch : Bool
  resyncs : Nat
  lastOverflow : Option Time
  /-- A DRAIN exchange is open on Link T, and its slot (R75). -/
  drain : Option Slot
  deriving DecidableEq, Repr

/-- The outcome of an offer (R57). -/
inductive Offer where
  | admitted
  | refused
  | discarded
  deriving DecidableEq, Repr

/-! ### Rail Drive (R84 to R110) -/

/-- The rail states in the order of the chapter's table, which is their coding order (R202). -/
inductive RailState where
  | unknown
  | retracted
  | engaged
  | waitQuiet
  | engaging
  | retracting
  | stalled
  | switchFault
  deriving DecidableEq, Repr

inductive Target where
  | engage
  | retract
  deriving DecidableEq, Repr

inductive MoveResult where
  | complete
  | abandoned
  | reversed
  | failed
  deriving DecidableEq, Repr

/-- The rail fault causes in their coding order (12.4). -/
inductive RailCause where
  | noSwitch
  | stall
  | timeout
  | overcurrent
  | bothSwitches
  deriving DecidableEq, Repr

structure RailFault where
  cause : RailCause
  target : Option Target
  count : Int
  time : Time
  deriving DecidableEq, Repr

inductive AlertMode where
  | comparator
  | oneShot
  | twoWay
  deriving DecidableEq, Repr

inductive Arm where
  | below
  | above
  deriving DecidableEq, Repr

/-- The phase of a run (R91); a dwell is the retry dwell of R97 or the reversal dwell of R93. -/
inductive Phase where
  | kick
  | ramp
  | retryDwell
  | reversalDwell
  deriving DecidableEq, Repr

/-- The phase of a run as it is reported: both dwells are DWELL (R91, R108). -/
inductive DutyPhase where
  | kick
  | ramp
  | dwell
  deriving DecidableEq, Repr

/-- The profile (R87). The retry dwell and the reversal dwell are fixed (`Config`). -/
structure Profile where
  kickDuty : Nat
  kickTime : Nat
  cruiseDuty : Nat
  approachDuty : Nat
  stepTime : Nat
  approachZone : Nat
  programmedTravel : Nat
  stallTime : Nat
  retries : Nat
  moveTimeout : Nat
  quietWait : Nat
  tripLimit : Nat
  alertLimit : Nat
  hysteresis : Nat
  alertMode : AlertMode
  park : Bool
  deriving DecidableEq, Repr

/-- The run record (R90): the captured profile, the phase and its end, the timers, the marks and the duty. A timer is held as
the time base at which it expires, absent while it is stopped. -/
structure Run where
  profile : Profile
  phase : Phase
  /-- End of the KICK or of a dwell. -/
  phaseEnd : Time
  /-- The next duty step in RAMP. -/
  nextStep : Time
  stallTimer : Option Time
  moveTimer : Time
  duty : Nat
  /-- The learned travel the run reckons its remaining pulses with: the one at its start, and at each pulse that serves it the
  one then held (R85, R87 step 4, R91). -/
  travel : Nat
  retriesUsed : Nat
  blind : Bool
  measured : Bool
  /-- Pulses in the run's direction since its start, for the blind check of R96. -/
  blindPulses : Nat
  deriving DecidableEq, Repr

structure Rail where
  state : RailState
  target : Option Target
  prior : Option RailState
  quietTimer : Option Time
  /-- Position count, −32,768..+32,767. Retention domain. -/
  count : Int
  known : Bool
  /-- Learned travel, 400..4000. Retention domain. -/
  learned : Nat
  /-- Resting state: RETRACTED, ENGAGED or UNKNOWN. Retention domain. -/
  resting : RailState
  /-- DISTURBED latch. Retention domain. -/
  disturbed : Bool
  run : Option Run
  arm : Arm
  alertRequested : Bool
  lastMove : Option MoveResult
  lastFault : Option RailFault
  lastCurrent : Option Nat
  stalls : Nat
  profile : Profile
  /-- Conditioned levels of RETRACT_END and ENGAGE_END (R86). -/
  retractEnd : Bool
  engageEnd : Bool
  /-- Conditioned level of the fallboard switch (R103). -/
  fallboardClosed : Bool
  deriving DecidableEq, Repr

/-! ### Audio Stage (R111 to R129) -/

/-- A stereo frame of the serial audio input. -/
structure StereoFrame where
  left : Sample24
  right : Sample24
  deriving DecidableEq, Repr

/-- A frame sent on the serial audio output. -/
structure SentFrame where
  left : Int
  right : Int
  deriving DecidableEq, Repr

/-- The mute-reason set (R118), a member present when its mark is set. -/
structure MuteSet where
  jackOut : Bool
  railNotEngaged : Bool
  railMoving : Bool
  underrun : Bool
  panelMute : Bool
  deriving DecidableEq, Repr

inductive Rate where
  | hz44100
  | hz48000
  deriving DecidableEq, Repr

inductive ClockMode where
  | stopped
  | free
  | recording
  | following
  deriving DecidableEq, Repr

/-- A position of the beat counter (R111). -/
structure BeatPos where
  bar : Nat
  beat : Nat
  deriving DecidableEq, Repr

/-- The click generator when not idle: whether the beat was beat 1, the amplitude once its first frame has taken it, and the
frame index (R121). -/
structure Click where
  first : Bool
  amplitude : Option Nat
  index : Nat
  deriving DecidableEq, Repr

/-- The alert generator when not idle: whether the segment is the 1200 Hz one, and the frame index (R122). -/
structure Alert where
  high : Bool
  index : Nat
  deriving DecidableEq, Repr

/-- The metronome settings (R126, R127). -/
structure Metro where
  tempo : Nat
  beats : Nat
  clickLevel : Nat
  beatCopy : Bool
  run : Bool
  deriving DecidableEq, Repr

structure Audio where
  fifo : List StereoFrame
  inUnderrun : Bool
  applied : Nat
  ramp : Nat
  mute : MuteSet
  jack1 : Bool
  jack2 : Bool
  /-- Rail conditions as last handed on (R105). -/
  moving : Bool
  engaged : Bool
  alertRequested : Bool
  rate : Rate
  volume : Nat
  refill : Nat
  rampInterval : Nat
  hpInAcoustic : Bool
  panelMute : Bool
  metro : Metro
  clock : ClockMode
  nextBeat : Option Time
  /-- The playback speed held (R123). -/
  playSpeed : Option Nat
  /-- A record click start stands unended (R123). -/
  recordClick : Bool
  /-- A play click start stands unended (R123). -/
  playClick : Bool
  /-- Tempo and beats per bar that stood at entry to RECORDING (R124). -/
  entryTempo : Nat
  entryBeats : Nat
  counter : Option BeatPos
  click : Option Click
  alert : Option Alert
  underruns : Nat
  overruns : Nat
  clips : Nat
  /-- The last frame sent on the serial audio output (R115). -/
  sent : Option SentFrame
  deriving DecidableEq, Repr

/-! ### Take Store (R130 to R149) -/

/-- The payload of a take record (R130). -/
inductive Payload where
  | noteOn (key : Nat) (high : Bool) (velocity : Nat)
  | noteOff (key velocity : Nat)
  | pedal (pedal : PedalId) (level : Nat)
  | beat (bar beat : Nat)
  | gap
  | ending
  deriving DecidableEq, Repr

/-- A take record: its delta in ms and its payload (R130). -/
structure Record where
  delta : Nat
  payload : Payload
  deriving DecidableEq, Repr

/-- A Block Map entry (R131): FREE, or a take and the next block of its chain (absent for END). -/
inductive BlockEntry where
  | free
  | used (take : Nat) (next : Option Nat)
  deriving DecidableEq, Repr

inductive TakeState where
  | recording
  | importing
  | closed
  deriving DecidableEq, Repr

structure TakeFlags where
  truncated : Bool := false
  interrupted : Bool := false
  imported : Bool := false
  deriving DecidableEq, Repr

/-- A tempo with its beats per bar (R133). -/
structure Tempo where
  bpm : Nat
  beats : Nat
  deriving DecidableEq, Repr

/-- A Take Directory entry that is not EMPTY (R133), with its use marks (R143; main domain). -/
structure Take where
  state : TakeState
  flags : TakeFlags
  count : Nat
  duration : Nat
  tempo : Option Tempo
  split : Nat
  name : Option (List Byte)
  serial : Nat
  first : Nat
  last : Nat
  playing : Bool
  exporting : Bool
  deriving DecidableEq, Repr

/-- The last level written for each pedal, or the levels a take has set. -/
structure PedalLevels where
  damper : Nat
  sostenuto : Bool
  soft : Nat
  deriving DecidableEq, Repr

/-- The recording context (7.3). Retention domain. -/
structure RecordingContext where
  take : Nat
  started : Bool
  /-- Exact time of the last record written, in µs from the take's start. -/
  position : Nat
  lastTime : Nat
  lastStamp : Time
  openNotes : List Nat
  levels : PedalLevels
  deriving DecidableEq, Repr

/-- The import context (7.4). Retention domain. -/
structure ImportContext where
  take : Nat
  written : Nat
  deltaSum : Nat
  deriving DecidableEq, Repr

/-- The Take Store (R148). All of it but the use marks lies in the retention domain. -/
structure Store where
  /-- Take memory: the bytes that differ from 0, by address, addresses rising (assumption 6). -/
  memory : List Host.Cell
  /-- The Take Directory; an EMPTY entry is absent. -/
  directory : Vector (Option Take) 16
  blockMap : Vector BlockEntry 2048
  freeList : List Nat
  serial : Nat
  recording : Option RecordingContext
  importing : Option ImportContext
  deriving DecidableEq, Repr

/-! ### Transport (R150 to R180) -/

inductive TransportState where
  | idle
  | armed
  | recording
  | seeking
  | playing
  | waiting
  | paused
  deriving DecidableEq, Repr

inductive ArmMode where
  | firstNote
  | immediate
  deriving DecidableEq, Repr

/-- A part mask: a subset of LOW and HIGH (R150). -/
structure Parts where
  low : Bool
  high : Bool
  deriving DecidableEq, Repr

/-- The wait in progress (R150, R158): target time, whether it runs toward B, the cursor time it runs from, the moment it
began, its length in ms and the speed used. -/
structure Wait where
  target : Nat
  towardB : Bool
  fromTime : Nat
  began : Time
  length : Nat
  speed : Nat
  deriving DecidableEq, Repr

/-- The seek in progress (R164). -/
structure Seek where
  target : Nat
  pausePending : Bool
  began : Time
  deriving DecidableEq, Repr

/-- The loop (R165): marks, repeats setting (0 is endless) and repeats left. -/
structure Loop where
  a : Nat
  b : Nat
  repeats : Nat
  left : Nat
  deriving DecidableEq, Repr

/-- The loop anchor (R166). -/
structure Anchor where
  record : Nat
  time : Nat
  levels : PedalLevels
  deriving DecidableEq, Repr

inductive CloseOutcome where
  | closed
  | discarded
  deriving DecidableEq, Repr

/-- The causes of R150, in its order. -/
inductive EndCause where
  | stop
  | ending
  | fallboard
  | reserve
  | limit
  deriving DecidableEq, Repr

structure CloseResult where
  take : Nat
  outcome : CloseOutcome
  flags : TakeFlags
  count : Nat
  duration : Nat
  cause : EndCause
  deriving DecidableEq, Repr

/-- An entry of the Recent Strikes list (R170). -/
structure RecentStrike where
  key : Nat
  time : Time
  deriving DecidableEq, Repr

/-- The gathering mark (R170). -/
structure GatherMark where
  first : Nat
  time : Nat
  last : Nat
  deriving DecidableEq, Repr

/-- The Transport record (R150) with the wait-mode state (R170). A field that a state does not hold keeps a value nothing
reads; a report names only what the state holds. -/
structure Transport where
  state : TransportState
  take : Option Nat
  click : Bool
  armMode : Option ArmMode
  cursor : Nat
  cursorTime : Nat
  carry : Nat
  speed : Nat
  parts : Parts
  waitMode : Bool
  delivered : List Nat
  levels : PedalLevels
  wait : Option Wait
  seek : Option Seek
  loop : Option Loop
  anchor : Option Anchor
  lastClose : Option CloseResult
  lastEnd : Option EndCause
  expected : List Nat
  recent : List RecentStrike
  mark : Option GatherMark
  waitingCount : Option Nat
  chordWindow : Nat
  leadWindow : Nat
  hits : Nat
  misses : Nat
  chords : Nat
  expectOverflow : Nat
  waitTime : Nat
  deriving DecidableEq, Repr

/-! ### Transfer Unit (R181 to R189) -/

/-- An export in progress (R181, R184, R185). -/
structure Export where
  take : Nat
  length : Nat
  cursor : Nat
  check : BitVec 16
  idle : Time
  endSeen : Bool
  upperSent : Bool
  lowerSent : Bool
  deriving DecidableEq, Repr

/-- The parsed header of an import (12.6). -/
structure Header where
  flags : TakeFlags
  count : Nat
  duration : Nat
  tempo : Option Tempo
  split : Nat
  name : Option (List Byte)
  serial : Nat
  deriving DecidableEq, Repr

/-- An import in progress (R181, R187). -/
structure Import where
  take : Nat
  declared : Nat
  expected : Nat
  check : BitVec 16
  received : List Byte
  headerBuffer : List Byte
  recordBuffer : List Byte
  header : Option Header
  openKeys : List Nat
  unbalanced : Bool
  ends : Nat
  lastIsEnd : Bool
  deltaSum : Nat
  idle : Time
  deriving DecidableEq, Repr

/-- The results of a transfer (R185, R189). -/
inductive TransferResult where
  | complete
  | closedEarly
  | length
  | check
  | format
  | noSpace
  | timeout
  deriving DecidableEq, Repr

structure LastTransfer where
  take : Nat
  result : TransferResult
  bytes : Nat
  deriving DecidableEq, Repr

structure Transfer where
  exporting : Option Export
  importing : Option Import
  lastExport : Option LastTransfer
  lastImport : Option LastTransfer
  deriving DecidableEq, Repr

/-! ### Links (R190 to R201) -/

/-- The notice kinds in the order of R194; the code of 12.4 is the place counted from 1. -/
inductive NoticeKind where
  | start
  | keyFault
  | calDone
  | queueResync
  | railState
  | railFault
  | railLoad
  | fallboard
  | jack
  | audioUnderrun
  | transport
  | takeClosed
  | transfer
  deriving DecidableEq, Repr

/-- The statuses of R191, in the coding order of 12.2. -/
inductive Status where
  | ok
  | accepted
  | busy
  | state
  | range
  | noSpace
  | notFound
  | check
  | format
  | order
  | length
  | unknown
  | timeout
  deriving DecidableEq, Repr

/-- A Panel Stream entry (R197, 12.5). -/
inductive PanelEntry where
  | noteCopy (entry : ToneEntry) (cause : Option Cause) (outcome : Offer)
  | keyWatch (key : Nat) (firstStamp : Time) (pairs : List WatchPair)
  | waitHit (key : Nat) (strike : Time) (early : Bool) (t0 left : Nat)
  | waitMiss (key : Nat) (strike : Time) (t0 inSet : Nat)
  | beat (pos : BeatPos) (time : Time) (mode : ClockMode)
  deriving DecidableEq, Repr

/-! ### Replies (the items each request's rule names) -/

/-- KEY_REPORT (R21). -/
structure KeyReport where
  state : KeyState
  cal : KeyCal
  lastRaw : Option Nat
  depth : Option Nat
  glitchRun : Nat
  recoveryRun : Nat
  previousLines : Bool
  strikes : Nat
  partials : Nat
  glitches : Nat
  inCapture : Bool
  deriving DecidableEq, Repr

/-- SOUNDING_REPORT (R66). -/
structure SoundingReport where
  table : Vector SoundEntry 88
  sostenutoSet : List Nat
  damper : Nat
  soft : Nat
  sostenuto : Bool
  strayOff : Nat
  foreignOff : Nat
  droppedOn : Nat
  deriving DecidableEq, Repr

/-- TONE_STREAM_SETUP (R81). -/
structure ToneReport where
  mode : ReadyMode
  trigger : Nat
  occupancy : Nat
  noteOns : Nat
  resyncs : Nat
  lastOverflow : Option Time
  deriving DecidableEq, Repr

/-- The run items of RAIL_STATUS (R108). -/
structure RunReport where
  phase : DutyPhase
  blind : Bool
  measured : Bool
  retriesUsed : Nat
  duty : Nat
  deriving DecidableEq, Repr

/-- RAIL_STATUS (R108). -/
structure RailReport where
  state : RailState
  target : Option Target
  prior : Option RailState
  retractEnd : Bool
  engageEnd : Bool
  fallboardClosed : Bool
  count : Int
  known : Bool
  learned : Nat
  resting : RailState
  disturbed : Bool
  run : Option RunReport
  arm : Arm
  alertRequested : Bool
  lastCurrent : Option Nat
  lastMove : Option MoveResult
  lastFault : Option RailFault
  stalls : Nat
  profile : Profile
  deriving DecidableEq, Repr

/-- The settings AUDIO_SETUP replies with (R112). -/
structure AudioSettings where
  rate : Rate
  volume : Nat
  refill : Nat
  rampInterval : Nat
  hpInAcoustic : Bool
  deriving DecidableEq, Repr

/-- AUDIO_REPORT (R128). -/
structure AudioReport where
  fill : Nat
  inUnderrun : Bool
  refill : Nat
  applied : Nat
  target : Nat
  volume : Nat
  rampInterval : Nat
  mute : MuteSet
  jack1 : Bool
  jack2 : Bool
  hpInAcoustic : Bool
  panelMute : Bool
  rate : Rate
  clickSounding : Bool
  alertSounding : Bool
  clock : ClockMode
  counter : Option BeatPos
  underruns : Nat
  overruns : Nat
  clips : Nat
  deriving DecidableEq, Repr

/-- One entry of TAKE_LIST (R144): the take number, and the entry with its number of blocks when not EMPTY. -/
structure TakeLine where
  number : Nat
  take : Option Take
  blocks : Nat
  deriving DecidableEq, Repr

/-- MEMORY_REPORT (R147). -/
structure MemoryReport where
  free : Nat
  reserve : Nat
  available : Nat
  used : Nat
  takes : Nat
  head : Option Nat
  serial : Nat
  deriving DecidableEq, Repr

/-- The TRANSPORT snapshot (R168). -/
structure TransportSnapshot where
  state : TransportState
  take : Option Nat
  cursorTime : Nat
  speed : Option Nat
  loop : Option Loop
  lastEnd : Option EndCause
  deriving DecidableEq, Repr

/-- TRANSPORT_REPORT (R168). -/
structure TransportReport where
  snapshot : TransportSnapshot
  cursor : Option Nat
  armMode : Option ArmMode
  click : Option Bool
  parts : Option Parts
  waitMode : Option Bool
  seek : Option Seek
  delivered : List Nat
  levels : Option PedalLevels
  anchor : Option Anchor
  lastClose : Option CloseResult
  deriving DecidableEq, Repr

/-- The settings PRACTICE_SET replies with (R178). -/
structure PracticeSettings where
  parts : Option Parts
  waitMode : Option Bool
  chordWindow : Nat
  leadWindow : Nat
  deriving DecidableEq, Repr

/-- WAIT_REPORT (R179). -/
structure WaitReport where
  hits : Nat
  misses : Nat
  chords : Nat
  expectOverflow : Nat
  waitTime : Nat
  expected : List Nat
  t0 : Option Nat
  waitingCount : Option Nat
  settings : PracticeSettings
  recent : List RecentStrike
  deriving DecidableEq, Repr

/-- The channel pointer of Link P (R193). -/
inductive Channel where
  | reply
  | status
  | stream
  deriving DecidableEq, Repr

/-- LINK_REPORT (R199). -/
structure LinkReport where
  malformed : Nat
  lostReplies : Nat
  streamDrops : Option Nat
  streamCount : Option Nat
  pointer : Option Channel
  pendingKinds : BitVec 16
  deriving DecidableEq, Repr

/-- How the last start came about (R201). -/
inductive StartCause where
  | resetPin
  | powerOn
  | restart
  deriving DecidableEq, Repr

/-- IDENTIFY (R199). -/
structure Identity where
  vendor : BitVec 16
  part : Nat
  revision : Nat
  kept : Bool
  cause : Option StartCause
  deriving DecidableEq, Repr

/-- The data of a reply: the items the request's rule names. `ReplyData.bytes` lays them out (R202; assumption 7). -/
inductive ReplyData where
  | none
  | keyCal (record : KeyCal)
  | pedalCal (record : PedalCal)
  | keyReport (report : KeyReport)
  | keyLines (current : LineSet) (onPrevious : Nat)
  | curve (points : Curve) (active slowLimit : Nat)
  | slowLimit (ms : Nat)
  | sounding (report : SoundingReport)
  | toneSetup (report : ToneReport)
  | flushed (entries : Nat)
  | railMove (already : Bool) (state : RailState) (target : Option Target)
  | profile (profile : Profile)
  | railStatus (report : RailReport)
  | disturbed (latch : Bool)
  | audioSettings (settings : AudioSettings)
  | muteSet (reasons : MuteSet)
  | metro (settings : Metro) (clock : ClockMode) (counter : Option BeatPos)
  | metroRun (run : Bool) (clock : ClockMode)
  | audioReport (report : AudioReport)
  | takes (lines : List TakeLine) (serial : Nat)
  | blocksFreed (blocks : Nat)
  | memory (report : MemoryReport)
  | takeOpened (take serial : Nat)
  | speed (percent : Nat)
  | transport (report : TransportReport)
  | practice (settings : PracticeSettings)
  | waitReport (report : WaitReport)
  | exportOpened (take serial length : Nat)
  | chunk (bytes : List Byte) (endMark : Bool)
  | expectedOffset (offset : Nat)
  | imported (take serial count : Nat)
  | identity (identity : Identity)
  | linkReport (report : LinkReport)
  | mask (mask : BitVec 16)
  /-- RESTART; `arms` when this request arranged the warm start (R200). -/
  | restart (arms : Bool)
  deriving DecidableEq, Repr

/-- A reply: a status and its data (R190). -/
structure Reply where
  status : Status
  data : ReplyData
  deriving DecidableEq, Repr

/-- A reply buffer (R190). -/
inductive Buffer where
  | empty
  | handling (kind : ReqKind) (frame : Frame)
  | ready (reply : Reply)
  deriving DecidableEq, Repr

/-- What the part has shifted out in the last exchange on a link: nothing yet, the bytes of a layout of 12.2 to 12.5, or a read
the processor cut short. -/
inductive LinkOut where
  | nothing
  | bytes (bytes : List Byte)
  | cutShort
  deriving DecidableEq, Repr

/-- One Link Interface (R190, R191, R194 to R196). A set of notice kinds holds kind c at bit (notice code − 1), as R196 lays
the mask out. -/
structure LinkIf where
  buffer : Buffer
  held : Option (ReqKind × Frame)
  board : BitVec 16
  mask : BitVec 16
  malformed : Nat
  lostReplies : Nat
  /-- The kinds taken into the status read in flight (R195). -/
  statusRead : Option (BitVec 16)
  out : LinkOut
  deriving DecidableEq, Repr

/-- What only Link P's interface holds: the Panel Stream, STREAM_DROPS, the channel pointer and the clock stretch in progress
(R193, R197). -/
structure PanelIf where
  stream : List PanelEntry
  drops : Nat
  pointer : Channel
  /-- The time base at which the clock stretch began. -/
  stretch : Option Time
  deriving DecidableEq, Repr

/-- What became of a take finished at a start (R201). -/
inductive FinishOutcome where
  | closed
  | discarded
  | importFailed
  deriving DecidableEq, Repr

/-- The START snapshot (R201). -/
structure StartInfo where
  warm : Bool
  cause : Option StartCause
  finished : List (Nat × FinishOutcome)
  disturbed : Bool
  deriving DecidableEq, Repr

/-- An arranged warm start (R200): the requesting link, the request's time, and whether its reply has been read to its last
byte. -/
structure Restart where
  link : Link
  requested : Time
  replyRead : Bool
  deriving DecidableEq, Repr

/-- Supplies, retention marker, last start and strap pins (R193, R200, R201). -/
structure System where
  /-- Main power is on. -/
  mainOn : Bool
  /-- The retention marker is valid. Retention domain. -/
  marker : Bool
  lastStart : StartInfo
  restart : Option Restart
  strap : BitVec 2
  deriving DecidableEq, Repr

/-- The whole part. `now` is the time base, `pending` the model's queue of commands that wait, first in, first out. -/
structure State where
  now : Time
  system : System
  scanner : Scanner
  strokes : Strokes
  pedals : PedalUnit
  router : Router
  tone : Tone
  rail : Rail
  audio : Audio
  store : Store
  transport : Transport
  transfer : Transfer
  linkT : LinkIf
  linkP : LinkIf
  panel : PanelIf
  pending : List Instr
  deriving DecidableEq, Repr

/-! ### Values after a start -/

/-- A key after a cold start (R22). -/
def Key.initial : Key :=
  { cal := { restRaw := 0, bottomRaw := 0, trim := 0, enabled := false }, state := .uncalibrated, lastRaw := none,
    lastPlausible := none, glitchRun := 0, recoveryRun := 0, previousLines := false, timing := none, slowMark := false,
    strikes := 0, partials := 0, glitches := 0 }

def Scanner.initial : Scanner :=
  { keys := Vector.replicate 88 Key.initial, capture := none, lastCapture := none, watch := none }

/-- The s values all four default curves share (R39). -/
def defaultSpeeds : List Nat :=
  [0, 2000, 5000, 10000, 20000, 30000, 45000, 60000, 80000, 100000, 130000, 170000, 220000, 300000, 420000, 600000]

def defaultCurve (velocities : List Nat) : Curve := List.zipWith Breakpoint.mk defaultSpeeds velocities

/-- The default curves NORMAL, LIGHT, HEAVY and FIXED (R39). -/
def defaultCurves : List Curve :=
  [ defaultCurve [1, 8, 16, 24, 34, 42, 52, 64, 80, 90, 100, 108, 115, 120, 124, 127],
    defaultCurve [1, 12, 22, 32, 44, 54, 64, 76, 90, 99, 108, 114, 119, 123, 126, 127],
    defaultCurve [1, 4, 10, 16, 24, 32, 42, 52, 66, 78, 90, 100, 108, 115, 121, 127],
    defaultCurve (List.replicate 16 80) ]

/-- The key lines after any start (R24). -/
def defaultLines : LineSet := { start := 200, damp := 350, rearm := 650, strike := 800 }

def Strokes.initial : Strokes :=
  { current := defaultLines, previous := none, curves := defaultCurves, active := 0, slowLimit := 500 }

def PedalSense.initial : PedalSense :=
  { cal := { restRaw := 0, fullRaw := 0, enabled := false }, state := .invalid, glitchRun := 0, recoveryRun := 0 }

def LevelPedal.initial : LevelPedal := { sense := PedalSense.initial, live := 0, playback := 0, effective := 0 }

def SwitchPedal.initial : SwitchPedal :=
  { sense := PedalSense.initial, live := false, playback := false, effective := false }

/-- The Pedal Unit after a cold start (R54). -/
def PedalUnit.initial : PedalUnit :=
  { damper := LevelPedal.initial, sostenuto := SwitchPedal.initial, soft := LevelPedal.initial }

def SoundEntry.initial : SoundEntry := { owner := none, lastVelocity := none, released := false, announced := false }

/-- The Note Router after any start (R55, R56, R66, R67). -/
def Router.initial : Router :=
  { table := Vector.replicate 88 SoundEntry.initial, sostenutoSet := [], strayOff := 0, foreignOff := 0, droppedOn := 0,
    copy := .off }

/-- The Tone Stream after any start (R83). -/
def Tone.initial : Tone :=
  { queue := [], mode := .burst, trigger := 8, latch := false, resyncs := 0, lastOverflow := none, drain := none }

/-- The default profile (R87). -/
def Profile.default : Profile :=
  { kickDuty := 200, kickTime := 100, cruiseDuty := 140, approachDuty := 80, stepTime := 2, approachZone := 180,
    programmedTravel := 1200, stallTime := 80, retries := 2, moveTimeout := 3000, quietWait := 1500, tripLimit := 1200,
    alertLimit := 800, hysteresis := 600, alertMode := .oneShot, park := false }

/-- The rail record after a cold start with neither switch active and the fallboard open (R110). -/
def Rail.initial : Rail :=
  { state := .unknown, target := none, prior := none, quietTimer := none, count := 0, known := false, learned := 1200,
    resting := .unknown, disturbed := false, run := none, arm := .below, alertRequested := false, lastMove := none,
    lastFault := none, lastCurrent := none, stalls := 0, profile := Profile.default, retractEnd := false,
    engageEnd := false, fallboardClosed := false }

def Metro.initial : Metro := { tempo := 120, beats := 4, clickLevel := 8, beatCopy := false, run := false }

/-- The Audio Stage after a start with no jack inserted and the rail in UNKNOWN (R129). The tempo and beats per bar at an entry to
RECORDING have no value before the first such entry; the 120 and 4 here are the model's, and no rule reads them before an entry sets
them (DESIGN CHOICE, assumption 46). -/
def Audio.initial : Audio :=
  { fifo := [], inUnderrun := true, applied := 0, ramp := 0,
    mute := { jackOut := true, railNotEngaged := true, railMoving := false, underrun := true, panelMute := false },
    jack1 := false, jack2 := false, moving := false, engaged := false, alertRequested := false, rate := .hz48000,
    volume := 40, refill := 32, rampInterval := 8, hpInAcoustic := false, panelMute := false, metro := Metro.initial,
    clock := .stopped, nextBeat := none, playSpeed := none, recordClick := false, playClick := false, entryTempo := 120,
    entryBeats := 4, counter := none, click := none, alert := none, underruns := 0, overruns := 0, clips := 0, sent := none }

/-- The Take Store's empty state (R148). -/
def Store.initial : Store :=
  { memory := [], directory := Vector.replicate 16 none, blockMap := Vector.replicate 2048 .free,
    freeList := List.range 2048, serial := 0, recording := none, importing := none }

def PedalLevels.zero : PedalLevels := { damper := 0, sostenuto := false, soft := 0 }

/-- The Transport after any start (R169, R170). -/
def Transport.initial : Transport :=
  { state := .idle, take := none, click := false, armMode := none, cursor := 0, cursorTime := 0, carry := 0, speed := 100,
    parts := { low := true, high := true }, waitMode := false, delivered := [], levels := PedalLevels.zero, wait := none,
    seek := none, loop := none, anchor := none, lastClose := none, lastEnd := none, expected := [], recent := [],
    mark := none, waitingCount := none, chordWindow := 40, leadWindow := 100, hits := 0, misses := 0, chords := 0,
    expectOverflow := 0, waitTime := 0 }

/-- The Transfer Unit after any start (R181). -/
def Transfer.initial : Transfer := { exporting := none, importing := none, lastExport := none, lastImport := none }

/-- A link after any start (R200) with the mask it starts with (R196); the board holds START alone. -/
def LinkIf.initial (mask : BitVec 16) : LinkIf :=
  { buffer := .empty, held := none, board := 0x0001#16, mask := mask, malformed := 0, lostReplies := 0, statusRead := none,
    out := .nothing }

/-- Link T's mask after any start: START, QUEUE_RESYNC, RAIL_STATE, RAIL_FAULT and JACK (R196). -/
def startMaskT : BitVec 16 := 0x0139#16

/-- Link P's mask after any start: every kind (R196). -/
def startMaskP : BitVec 16 := 0x1FFF#16

def PanelIf.initial : PanelIf := { stream := [], drops := 0, pointer := .reply, stretch := none }

/-- After a cold start: main power on and the marker made valid (R200). -/
def System.initial : System :=
  { mainOn := true, marker := true, lastStart := { warm := false, cause := none, finished := [], disturbed := false },
    restart := none, strap := 0 }

/-- The machine right after reset: a cold start at time base 0 that finds neither end switch active, the fallboard open, no
jack inserted and both strap pins low (assumption 8). -/
def State.reset : State :=
  { now := 0, system := System.initial, scanner := Scanner.initial, strokes := Strokes.initial, pedals := PedalUnit.initial,
    router := Router.initial, tone := Tone.initial, rail := Rail.initial, audio := Audio.initial, store := Store.initial,
    transport := Transport.initial, transfer := Transfer.initial, linkT := LinkIf.initial startMaskT,
    linkP := LinkIf.initial startMaskP, panel := PanelIf.initial, pending := [] }

end Sys2Proof.Machine
end

