-- ==== Sys2Proof/Machine/Ops.lean ====
section
/-! DEFINITION. The operations every block shares: time, saturating counters, clamps, key and table access, sets, take memory,
and the depth of a raw reading. -/

namespace Sys2Proof.Machine

open Sys2Proof

/-! ### Time and counters -/

/-- The time base `now` has reached `deadline`: it lies at or after it on the time base modulo 2^32. Every timer of the part
is far shorter than the half turn this test allows. -/
def reached (now deadline : Time) : Bool := decide ((now - deadline).toNat < 2147483648)

/-- A saturating counter rises by one and stops at its maximum (00_scope, "Counters"). -/
def satInc (maximum n : Nat) : Nat := min (n + 1) maximum

/-- A saturating counter rises by `d` and stops at its maximum. -/
def satAdd (maximum n d : Nat) : Nat := min (n + d) maximum

/-- A scalar level is clamped into its stated range (00_scope, "Settings"). -/
def clamp (lo hi n : Nat) : Nat := max lo (min n hi)

/-- An integer clamped into `lo..hi`, as a number. -/
def clampInt (lo hi : Nat) (n : Int) : Nat := (max (lo : Int) (min n hi)).toNat

/-! ### Sets held in ascending order -/

/-- `x` joins a set held in ascending order; a set holds no duplicates (00_scope, "Sets, lists and queues"). -/
def insertNum (x : Nat) : List Nat → List Nat
  | [] => [x]
  | y :: ys => if x < y then x :: y :: ys else if x = y then y :: ys else y :: insertNum x ys

/-- `x` leaves a set. -/
def removeNum (x : Nat) (l : List Nat) : List Nat := l.filter (fun y => y != x)

/-- Keys 1 to 88 in ascending order. -/
def keyNumbers : List Nat := (List.range 88).map (· + 1)

/-- The pedals in the order DAMPER, SOSTENUTO, SOFT. -/
def pedalOrder : List PedalId := [.damper, .sostenuto, .soft]

/-! ### Keys and tables -/

/-- The place of item `n` in a table numbered from 1; 0 numbers no item, so its place lies past every table of the part. -/
def slotOf (n : Nat) : Nat := if n = 0 then Config.takeBlocks else n - 1

/-- The record of key `k`, numbered 1..88. -/
def State.key (s : State) (k : Nat) : Key := (s.scanner.keys[slotOf k]?).getD Key.initial

/-- Key `k`'s record is replaced. -/
def State.setKey (s : State) (k : Nat) (key : Key) : State :=
  { s with scanner := { s.scanner with keys := s.scanner.keys.setIfInBounds (slotOf k) key } }

/-- Key `k`'s entry of the Sounding Table. -/
def State.sound (s : State) (k : Nat) : SoundEntry := (s.router.table[slotOf k]?).getD SoundEntry.initial

/-- Key `k`'s entry of the Sounding Table is replaced. -/
def State.setSound (s : State) (k : Nat) (entry : SoundEntry) : State :=
  { s with router := { s.router with table := s.router.table.setIfInBounds (slotOf k) entry } }

/-- Take `n`'s Take Directory entry, absent when EMPTY (R133). -/
def Store.entry (st : Store) (n : Nat) : Option Take := (st.directory[slotOf n]?).getD none

/-- Take `n`'s Take Directory entry is replaced. -/
def Store.setEntry (st : Store) (n : Nat) (e : Option Take) : Store :=
  { st with directory := st.directory.setIfInBounds (slotOf n) e }

/-- Take numbers are 1..16 (R133). -/
def isTake (n : Nat) : Bool := decide (1 ≤ n) && decide (n ≤ 16)

/-- A change to the Take Store alone. -/
def State.modStore (f : Store → Store) (s : State) : State := { s with store := f s.store }

/-- A change to the Transport alone. -/
def State.modTransport (f : Transport → Transport) (s : State) : State := { s with transport := f s.transport }

/-- A change to the rail record alone. -/
def State.modRail (f : Rail → Rail) (s : State) : State := { s with rail := f s.rail }

/-- A change to the Audio Stage alone. -/
def State.modAudio (f : Audio → Audio) (s : State) : State := { s with audio := f s.audio }

/-- A change to one Link Interface alone. -/
def State.modLink (l : Link) (f : LinkIf → LinkIf) (s : State) : State :=
  match l with
  | .t => { s with linkT := f s.linkT }
  | .p => { s with linkP := f s.linkP }

/-- One Link Interface. -/
def State.link (s : State) (l : Link) : LinkIf :=
  match l with
  | .t => s.linkT
  | .p => s.linkP

/-! ### Key states -/

/-- The stroke states: REST, DESCENDING, STRUCK and REARMED (R23). -/
def KeyState.isStroke : KeyState → Bool
  | .rest => true
  | .descending => true
  | .struck => true
  | .rearmed => true
  | .uncalibrated => false
  | .suspended => false
  | .fault => false
  | .capture => false

/-- The states the stroke count counts: DESCENDING, STRUCK and REARMED (R34). -/
def KeyState.inFlight : KeyState → Bool
  | .descending => true
  | .struck => true
  | .rearmed => true
  | .rest => false
  | .uncalibrated => false
  | .suspended => false
  | .fault => false
  | .capture => false

/-- The stroke count (R34): the number of keys in DESCENDING, STRUCK or REARMED. -/
def State.strokeCount (s : State) : Nat := s.scanner.keys.toList.countP (fun k => k.state.inFlight)

/-- The keyboard is quiet while the stroke count is 0 (R34). -/
def State.quiet (s : State) : Bool := s.scanner.keys.toList.all (fun k => !k.state.inFlight)

/-- The number of keys whose records name the previous line set (R25). -/
def State.onPrevious (s : State) : Nat := s.scanner.keys.toList.countP (fun k => k.previousLines)

/-! ### Plausibility, validity and depth -/

/-- A raw reading is plausible when it lies in 8..1015 (1.2). -/
def plausible (raw : Nat) : Bool := decide (Config.plausibleLow ≤ raw) && decide (raw ≤ Config.plausibleHigh)

/-- The absolute difference of two raw values. -/
def rawDistance (a b : Nat) : Nat := max a b - min a b

/-- A key record is valid when it is enabled and its raw values differ by at least 64 (R2). -/
def KeyCal.valid (r : KeyCal) : Bool := r.enabled && decide (Config.minimumSpan ≤ rawDistance r.restRaw r.bottomRaw)

/-- A pedal record is valid on the same terms (R2). -/
def PedalCal.valid (r : PedalCal) : Bool := r.enabled && decide (Config.minimumSpan ≤ rawDistance r.restRaw r.fullRaw)

/-- The depth of a raw reading between the rest raw and the bottom or full raw: the quotient truncated toward zero, then
clamped into 0..1000 (R3). -/
def depthOf (raw restRaw bottomRaw : Nat) : Nat :=
  clampInt 0 1000 (Int.tdiv (((raw : Int) - restRaw) * 1000) ((bottomRaw : Int) - restRaw))

/-- The state a key takes when it leaves a capture or its record is written: SUSPENDED with a valid record, UNCALIBRATED
without (R12, R15 to R17, R22). -/
def KeyCal.settledState (r : KeyCal) : KeyState := if r.valid then .suspended else .uncalibrated

/-! ### Take memory: a byte list in one canonical form -/

/-- The byte at address `a`; an address that is not listed reads as 0 (assumption 6). -/
def Memory.read : List Host.Cell → Nat → Byte
  | [], _ => 0
  | (b, v) :: rest, a => if a = b then v else if a < b then 0 else Memory.read rest a

/-- The byte at address `a` becomes `v`; writing 0 removes the entry, so that equal memories are equal lists. -/
def Memory.write (a : Nat) (v : Byte) : List Host.Cell → List Host.Cell
  | [] => if v = 0 then [] else [(a, v)]
  | (b, w) :: rest =>
    if a < b then (if v = 0 then (b, w) :: rest else (a, v) :: (b, w) :: rest)
    else if a = b then (if v = 0 then rest else (a, v) :: rest)
    else (b, w) :: Memory.write a v rest

/-- `n` bytes from address `a` up. -/
def Memory.readBytes (m : List Host.Cell) (a : Nat) : Nat → List Byte
  | 0 => []
  | n + 1 => Memory.read m a :: Memory.readBytes m (a + 1) n

/-- Bytes are written from address `a` up. -/
def Memory.writeBytes (a : Nat) : List Byte → List Host.Cell → List Host.Cell
  | [], m => m
  | v :: vs, m => Memory.writeBytes (a + 1) vs (Memory.write a v m)

/-- Every address lies at or above `low` and rises strictly, and no entry equals what an unlisted address reads as. -/
def Memory.wfFrom (low : Nat) : List Host.Cell → Bool
  | [] => true
  | (b, v) :: rest => decide (low ≤ b) && decide (v ≠ 0) && Memory.wfFrom (b + 1) rest

/-- The canonical form of take memory. -/
def Memory.wf (m : List Host.Cell) : Bool := Memory.wfFrom 0 m

end Sys2Proof.Machine
end

