-- ==== Sys2Proof/Machine/Flags.lean ====
section
/-! DEFINITION. The part's flags and lines: posting notices on the status boards (R194), offers to the Panel Stream (R197),
the attention lines (R198), READY_T (R78, R79), the target index (R111) and the motor outputs (R91). -/

namespace Sys2Proof.Machine

open Sys2Proof

/-- The place of a notice kind in the list of R194, counted from 0; its code is one more (12.4). -/
def NoticeKind.place : NoticeKind → Nat
  | .start => 0
  | .keyFault => 1
  | .calDone => 2
  | .queueResync => 3
  | .railState => 4
  | .railFault => 5
  | .railLoad => 6
  | .fallboard => 7
  | .jack => 8
  | .audioUnderrun => 9
  | .transport => 10
  | .takeClosed => 11
  | .transfer => 12

/-- The notice kinds in the order of R194. -/
def noticeOrder : List NoticeKind :=
  [.start, .keyFault, .calDone, .queueResync, .railState, .railFault, .railLoad, .fallboard, .jack, .audioUnderrun,
   .transport, .takeClosed, .transfer]

/-- A kind's bit in a set of kinds: bit (notice code − 1) (R196). -/
def NoticeKind.bit (k : NoticeKind) : BitVec 16 := 1#16 <<< k.place

/-- A kind is in a set of kinds. -/
def hasKind (kinds : BitVec 16) (k : NoticeKind) : Bool := kinds &&& k.bit != 0#16

/-- A board takes a posting: a kind outside the mask changes nothing, and a kind already pending changes nothing (R194). -/
def LinkIf.post (k : NoticeKind) (l : LinkIf) : LinkIf := { l with board := l.board ||| (l.mask &&& k.bit) }

/-- A block posts a kind on both status boards (R194). -/
def State.post (k : NoticeKind) (s : State) : State := { s with linkT := s.linkT.post k, linkP := s.linkP.post k }

/-- An entry is offered to the Panel Stream: it joins below 64 entries, and is dropped and counted at 64 (R197). -/
def State.panelOffer (e : PanelEntry) (s : State) : State :=
  if s.panel.stream.length < Config.panelCapacity then { s with panel := { s.panel with stream := s.panel.stream ++ [e] } }
  else { s with panel := { s.panel with drops := satInc Config.maxCount8 s.panel.drops } }

/-- ATTN_T is asserted while Link T's board holds any pending kind (R198). -/
def State.attnT (s : State) : Bool := s.linkT.board != 0#16

/-- ATTN_P is asserted while Link P's board holds any pending kind or the Panel Stream any entry (R198). -/
def State.attnP (s : State) : Bool := s.linkP.board != 0#16 || !s.panel.stream.isEmpty

/-- READY_T: in SINGLE mode asserted while the queue is nonempty (R78), in BURST mode the latch (R79). -/
def Tone.ready (t : Tone) : Bool :=
  match t.mode with
  | .single => !t.queue.isEmpty
  | .burst => t.latch

/-- The occupancy of the Tone Queue (R69). -/
def Tone.occupancy (t : Tone) : Nat := t.queue.length

/-- An entry is a NOTE_ON. -/
def ToneEntry.isNoteOn : ToneEntry → Bool
  | .noteOn .. => true
  | .noteOff .. => false
  | .pedal .. => false
  | .allOff _ => false
  | .resync _ => false

/-- The NOTE_ON count of the Tone Queue (R69). -/
def Tone.noteOns (t : Tone) : Nat := t.queue.countP (fun q => q.entry.isNoteOn)

/-- The mute-reason set is empty. -/
def MuteSet.isEmpty (m : MuteSet) : Bool :=
  !m.jackOut && !m.railNotEngaged && !m.railMoving && !m.underrun && !m.panelMute

/-- The target index: the volume while the mute-reason set is empty, 0 otherwise (R111). -/
def Audio.targetIndex (a : Audio) : Nat := if a.mute.isEmpty then a.volume else 0

/-- The rail moves: ENGAGING or RETRACTING. -/
def RailState.moving : RailState → Bool
  | .engaging => true
  | .retracting => true
  | .unknown => false
  | .retracted => false
  | .engaged => false
  | .waitQuiet => false
  | .stalled => false
  | .switchFault => false

/-- The PWM duty: the run's duty, and 0 in every state without a run (R91). -/
def Rail.duty (r : Rail) : Nat :=
  match r.run with
  | some run => run.duty
  | none => 0

/-- The direction output points toward the target in every phase of a run (R91); the manual gives it no level otherwise. -/
def Rail.direction (r : Rail) : Option Target :=
  match r.run with
  | some _ => r.target
  | none => none

/-- A click is sounding: begun and within its 20 ms, 960 frames at 48 kHz or 882 at 44.1 kHz (R121). -/
def Rate.clickFrames : Rate → Nat
  | .hz44100 => 882
  | .hz48000 => 960

/-- The output frames of an alert segment, 500 ms (R122). -/
def Rate.alertFrames : Rate → Nat
  | .hz44100 => 22050
  | .hz48000 => 24000

/-- The output rate in frames per second. -/
def Rate.hertz : Rate → Nat
  | .hz44100 => 44100
  | .hz48000 => 48000

/-- Whether a click is sounding (R121, R128). From its beat on, before the first output frame too, a started click counts as
sounding (DEDUCED, assumption 24). -/
def Audio.clickSounding (a : Audio) : Bool :=
  match a.click with
  | some c => decide (c.index < a.rate.clickFrames)
  | none => false

end Sys2Proof.Machine
end

