-- ==== Sys2Proof/Machine/Operands.lean ====
section
/-! DEFINITION. The byte layouts of 12_formats: the codes and lengths of requests, the reading of parameters and optional
items, and the layouts of Tone Stream entries, Panel Stream entries, take records and transfer headers. -/

namespace Sys2Proof.Machine

open Sys2Proof

/-! ### Byte order (R202) -/

/-- `width` bytes of a number, most significant byte first (R202). -/
def beBytes : Nat → Nat → List Byte
  | 0, _ => []
  | width + 1, n => BitVec.ofNat 8 (n / 256 ^ width) :: beBytes width n

/-- The number that bytes spell, most significant byte first (R202). -/
def beNat (l : List Byte) : Nat := l.foldl (fun acc b => acc * 256 + b.toNat) 0

/-- A signed field of 16 bits in two's complement (R202). -/
def be16Signed (n : Int) : List Byte := beBytes 2 (BitVec.ofInt 16 n).toNat

/-- The field of `width` bytes at byte `at_` of the parameters. -/
def field (p : List Byte) (at_ width : Nat) : Nat := beNat ((p.drop at_).take width)

/-- The signed byte at byte `at_` of the parameters (the key trim, R202). -/
def signedField (p : List Byte) (at_ : Nat) : Int := (p.getD at_ 0).toInt

/-- Yes is 1 and no is 0 (R202); any other value has no code. -/
def yesNo (n : Nat) : Option Bool := if n = 0 then some false else if n = 1 then some true else none

/-- Yes or no as its code (R202). -/
def boolCode (b : Bool) : Nat := if b then 1 else 0

/-! ### Request kinds (12.2) -/

/-- A request kind's code. -/
def reqCode : ReqKind → Option Nat
  | .calWrite => some 0x10
  | .calRead => some 0x11
  | .calCaptureRest => some 0x12
  | .calCaptureBottom => some 0x13
  | .keyWatch => some 0x14
  | .keyReport => some 0x15
  | .keyLines => some 0x18
  | .curveWrite => some 0x19
  | .curveSelect => some 0x1A
  | .curveRead => some 0x1B
  | .strokeSlowLimit => some 0x1C
  | .noteCopy => some 0x20
  | .soundingReport => some 0x21
  | .allNotesOff => some 0x22
  | .toneStreamSetup => some 0x24
  | .flushTone => some 0x25
  | .railEngage => some 0x28
  | .railRetract => some 0x29
  | .railStatus => some 0x2A
  | .railAck => some 0x2B
  | .railClearDisturbed => some 0x2C
  | .railProfile => some 0x2D
  | .audioSetup => some 0x30
  | .audioMute => some 0x31
  | .metroSet => some 0x32
  | .metroRun => some 0x33
  | .audioReport => some 0x34
  | .takeList => some 0x38
  | .takeDelete => some 0x39
  | .takeName => some 0x3A
  | .memoryReport => some 0x3B
  | .takeRecord => some 0x40
  | .takePlay => some 0x41
  | .takeStop => some 0x42
  | .takePause => some 0x43
  | .takeResume => some 0x44
  | .takeSpeed => some 0x45
  | .takeSeek => some 0x46
  | .loopSet => some 0x47
  | .loopClear => some 0x48
  | .transportReport => some 0x49
  | .practiceSet => some 0x4C
  | .waitReport => some 0x4D
  | .exportOpen => some 0x50
  | .exportRead => some 0x51
  | .exportClose => some 0x52
  | .importOpen => some 0x53
  | .importWrite => some 0x54
  | .importClose => some 0x55
  | .identify => some 0x58
  | .linkReport => some 0x59
  | .restart => some 0x5A
  | .statusMask => some 0x5B
  | .unknown => none

/-- A request kind's minimum parameter length in bytes. -/
def reqMinLength : ReqKind → Nat
  | .calWrite => 7
  | .calRead => 1
  | .calCaptureRest => 0
  | .calCaptureBottom => 1
  | .keyWatch => 1
  | .keyReport => 2
  | .keyLines => 0
  | .curveWrite => 65
  | .curveSelect => 1
  | .curveRead => 1
  | .strokeSlowLimit => 2
  | .noteCopy => 3
  | .soundingReport => 1
  | .allNotesOff => 0
  | .toneStreamSetup => 1
  | .flushTone => 0
  | .railEngage => 0
  | .railRetract => 0
  | .railStatus => 1
  | .railAck => 0
  | .railClearDisturbed => 0
  | .railProfile => 3
  | .audioSetup => 1
  | .audioMute => 1
  | .metroSet => 1
  | .metroRun => 1
  | .audioReport => 1
  | .takeList => 1
  | .takeDelete => 1
  | .takeName => 1
  | .memoryReport => 0
  | .takeRecord => 3
  | .takePlay => 2
  | .takeStop => 0
  | .takePause => 0
  | .takeResume => 0
  | .takeSpeed => 1
  | .takeSeek => 4
  | .loopSet => 9
  | .loopClear => 0
  | .transportReport => 0
  | .practiceSet => 1
  | .waitReport => 1
  | .exportOpen => 1
  | .exportRead => 3
  | .exportClose => 0
  | .importOpen => 4
  | .importWrite => 3
  | .importClose => 0
  | .identify => 0
  | .linkReport => 1
  | .restart => 0
  | .statusMask => 2
  | .unknown => 0

/-- Every request kind, in the order of 12.2's chapters. -/
def requestKinds : List ReqKind :=
  [.calWrite, .calRead, .calCaptureRest, .calCaptureBottom, .keyWatch, .keyReport, .keyLines, .curveWrite,
   .curveSelect, .curveRead, .strokeSlowLimit, .noteCopy, .soundingReport, .allNotesOff, .toneStreamSetup, .flushTone,
   .railEngage, .railRetract, .railStatus, .railAck, .railClearDisturbed, .railProfile, .audioSetup, .audioMute,
   .metroSet, .metroRun, .audioReport, .takeList, .takeDelete, .takeName, .memoryReport, .takeRecord, .takePlay,
   .takeStop, .takePause, .takeResume, .takeSpeed, .takeSeek, .loopSet, .loopClear, .transportReport, .practiceSet,
   .waitReport, .exportOpen, .exportRead, .exportClose, .importOpen, .importWrite, .importClose, .identify,
   .linkReport, .restart, .statusMask]

/-- The request kind a kind byte names; a code not listed is answered UNKNOWN (12.2). -/
def reqOfCode (code : Nat) : ReqKind := (requestKinds.find? (fun k => reqCode k == some code)).getD .unknown

/-! ### Optional items (R203) -/

/-- The items a presence field marks, of the given widths, in order from bit 0 up; absent when the frame is too short for the
items it marks (R203). -/
def readItems : List Nat → Nat → List Byte → Option (List (Option Nat))
  | [], _, _ => some []
  | w :: ws, bits, rest =>
    if bits % 2 = 1 then
      if rest.length < w then none
      else (readItems ws (bits / 2) (rest.drop w)).map (fun l => some (beNat (rest.take w)) :: l)
    else (readItems ws (bits / 2) rest).map (fun l => none :: l)

/-- The widths of RAIL_PROFILE's items, in presence-bit order (R87). -/
def profileWidths : List Nat := [1, 2, 1, 1, 1, 2, 2, 2, 1, 2, 2, 2, 2, 2, 1, 1]

/-- The optional items of the kinds that carry some (R203): the presence bytes, which open the parameters, the bytes that the kind
always carries between them and the items (TAKE_PLAY's take, by assumption 14), and the widths of the items in the order of the owning
rule. -/
def itemLayout (kind : ReqKind) : Option (Nat × Nat × List Nat) :=
  if kind = .toneStreamSetup then some (1, 0, [1, 1, 1])
  else if kind = .railProfile then some (3, 0, profileWidths)
  else if kind = .audioSetup then some (1, 0, [1, 1, 1, 1, 1])
  else if kind = .metroSet then some (1, 0, [2, 1, 1, 1])
  else if kind = .takePlay then some (1, 1, [4, 1, 1, 1, 1])
  else if kind = .practiceSet then some (1, 0, [1, 1, 1, 1])
  else none

/-- The optional items that a frame of a kind carries; absent when it is too short for the items it marks (R203). -/
def optionalItems (kind : ReqKind) (p : List Byte) : Option (List (Option Nat)) :=
  match itemLayout kind with
  | some (presence, fixed, widths) => readItems widths (field p 0 presence) (p.drop (presence + fixed))
  | none => some []

/-- Parameters of the kind's minimum length or more are long enough for what they mark: their optional items, and for KEY_LINES the
whole set when any byte of it is carried (R191, R203). -/
def paramsFit (kind : ReqKind) (p : List Byte) : Bool :=
  if kind = .keyLines then decide (p.length = 0) || decide (8 ≤ p.length) else (optionalItems kind p).isSome

/-- The item at a place of a list of optional items. -/
def item (l : List (Option Nat)) (i : Nat) : Option Nat := (l[i]?).getD none

/-- A bit at or above `count` of a presence field is reserved (R203). -/
def reservedBits (bits count : Nat) : Bool := bits / 2 ^ count != 0

/-! ### Codes of enumerated values (R202: the place in the owning rule's list, from 1) -/

def pedalCode : PedalId → Nat
  | .damper => 1
  | .sostenuto => 2
  | .soft => 3

def pedalOfCode : Nat → Option PedalId
  | 1 => some .damper
  | 2 => some .sostenuto
  | 3 => some .soft
  | _ => none

def LevelId.code : LevelId → Nat
  | .damper => 1
  | .soft => 3

def Cause.code : Cause → Nat
  | .keyFault => 1
  | .fallboard => 2
  | .calibrationWrite => 3
  | .playbackStop => 4
  | .playbackPause => 5
  | .loopJump => 6
  | .panic => 7

def Offer.code : Offer → Nat
  | .admitted => 1
  | .refused => 2
  | .discarded => 3

def ClockMode.code : ClockMode → Nat
  | .stopped => 1
  | .free => 2
  | .recording => 3
  | .following => 4

def optionCode (l : Option Nat) : Nat := l.getD 0

/-! ### Tone Stream entry (12.3) -/

/-- Byte 3 of an entry: bit 7 source, bit 0 RESTRIKE, bit 1 FORCED, bit 2 TRANSIT. -/
def sourceFlags (source : Source) (flags : NoteFlags) : Nat :=
  (match source with
    | .live => 0
    | .playback => 128) + boolCode flags.restrike + 2 * boolCode flags.forced + 4 * boolCode flags.transit

/-- Bytes 0 to 3 of an entry: kind, target, value, source and flags. -/
def ToneEntry.head : ToneEntry → List Nat
  | .noteOn key velocity source flags _ => [1, key, velocity, sourceFlags source flags]
  | .noteOff key velocity source flags _ => [2, key, velocity, sourceFlags source flags]
  | .pedal p level source _ => [3, p.code, level, sourceFlags source {}]
  | .allOff _ => [4, 0, 0, 0]
  | .resync _ => [5, 0, 0, 0]

/-- The time every entry carries (R68). -/
def ToneEntry.time : ToneEntry → Time
  | .noteOn _ _ _ _ time => time
  | .noteOff _ _ _ _ time => time
  | .pedal _ _ _ time => time
  | .allOff time => time
  | .resync time => time

/-- A time-base value as 4 bytes. -/
def timeBytes (t : Time) : List Byte := beBytes 4 t.toNat

/-- The 8 bytes of an entry (12.3). -/
def ToneEntry.bytes (e : ToneEntry) : List Byte := e.head.map (BitVec.ofNat 8) ++ timeBytes e.time

/-- The 8 bytes of a NONE filler (R76, 12.3). -/
def fillerBytes (t : Time) : List Byte := [0, 0, 0, 0] ++ timeBytes t

/-! ### Panel Stream entry (12.5) -/

def PanelEntry.code : PanelEntry → Nat
  | .noteCopy .. => 1
  | .keyWatch .. => 2
  | .waitHit .. => 3
  | .waitMiss .. => 4
  | .beat .. => 5

/-- An entry's body. An absent depth is sent as 0xFFFF (R202). -/
def PanelEntry.body : PanelEntry → List Byte
  | .noteCopy e cause outcome =>
    e.head.map (BitVec.ofNat 8) ++ beBytes 1 (optionCode (cause.map Cause.code)) ++ beBytes 1 outcome.code
      ++ timeBytes e.time
  | .keyWatch key firstStamp pairs =>
    beBytes 1 key ++ timeBytes firstStamp
      ++ pairs.flatMap (fun p => beBytes 2 p.raw ++ beBytes 2 (p.depth.getD 0xFFFF))
  | .waitHit key strike early t0 left =>
    beBytes 1 key ++ timeBytes strike ++ beBytes 1 (boolCode early) ++ beBytes 4 t0 ++ beBytes 1 left
  | .waitMiss key strike t0 inSet => beBytes 1 key ++ timeBytes strike ++ beBytes 4 t0 ++ beBytes 1 inSet
  | .beat pos time mode => beBytes 2 pos.bar ++ beBytes 1 pos.beat ++ timeBytes time ++ beBytes 1 mode.code

/-- An entry whole: its kind, its body length and its body. -/
def PanelEntry.bytes (e : PanelEntry) : List Byte := beBytes 1 e.code ++ beBytes 1 e.body.length ++ e.body

/-! ### Take record (12.6) -/

def Payload.code : Payload → Nat
  | .noteOn .. => 1
  | .noteOff .. => 2
  | .pedal .. => 3
  | .beat .. => 4
  | .gap => 5
  | .ending => 6

/-- Bytes 2 and 3 of a record as one number. -/
def Payload.word : Payload → Nat
  | .noteOn key high velocity => (128 * boolCode high + key) * 256 + velocity
  | .noteOff key velocity => key * 256 + velocity
  | .pedal p level => pedalCode p * 256 + level
  | .beat bar n => bar * 16 + n
  | .gap => 0
  | .ending => 0

/-- The 4 bytes of a record (12.6). -/
def Record.bytes (r : Record) : List Byte := beBytes 2 (r.payload.code * 4096 + r.delta) ++ beBytes 2 r.payload.word

/-- A key 1..88. -/
def keyOk (k : Nat) : Bool := decide (1 ≤ k) && decide (k ≤ 88)

/-- A velocity or release velocity 1..127; bit 7 is reserved. -/
def velocityOk (v : Nat) : Bool := decide (1 ≤ v) && decide (v ≤ 127)

/-- A pedal level: 0..127, and for SOSTENUTO only 0 or 127 (R130). -/
def levelOk (p : PedalId) (level : Nat) : Bool :=
  match p with
  | .sostenuto => decide (level = 0) || decide (level = 127)
  | .damper => decide (level ≤ 127)
  | .soft => decide (level ≤ 127)

/-- The payload that kind code `kind` and bytes 2 and 3 spell with a given delta; absent when the record is bad (R187, R203).
GAP and END carry 0 in both bytes (assumption 10). -/
def decodePayload (kind delta hi lo : Nat) : Option Payload :=
  match kind with
  | 1 => if keyOk (hi % 128) && velocityOk lo then some (.noteOn (hi % 128) (decide (128 ≤ hi)) lo) else none
  | 2 => if keyOk hi && velocityOk lo then some (.noteOff hi lo) else none
  | 3 =>
    match pedalOfCode hi with
    | some p => if levelOk p lo then some (.pedal p lo) else none
    | none => none
  | 4 =>
    let bar := hi * 16 + lo / 16
    let beat := lo % 16
    if 1 ≤ bar ∧ 1 ≤ beat ∧ beat ≤ 12 then some (.beat bar beat) else none
  | 5 => if delta = Config.gapMs ∧ hi = 0 ∧ lo = 0 then some .gap else none
  | 6 => if hi = 0 ∧ lo = 0 then some .ending else none
  | _ => none

/-- The record that 4 bytes spell; absent when it is bad. -/
def decodeRecord (b : List Byte) : Option Record :=
  let w := field b 0 2
  (decodePayload (w / 4096) (w % 4096) (field b 2 1) (field b 3 1)).map (fun p => { delta := w % 4096, payload := p })

/-! ### Transfer header (12.6) -/

/-- Take flags: bit 0 TRUNCATED, bit 1 INTERRUPTED, bit 2 IMPORTED (12.4). -/
def TakeFlags.code (f : TakeFlags) : Nat := boolCode f.truncated + 2 * boolCode f.interrupted + 4 * boolCode f.imported

def TakeFlags.ofCode (n : Nat) : TakeFlags :=
  { truncated := decide (n % 2 = 1), interrupted := decide (n / 2 % 2 = 1), imported := decide (n / 4 % 2 = 1) }

/-- Bytes 8 and 9: beats per bar in bits 15..12 and tempo in bits 8..0, 0 in both when absent. -/
def tempoWord (t : Option Tempo) : Nat :=
  match t with
  | some t => t.beats * 4096 + t.bpm
  | none => 0

/-- A name padded to 16 bytes with 0x00. -/
def paddedName (n : Option (List Byte)) : List Byte :=
  let n := n.getD []
  n ++ List.replicate (16 - n.length) 0

/-- The 31 header bytes of a take (12.6). -/
def Take.headerBytes (t : Take) : List Byte :=
  beBytes 1 t.flags.code ++ beBytes 3 t.count ++ beBytes 4 t.duration ++ beBytes 2 (tempoWord t.tempo) ++ beBytes 1 t.split
    ++ paddedName t.name ++ beBytes 4 t.serial

/-- A printable character, 0x20..0x7E (R146). -/
def printable (b : Byte) : Bool := decide (0x20 ≤ b.toNat) && decide (b.toNat ≤ 0x7E)

/-- The tempo of bytes 8 and 9: absent when both fields are 0; bad when one stands without the other, out of range, or a
reserved bit is set (R187). -/
def decodeTempo (w : Nat) : Option (Option Tempo) :=
  let bpm := w % 512
  let beats := w / 4096
  if w / 512 % 8 ≠ 0 then none
  else if bpm = 0 ∧ beats = 0 then some none
  else if 30 ≤ bpm ∧ bpm ≤ 300 ∧ 1 ≤ beats ∧ beats ≤ 12 then some (some { bpm := bpm, beats := beats })
  else none

/-- The name of bytes 11 to 26: printable characters, then 0x00 to the end; a 0x00 followed by a nonzero byte is bad (R203). -/
def decodeName (b : List Byte) : Option (Option (List Byte)) :=
  let n := b.takeWhile (fun c => c != 0)
  if n.all printable && (b.drop n.length).all (fun c => c == 0) then some (if n.isEmpty then none else some n) else none

/-- The header 31 bytes spell for a declared stream length; absent when the header is bad (R187). -/
def decodeHeader (b : List Byte) (declared : Nat) : Option Header :=
  let count := field b 1 3
  let duration := field b 4 4
  let split := field b 10 1
  match decodeTempo (field b 8 2), decodeName ((b.drop 11).take 16) with
  | some tempo, some name =>
    if field b 0 1 < 8 ∧ 1 ≤ count ∧ count ≤ 65536 ∧ 31 + 4 * count + 2 = declared ∧ duration ≤ Config.maxTakeMs
        ∧ 2 ≤ split ∧ split ≤ 88 then
      some { flags := TakeFlags.ofCode (field b 0 1), count := count, duration := duration, tempo := tempo, split := split,
              name := name, serial := field b 27 4 }
    else none
  | _, _ => none

/-! ### Check value (R182) -/

/-- One shift of the running value: left by one within 16 bits, with 0x1021 combined in when the bit shifted out was 1. -/
def crcShift (c : BitVec 16) : BitVec 16 := if c.msb then (c <<< 1) ^^^ 0x1021#16 else c <<< 1

/-- One byte is folded into the running value (R182). -/
def crcByte (c : BitVec 16) (b : Byte) : BitVec 16 :=
  let c := c ^^^ (b.setWidth 16 <<< 8)
  crcShift (crcShift (crcShift (crcShift (crcShift (crcShift (crcShift (crcShift c)))))))

/-- Bytes are folded into the running value in stream order (R182). -/
def crcFold (c : BitVec 16) (bytes : List Byte) : BitVec 16 := bytes.foldl crcByte c

/-- The running value starts at 0xFFFF (R182). -/
def crcStart : BitVec 16 := 0xFFFF#16

end Sys2Proof.Machine
end

