-- ==== Sys2Proof/WellFormed.lean ====
section
/-! DEFINITION. What an operand must be for a command to stand for an event the part can meet. A request has no check:
any bytes may cross a link, and the part itself answers LENGTH, UNKNOWN or RANGE (R191, R203). -/

namespace Sys2Proof

/-- Keys are numbered 1 to 88 (00_scope, "Keys and pedals"). -/
def isKey (k : Nat) : Bool := decide (1 ≤ k) && decide (k ≤ 88)

/-- A raw reading lies in 0..1023 (R1, R46). -/
def isRaw (r : Nat) : Bool := decide (r ≤ 1023)

/-- A current sample is 0..2040 mA in steps of 8 (R99). -/
def isCurrent (mA : Nat) : Bool := decide (mA ≤ 2040) && decide (mA % 8 = 0)

/-- The request kind codes of 12.2. -/
def requestCodes : List Nat :=
  [0x10, 0x11, 0x12, 0x13, 0x14, 0x15, 0x18, 0x19, 0x1A, 0x1B, 0x1C, 0x20, 0x21, 0x22, 0x24, 0x25, 0x28, 0x29, 0x2A, 0x2B,
   0x2C, 0x2D, 0x30, 0x31, 0x32, 0x33, 0x34, 0x38, 0x39, 0x3A, 0x3B, 0x40, 0x41, 0x42, 0x43, 0x44, 0x45, 0x46, 0x47, 0x48,
   0x49, 0x4C, 0x4D, 0x50, 0x51, 0x52, 0x53, 0x54, 0x55, 0x58, 0x59, 0x5A, 0x5B]

/-- A command is well-formed when its operands lie in the ranges its rule gives an arrival of that event. -/
def Instr.wellFormed : Instr → Bool
  | .keySample _ key raw => isKey key && isRaw raw
  | .pedalSample _ _ raw => isRaw raw
  | .calWrite _ => true
  | .calRead _ => true
  | .calCaptureRest _ => true
  | .restCaptureComplete _ => true
  | .calCaptureBottom _ => true
  | .bottomCaptureComplete _ raw => isRaw raw
  | .keyWatch _ => true
  | .keyReport _ => true
  | .keyLines _ => true
  | .curveWrite _ => true
  | .curveSelect _ => true
  | .curveRead _ => true
  | .strokeSlowLimit _ => true
  | .noteCopy _ => true
  | .soundingReport _ => true
  | .allNotesOff _ => true
  | .toneStreamSetup _ => true
  | .flushTone _ => true
  | .drain _ => true
  | .drainSlotStart _ => true
  | .drainSlotComplete _ => true
  | .drainSlotAbandon _ => true
  | .ageCondition _ => true
  | .railEngage _ => true
  | .railRetract _ => true
  | .quietWaitExpiry _ => true
  | .kickEnd _ => true
  | .dutyStep _ => true
  | .stallTimerExpiry _ => true
  | .retryDwellEnd _ => true
  | .reversalDwellEnd _ => true
  | .moveTimeout _ => true
  | .encoderPulse _ _ => true
  | .endSwitchChange _ _ _ => true
  | .currentSample _ mA => isCurrent mA
  | .railProfile _ => true
  | .railStatus _ => true
  | .railAck _ => true
  | .railClearDisturbed _ => true
  | .standbySwitchChange _ _ => true
  | .fallboardClose _ => true
  | .fallboardOpen _ => true
  | .jackChange _ _ _ => true
  | .inputFrame _ _ _ => true
  | .outputFrame _ => true
  | .clickEnd _ => true
  | .alertSegmentEnd _ => true
  | .nextBeatTime _ => true
  | .audioSetup _ => true
  | .audioMute _ => true
  | .metroSet _ => true
  | .metroRun _ => true
  | .audioReport _ => true
  | .takeList _ => true
  | .takeDelete _ => true
  | .takeName _ => true
  | .memoryReport _ => true
  | .gapExpiry _ => true
  | .durationLimit _ => true
  | .takeRecord _ => true
  | .takePlay _ => true
  | .takeStop _ => true
  | .takePause _ => true
  | .takeResume _ => true
  | .takeSpeed _ => true
  | .takeSeek _ => true
  | .seekComplete _ => true
  | .loopSet _ => true
  | .loopClear _ => true
  | .transportReport _ => true
  | .recordDelivery _ => true
  | .loopJump _ => true
  | .practiceSet _ => true
  | .waitReport _ => true
  | .exportOpen _ => true
  | .exportRead _ => true
  | .exportClose _ => true
  | .exportIdleExpiry _ => true
  | .importOpen _ => true
  | .importWrite _ => true
  | .importClose _ => true
  | .importIdleExpiry _ => true
  | .identify _ => true
  | .linkReport _ => true
  | .statusMask _ => true
  | .restart _ => true
  | .restartWarmStart _ _ => true
  | .restartTimeout _ _ => true
  | .unknown kind _ => decide (kind.toNat ∉ requestCodes)
  | .badSelector _ => true
  | .replyRead _ _ _ _ => true
  | .replyStretchTimeout _ => true
  | .pointerWrite _ _ => true
  | .statusRead _ _ => true
  | .statusReadAbandon _ _ => true
  | .streamRead _ _ => true
  | .powerOn _ _ => true
  | .resetPin _ _ => true
  | .waitingCountRise _ => true
  | .mainPowerLoss => true
  | .standbySupplyLoss => true

end Sys2Proof
end

