-- ==== Sys2Proof/Decode.lean ====
section
/-! DEFINITION. Decoding. The table gives no row any bits, so `decodeTableWord` names no command. The bytes of a link do: the
selector and the request frame on Link T, and a write transaction on Link P (R192, R193, 12.2). -/

namespace Sys2Proof

open Sys2Proof.Machine

/-- The command that a word spells by the bits of spec/opcode_table.json: the table gives bits to no row. -/
def decodeTableWord (_nbits _w : Nat) : Option Instr := none

/-- The command of a request kind, with the kind byte and the frame that carried it. -/
def commandOf (kind : ReqKind) (code : Byte) (f : Frame) : Instr :=
  match kind with
  | .calWrite => .calWrite f
  | .calRead => .calRead f
  | .calCaptureRest => .calCaptureRest f
  | .calCaptureBottom => .calCaptureBottom f
  | .keyWatch => .keyWatch f
  | .keyReport => .keyReport f
  | .keyLines => .keyLines f
  | .curveWrite => .curveWrite f
  | .curveSelect => .curveSelect f
  | .curveRead => .curveRead f
  | .strokeSlowLimit => .strokeSlowLimit f
  | .noteCopy => .noteCopy f
  | .soundingReport => .soundingReport f
  | .allNotesOff => .allNotesOff f
  | .toneStreamSetup => .toneStreamSetup f
  | .flushTone => .flushTone f
  | .railEngage => .railEngage f
  | .railRetract => .railRetract f
  | .railStatus => .railStatus f
  | .railAck => .railAck f
  | .railClearDisturbed => .railClearDisturbed f
  | .railProfile => .railProfile f
  | .audioSetup => .audioSetup f
  | .audioMute => .audioMute f
  | .metroSet => .metroSet f
  | .metroRun => .metroRun f
  | .audioReport => .audioReport f
  | .takeList => .takeList f
  | .takeDelete => .takeDelete f
  | .takeName => .takeName f
  | .memoryReport => .memoryReport f
  | .takeRecord => .takeRecord f
  | .takePlay => .takePlay f
  | .takeStop => .takeStop f
  | .takePause => .takePause f
  | .takeResume => .takeResume f
  | .takeSpeed => .takeSpeed f
  | .takeSeek => .takeSeek f
  | .loopSet => .loopSet f
  | .loopClear => .loopClear f
  | .transportReport => .transportReport f
  | .practiceSet => .practiceSet f
  | .waitReport => .waitReport f
  | .exportOpen => .exportOpen f
  | .exportRead => .exportRead f
  | .exportClose => .exportClose f
  | .importOpen => .importOpen f
  | .importWrite => .importWrite f
  | .importClose => .importClose f
  | .identify => .identify f
  | .linkReport => .linkReport f
  | .restart => .restart f
  | .statusMask => .statusMask f
  | .unknown => .unknown code f

/-- The command that a frame's kind byte names; a byte that names no request gives UNKNOWN (R191, 12.2). -/
def decodeRequest (code : Byte) (f : Frame) : Instr := commandOf (reqOfCode code.toNat) code f

/-- The kind byte and the frame of a request command; the other commands are no request. -/
def encodeRequest : Instr → Option (Byte × Frame)
  | .keySample _ _ _ => none
  | .pedalSample _ _ _ => none
  | .calWrite f => (reqCode .calWrite).map (fun code => (BitVec.ofNat 8 code, f))
  | .calRead f => (reqCode .calRead).map (fun code => (BitVec.ofNat 8 code, f))
  | .calCaptureRest f => (reqCode .calCaptureRest).map (fun code => (BitVec.ofNat 8 code, f))
  | .restCaptureComplete _ => none
  | .calCaptureBottom f => (reqCode .calCaptureBottom).map (fun code => (BitVec.ofNat 8 code, f))
  | .bottomCaptureComplete _ _ => none
  | .keyWatch f => (reqCode .keyWatch).map (fun code => (BitVec.ofNat 8 code, f))
  | .keyReport f => (reqCode .keyReport).map (fun code => (BitVec.ofNat 8 code, f))
  | .keyLines f => (reqCode .keyLines).map (fun code => (BitVec.ofNat 8 code, f))
  | .curveWrite f => (reqCode .curveWrite).map (fun code => (BitVec.ofNat 8 code, f))
  | .curveSelect f => (reqCode .curveSelect).map (fun code => (BitVec.ofNat 8 code, f))
  | .curveRead f => (reqCode .curveRead).map (fun code => (BitVec.ofNat 8 code, f))
  | .strokeSlowLimit f => (reqCode .strokeSlowLimit).map (fun code => (BitVec.ofNat 8 code, f))
  | .noteCopy f => (reqCode .noteCopy).map (fun code => (BitVec.ofNat 8 code, f))
  | .soundingReport f => (reqCode .soundingReport).map (fun code => (BitVec.ofNat 8 code, f))
  | .allNotesOff f => (reqCode .allNotesOff).map (fun code => (BitVec.ofNat 8 code, f))
  | .toneStreamSetup f => (reqCode .toneStreamSetup).map (fun code => (BitVec.ofNat 8 code, f))
  | .flushTone f => (reqCode .flushTone).map (fun code => (BitVec.ofNat 8 code, f))
  | .drain _ => none
  | .drainSlotStart _ => none
  | .drainSlotComplete _ => none
  | .drainSlotAbandon _ => none
  | .ageCondition _ => none
  | .railEngage f => (reqCode .railEngage).map (fun code => (BitVec.ofNat 8 code, f))
  | .railRetract f => (reqCode .railRetract).map (fun code => (BitVec.ofNat 8 code, f))
  | .quietWaitExpiry _ => none
  | .kickEnd _ => none
  | .dutyStep _ => none
  | .stallTimerExpiry _ => none
  | .retryDwellEnd _ => none
  | .reversalDwellEnd _ => none
  | .moveTimeout _ => none
  | .encoderPulse _ _ => none
  | .endSwitchChange _ _ _ => none
  | .currentSample _ _ => none
  | .railProfile f => (reqCode .railProfile).map (fun code => (BitVec.ofNat 8 code, f))
  | .railStatus f => (reqCode .railStatus).map (fun code => (BitVec.ofNat 8 code, f))
  | .railAck f => (reqCode .railAck).map (fun code => (BitVec.ofNat 8 code, f))
  | .railClearDisturbed f => (reqCode .railClearDisturbed).map (fun code => (BitVec.ofNat 8 code, f))
  | .standbySwitchChange _ _ => none
  | .fallboardClose _ => none
  | .fallboardOpen _ => none
  | .jackChange _ _ _ => none
  | .inputFrame _ _ _ => none
  | .outputFrame _ => none
  | .clickEnd _ => none
  | .alertSegmentEnd _ => none
  | .nextBeatTime _ => none
  | .audioSetup f => (reqCode .audioSetup).map (fun code => (BitVec.ofNat 8 code, f))
  | .audioMute f => (reqCode .audioMute).map (fun code => (BitVec.ofNat 8 code, f))
  | .metroSet f => (reqCode .metroSet).map (fun code => (BitVec.ofNat 8 code, f))
  | .metroRun f => (reqCode .metroRun).map (fun code => (BitVec.ofNat 8 code, f))
  | .audioReport f => (reqCode .audioReport).map (fun code => (BitVec.ofNat 8 code, f))
  | .takeList f => (reqCode .takeList).map (fun code => (BitVec.ofNat 8 code, f))
  | .takeDelete f => (reqCode .takeDelete).map (fun code => (BitVec.ofNat 8 code, f))
  | .takeName f => (reqCode .takeName).map (fun code => (BitVec.ofNat 8 code, f))
  | .memoryReport f => (reqCode .memoryReport).map (fun code => (BitVec.ofNat 8 code, f))
  | .gapExpiry _ => none
  | .durationLimit _ => none
  | .takeRecord f => (reqCode .takeRecord).map (fun code => (BitVec.ofNat 8 code, f))
  | .takePlay f => (reqCode .takePlay).map (fun code => (BitVec.ofNat 8 code, f))
  | .takeStop f => (reqCode .takeStop).map (fun code => (BitVec.ofNat 8 code, f))
  | .takePause f => (reqCode .takePause).map (fun code => (BitVec.ofNat 8 code, f))
  | .takeResume f => (reqCode .takeResume).map (fun code => (BitVec.ofNat 8 code, f))
  | .takeSpeed f => (reqCode .takeSpeed).map (fun code => (BitVec.ofNat 8 code, f))
  | .takeSeek f => (reqCode .takeSeek).map (fun code => (BitVec.ofNat 8 code, f))
  | .seekComplete _ => none
  | .loopSet f => (reqCode .loopSet).map (fun code => (BitVec.ofNat 8 code, f))
  | .loopClear f => (reqCode .loopClear).map (fun code => (BitVec.ofNat 8 code, f))
  | .transportReport f => (reqCode .transportReport).map (fun code => (BitVec.ofNat 8 code, f))
  | .recordDelivery _ => none
  | .loopJump _ => none
  | .practiceSet f => (reqCode .practiceSet).map (fun code => (BitVec.ofNat 8 code, f))
  | .waitReport f => (reqCode .waitReport).map (fun code => (BitVec.ofNat 8 code, f))
  | .exportOpen f => (reqCode .exportOpen).map (fun code => (BitVec.ofNat 8 code, f))
  | .exportRead f => (reqCode .exportRead).map (fun code => (BitVec.ofNat 8 code, f))
  | .exportClose f => (reqCode .exportClose).map (fun code => (BitVec.ofNat 8 code, f))
  | .exportIdleExpiry _ => none
  | .importOpen f => (reqCode .importOpen).map (fun code => (BitVec.ofNat 8 code, f))
  | .importWrite f => (reqCode .importWrite).map (fun code => (BitVec.ofNat 8 code, f))
  | .importClose f => (reqCode .importClose).map (fun code => (BitVec.ofNat 8 code, f))
  | .importIdleExpiry _ => none
  | .identify f => (reqCode .identify).map (fun code => (BitVec.ofNat 8 code, f))
  | .linkReport f => (reqCode .linkReport).map (fun code => (BitVec.ofNat 8 code, f))
  | .statusMask f => (reqCode .statusMask).map (fun code => (BitVec.ofNat 8 code, f))
  | .restart f => (reqCode .restart).map (fun code => (BitVec.ofNat 8 code, f))
  | .restartWarmStart _ _ => none
  | .restartTimeout _ _ => none
  | .unknown kind f => some (kind, f)
  | .badSelector _ => none
  | .replyRead _ _ _ _ => none
  | .replyStretchTimeout _ => none
  | .pointerWrite _ _ => none
  | .statusRead _ _ => none
  | .statusReadAbandon _ _ => none
  | .streamRead _ _ => none
  | .powerOn _ _ => none
  | .resetPin _ _ => none
  | .waitingCountRise _ => none
  | .mainPowerLoss => none
  | .standbySupplyLoss => none

/-- A chip-select period on Link T: the selector REQUEST 0x01 with a frame, REPLY 0x02, DRAIN 0x03 or STATUS 0x04; another
selector names no exchange (R192, 12.2). A REQUEST with no kind byte is no frame. -/
def decodeLinkT (now : Time) (toEnd judged deferred : Bool) (bytes : List Byte) : Option Instr :=
  match bytes with
  | [] => none
  | selector :: rest =>
    if selector = 0x01 then
      match rest with
      | [] => none
      | code :: body => some (decodeRequest code { now := now, link := .t, address := 0#7, body := body, deferred := deferred })
    else if selector = 0x02 then some (.replyRead now ⟨0#7, .t⟩ toEnd judged)
    else if selector = 0x03 then some (.drain now)
    else if selector = 0x04 then some (.statusRead now ⟨0#7, .t⟩)
    else some (.badSelector now)

/-- A write transaction on Link P to an address: one byte is a pointer write, two or more are a request frame (R193). -/
def decodeLinkP (now : Time) (address : BitVec 7) (deferred : Bool) (bytes : List Byte) : Option Instr :=
  match bytes with
  | [] => none
  | [value] => some (.pointerWrite now ⟨address, value⟩)
  | code :: body =>
    some (decodeRequest code { now := now, link := .p, address := address, body := body, deferred := deferred })

end Sys2Proof
end

