-- ==== Sys2Proof/Machine/AudioOps.lean ====
section
/-! DEFINITION. The Audio Stage's operations: the gain table and ramp (R116, R117), the mute reasons (R118), the output frame
(R115), click and alert tone (R121, R122) and the beat clock (R123 to R125). -/

namespace Sys2Proof.Machine

open Sys2Proof

/-! ### Gain -/

/-- G[0] to G[63]: 0, then 32,768 × 10^((i − 63) × 0.75 / 20) rounded half up (R116). -/
def gainTable : List Nat :=
  [0, 155, 169, 184, 201, 219, 239, 260, 284, 309, 337, 368, 401, 437, 476, 519, 566, 617, 673, 734, 800, 872,
   950, 1036, 1130, 1232, 1343, 1464, 1596, 1740, 1896, 2068, 2254, 2457, 2679, 2920, 3184, 3471, 3784, 4125,
   4497, 4903, 5345, 5827, 6353, 6925, 7550, 8231, 8973, 9783, 10665, 11627, 12675, 13818, 15064, 16423, 17904,
   19519, 21279, 23198, 25290, 27571, 30057, 32768]

def gain (index : Nat) : Nat := gainTable.getD index 0

/-- One step of the applied index toward the target index (R117). -/
def stepToward (target n : Nat) : Nat := if n < target then n + 1 else if target < n then n - 1 else n

/-- The ramp counter advances at an output frame; when it reaches the ramp interval it returns to 0 and a step is due (R117). -/
def Audio.rampStep (a : Audio) : Audio :=
  if a.rampInterval ≤ a.ramp + 1 then { a with ramp := 0, applied := stepToward a.targetIndex a.applied }
  else { a with ramp := a.ramp + 1 }

/-! ### The mute-reason set and the Audio FIFO -/

/-- RAIL_NOT_ENGAGED and RAIL_MOVING are judged from the rail conditions (R118). -/
def Audio.judgeRail (a : Audio) : Audio :=
  { a with mute := { a.mute with railNotEngaged := !a.engaged && !a.hpInAcoustic, railMoving := a.moving } }

/-- JACK_OUT is judged from the jack states (R118, R119). -/
def Audio.judgeJacks (a : Audio) : Audio := { a with mute := { a.mute with jackOut := !a.jack1 && !a.jack2 } }

/-- The alert generator follows the alert requested mark: it begins a 600 Hz segment when the mark becomes set and turns idle
when it is cleared (R122). -/
def Audio.setAlert (requested : Bool) (a : Audio) : Audio :=
  { a with
    alertRequested := requested
    alert := if requested then (if a.alertRequested then a.alert else some { high := false, index := 0 }) else none }

/-- The Rail Drive hands on its conditions and the alert requested mark (R105). -/
def Audio.handOn (moving engaged alert : Bool) (a : Audio) : Audio :=
  ({ a with moving := moving, engaged := engaged }.judgeRail).setAlert alert

/-- The underrun ends and UNDERRUN leaves the set (R114). -/
def Audio.endUnderrun (a : Audio) : Audio := { a with inUnderrun := false, mute := { a.mute with underrun := false } }

/-- The underrun is entered and UNDERRUN joins the set (R112, R114). -/
def Audio.enterUnderrun (a : Audio) : Audio := { a with inUnderrun := true, mute := { a.mute with underrun := true } }

/-- The underrun ends when the fill is at or above the refill level (R112, R114). -/
def Audio.judgeUnderrun (a : Audio) : Audio := if a.inUnderrun ∧ a.refill ≤ a.fifo.length then a.endUnderrun else a

/-- An input frame arrival (R113): it joins below 64 frames and may end an underrun, or is dropped and counted at 64. -/
def Audio.arrive (f : StereoFrame) (a : Audio) : Audio :=
  if a.fifo.length < Config.audioFifoFrames then { a with fifo := a.fifo ++ [f] }.judgeUnderrun
  else { a with overruns := satInc Config.maxCount16 a.overruns }

/-! ### Click and alert tone -/

/-- A square wave of frequency `f` and amplitude `amp` at frame `n` (R121). -/
def squareWave (f amp hertz n : Nat) : Int := if 2 * f * n / hertz % 2 = 0 then (amp : Int) else -(amp : Int)

/-- The amplitude of a click level (R121). -/
def clickAmplitude (level : Nat) : Nat := level * Config.levelStep

/-- The alert tone's amplitude (R122). -/
def alertAmplitude : Nat := 8 * Config.levelStep

/-- A click takes its amplitude at its first output frame (R121). -/
def Audio.armClick (a : Audio) : Audio :=
  { a with click := a.click.map (fun c => { c with amplitude := some (c.amplitude.getD (clickAmplitude a.metro.clickLevel)) }) }

/-- The click sample of a frame: 0 while JACK_OUT or PANEL_MUTE stands, and 0 past the click's 20 ms (R121). -/
def Audio.clickSample (a : Audio) : Int :=
  match a.click with
  | none => 0
  | some c =>
    if a.mute.jackOut || a.mute.panelMute then 0
    else if c.index < a.rate.clickFrames then
      squareWave (if c.first then 1600 else 800) (c.amplitude.getD 0) a.rate.hertz c.index
    else 0

/-- The alert sample of a frame: 0 while JACK_OUT stands (R122). -/
def Audio.alertSample (a : Audio) : Int :=
  match a.alert with
  | none => 0
  | some t =>
    if a.mute.jackOut then 0 else squareWave (if t.high then 1200 else 600) alertAmplitude a.rate.hertz t.index

/-- The generators advance by one frame (R115, step 6). -/
def Audio.advanceGenerators (a : Audio) : Audio :=
  { a with
    click := a.click.map (fun c => if c.index < a.rate.clickFrames then { c with index := c.index + 1 } else c)
    alert := a.alert.map (fun t => { t with index := t.index + 1 }) }

/-! ### The output frame (R115) -/

/-- A tone channel scaled by the gain: floor(x × G / 32,768). -/
def scaled (x : Int) (g : Nat) : Int := (x * g) / 32768

/-- A channel sum saturated into −8,388,607..+8,388,607. -/
def saturate (x : Int) : Int := max (-Config.sampleLimit) (min x Config.sampleLimit)

/-- A channel sum lies outside the range it is saturated into. -/
def outOfRange (x : Int) : Bool := decide (x < -Config.sampleLimit) || decide (Config.sampleLimit < x)

/-- The tone frame of an output frame: zero in underrun; zero, with the underrun entered, from an empty FIFO; otherwise the
oldest frame (R115, step 2). The mark says that the underrun was entered. -/
def Audio.takeFrame (a : Audio) : Audio × StereoFrame × Bool :=
  if a.inUnderrun then (a, { left := 0, right := 0 }, false)
  else
    match a.fifo with
    | [] =>
      ({ a with underruns := satInc Config.maxCount16 a.underruns }.enterUnderrun, { left := 0, right := 0 }, true)
    | f :: rest => ({ a with fifo := rest }, f, false)

/-- Steps 3 to 6 of an output frame: scale, add click and alert, saturate, send and advance. -/
def Audio.sendFrame (f : StereoFrame) (a : Audio) : Audio :=
  let a := a.armClick
  let added := a.clickSample + a.alertSample
  let left := scaled f.left.toInt (gain a.applied) + added
  let right := scaled f.right.toInt (gain a.applied) + added
  { a with
    sent := some { left := saturate left, right := saturate right }
    clips := if outOfRange left || outOfRange right then satInc Config.maxCount16 a.clips else a.clips }.advanceGenerators

/-! ### The beat clock -/

/-- The mode judged from the click starts that stand and METRO_RUN (R123). -/
def Audio.judgedMode (a : Audio) : ClockMode :=
  if a.recordClick then .recording else if a.playClick then .following else if a.metro.run then .free else .stopped

/-- The base interval of a tempo in µs (R124). -/
def baseInterval (tempo : Nat) : Nat := 60000000 / tempo

/-- The beat interval in µs: at the entry tempo in RECORDING, and at the tempo held in FREE, divided by a playback speed held
(R124). -/
def Audio.beatInterval (a : Audio) : Nat :=
  match a.clock with
  | .recording => baseInterval a.entryTempo
  | .free =>
    match a.playSpeed with
    | some p => baseInterval a.metro.tempo * 100 / p
    | none => baseInterval a.metro.tempo
  | .stopped => baseInterval a.metro.tempo
  | .following => baseInterval a.metro.tempo

/-- The beats per bar the counter advances by: those at entry in RECORDING, those held otherwise (R124). -/
def Audio.beatsPerBar (a : Audio) : Nat :=
  match a.clock with
  | .recording => a.entryBeats
  | .free => a.metro.beats
  | .stopped => a.metro.beats
  | .following => a.metro.beats

/-- The beat after a position: the next beat of the bar, or beat 1 of the next bar; the bar after 4095 is bar 1 (R124). -/
def BeatPos.next (beatsPerBar : Nat) (p : BeatPos) : BeatPos :=
  if beatsPerBar ≤ p.beat then { bar := if p.bar = 4095 then 1 else p.bar + 1, beat := 1 }
  else { p with beat := p.beat + 1 }

/-- A beat (R125), less its record: the counter is set, a click starts, and a BEAT entry is offered while the beat copy is on. -/
def State.beat (pos : BeatPos) (s : State) : State :=
  let s := s.modAudio (fun a =>
    { a with counter := some pos, click := some { first := decide (pos.beat = 1), amplitude := none, index := 0 } })
  if s.audio.metro.beatCopy then s.panelOffer (.beat pos s.now s.audio.clock) else s

/-- Entering RECORDING or FREE starts the clock with beat 1:1 at once; entering FOLLOWING or STOPPED stops its timing (R123). -/
def State.enterMode (m : ClockMode) (s : State) : State :=
  match m with
  | .recording =>
    let s := (s.modAudio (fun a =>
      { a with clock := .recording, entryTempo := a.metro.tempo, entryBeats := a.metro.beats })).beat { bar := 1, beat := 1 }
    s.modAudio (fun a => { a with nextBeat := some (s.now.after a.beatInterval) })
  | .free =>
    let s := (s.modAudio (fun a => { a with clock := .free })).beat { bar := 1, beat := 1 }
    s.modAudio (fun a => { a with nextBeat := some (s.now.after a.beatInterval) })
  | .following => s.modAudio (fun a => { a with clock := .following, nextBeat := none })
  | .stopped => s.modAudio (fun a => { a with clock := .stopped, nextBeat := none })

/-- The clock's mode is judged; a mode that differs from the one held is entered (R123). -/
def State.judgeMode (s : State) : State :=
  if s.audio.judgedMode = s.audio.clock then s else s.enterMode s.audio.judgedMode

/-- Record click start, less its BEAT record (R123). -/
def State.recordClickStart (s : State) : State := (s.modAudio (fun a => { a with recordClick := true })).judgeMode

/-- Record click end (R123). -/
def State.recordClickEnd (s : State) : State := (s.modAudio (fun a => { a with recordClick := false })).judgeMode

/-- Play click start (R123). -/
def State.playClickStart (s : State) : State := (s.modAudio (fun a => { a with playClick := true })).judgeMode

/-- Play click end (R123). -/
def State.playClickEnd (s : State) : State := (s.modAudio (fun a => { a with playClick := false })).judgeMode

/-- Playback speed, and playback speed clear (R123). -/
def State.setPlaySpeed (p : Option Nat) (s : State) : State := (s.modAudio (fun a => { a with playSpeed := p })).judgeMode

/-- A BEAT delivery is a beat in FOLLOWING and changes nothing in any other mode (R125). -/
def State.beatDelivery (pos : BeatPos) (s : State) : State :=
  if s.audio.clock = .following then s.beat pos else s

end Sys2Proof.Machine
end

