-- ==== Sys2Proof/Machine/ToneOps.lean ====
section
/-! DEFINITION. The Tone Queue's own operations: admission, overflow, placement and the judgement of an offer (R69 to R73,
R78, R79). -/

namespace Sys2Proof.Machine

open Sys2Proof

/-- The Tone Stream places a RESYNC, and the Note Router clears every announced mark (R57). -/
def State.clearAnnounced (s : State) : State :=
  { s with router := { s.router with table := s.router.table.map (fun e => { e with announced := false }) } }

/-- An entry is an ALL_OFF. -/
def ToneEntry.isAllOff : ToneEntry → Bool
  | .allOff _ => true
  | .noteOn .. => false
  | .noteOff .. => false
  | .pedal .. => false
  | .resync _ => false

/-- An entry is a RESYNC or an ALL_OFF, which must not wait (R79, R81). -/
def ToneEntry.mustNotWait : ToneEntry → Bool
  | .allOff _ => true
  | .resync _ => true
  | .noteOn .. => false
  | .noteOff .. => false
  | .pedal .. => false

/-- An entry joins the queue at the tail with its admission time (R70, R71, R73); in BURST mode the latch is set at the
trigger level and by an ALL_OFF (R79). -/
def Tone.enqueue (e : ToneEntry) (now : Time) (t : Tone) : Tone :=
  { t with
    queue := t.queue ++ [{ entry := e, admitted := now }]
    latch := t.latch || (decide (t.mode = .burst) && (decide (t.trigger ≤ t.queue.length + 1) || e.isAllOff)) }

/-- The copy latched into a slot in flight is marked stale when the queue is emptied (R77). -/
def Slot.staled : Slot → Slot
  | .entry copy _ => .entry copy true
  | .idle => .idle

/-- The queue is emptied and one entry placed in it (R72, R73, R82): a slot in flight turns stale (R77) and in BURST mode the
latch is set (R79). -/
def Tone.replaceWith (e : ToneEntry) (now : Time) (t : Tone) : Tone :=
  { t with
    queue := [{ entry := e, admitted := now }]
    latch := t.latch || decide (t.mode = .burst)
    drain := t.drain.map Slot.staled }

/-- An overflow (R72): the queue is emptied, a RESYNC placed, every announced mark cleared, RESYNCS counted, the time kept and
QUEUE_RESYNC posted. -/
def State.overflow (s : State) : State :=
  let t := s.tone.replaceWith (.resync s.now) s.now
  let t := { t with resyncs := satInc Config.maxCount8 t.resyncs, lastOverflow := some s.now }
  ({ s with tone := t }.clearAnnounced).post .queueResync

/-- The Tone Stream judges an offer on occupancy: a NOTE_ON by R70, a NOTE_OFF or PEDAL by R71 and R72, an ALL_OFF by R73. The
Router offers no RESYNC; one would be placed as R82 places it. -/
def State.offerTone (e : ToneEntry) (s : State) : State × Offer :=
  match e with
  | .noteOn .. =>
    if s.tone.occupancy < Config.noteOnLimit then ({ s with tone := s.tone.enqueue e s.now }, .admitted) else (s, .refused)
  | .noteOff .. =>
    if s.tone.occupancy < Config.queueCapacity then ({ s with tone := s.tone.enqueue e s.now }, .admitted)
    else (s.overflow, .discarded)
  | .pedal .. =>
    if s.tone.occupancy < Config.queueCapacity then ({ s with tone := s.tone.enqueue e s.now }, .admitted)
    else (s.overflow, .discarded)
  | .allOff _ =>
    if s.tone.occupancy < Config.queueCapacity then ({ s with tone := s.tone.enqueue e s.now }, .admitted)
    else ({ s with tone := s.tone.replaceWith e s.now }, .admitted)
  | .resync _ => ({ s with tone := s.tone.replaceWith e s.now }, .admitted)

/-- The age condition for the head entry (R80): admitted 2,000 µs or more before `now`. -/
def Tone.headAged (t : Tone) (now : Time) : Bool :=
  match t.queue with
  | [] => false
  | q :: _ => decide (Config.ageLimitMicros ≤ elapsed now q.admitted)

/-- The head is a RESYNC or an ALL_OFF (R81). -/
def Tone.headMustNotWait (t : Tone) : Bool :=
  match t.queue with
  | [] => false
  | q :: _ => q.entry.mustNotWait

/-- The latch after a removal at the head (R79, R80): cleared when the queue is left empty; otherwise kept, and in BURST mode set at
once when the new head is aged, is a RESYNC or is an ALL_OFF, whose queue has its latch set already. -/
def Tone.removeHead (now : Time) (t : Tone) : Tone :=
  let t := { t with queue := t.queue.drop 1 }
  if t.queue.isEmpty then { t with latch := false }
  else { t with latch := t.latch || (decide (t.mode = .burst) && (t.headAged now || t.headMustNotWait)) }

/-- READY_T is judged afresh under the settings that now stand (R81, step 2). In SINGLE mode the line follows the queue, and a
latch set in BURST mode is kept until the queue is left empty, the one event that clears it (R79; assumption 9). -/
def Tone.judgeReady (now : Time) (t : Tone) : Tone :=
  match t.mode with
  | .single => t
  | .burst =>
    if t.queue.isEmpty then { t with latch := false }
    else { t with latch := t.latch || decide (t.trigger ≤ t.occupancy) || t.headAged now || t.headMustNotWait }

end Sys2Proof.Machine
end

