-- ==== Sys2Proof/Machine/RouterOps.lean ====
section
/-! DEFINITION. The Note Router's operations: offers with their monitor copy, ON, OFF and FORCE_OFF intents, and the sostenuto
edges (R57 to R67). -/

namespace Sys2Proof.Machine

open Sys2Proof

/-- The monitor copy covers a key (R67). -/
def CopySetting.covers (c : CopySetting) (key : Nat) : Bool :=
  match c with
  | .off => false
  | .all => true
  | .range lo hi => decide (lo ≤ key) && decide (key ≤ hi)

/-- The Router offers a note entry for a key to the Tone Stream and, within the monitor copy, a NOTE_COPY entry with the
outcome to the Panel Stream (R57, R67). -/
def State.offerNote (e : ToneEntry) (key : Nat) (cause : Option Cause) (s : State) : State × Offer :=
  let r := s.offerTone e
  if r.1.router.copy.covers key then (r.1.panelOffer (.noteCopy e cause r.2), r.2) else r

/-- A SILENT entry: no owner and both marks clear; the last velocity stays (R55, R60). -/
def SoundEntry.silenced (e : SoundEntry) : SoundEntry := { e with owner := none, released := false, announced := false }

/-- Key `k` becomes SILENT (R60, R61, R64). -/
def State.silence (k : Nat) (s : State) : State := s.setSound k (s.sound k).silenced

/-- Key `k` leaves the Sostenuto Set. -/
def State.leaveSostenuto (k : Nat) (s : State) : State :=
  { s with router := { s.router with sostenutoSet := removeNum k s.router.sostenutoSet } }

/-- A refused NOTE_ON is counted in DROPPED_ON (R58, R59). -/
def State.countDropped (s : State) : State :=
  { s with router := { s.router with droppedOn := satInc Config.maxCount16 s.router.droppedOn } }

/-- A key whose NOTE_ON was admitted: SOUNDING for `source`, announced, not released (R58, R59). -/
def SoundEntry.sounded (source : Source) (velocity : Nat) : SoundEntry :=
  { owner := some source, lastVelocity := some velocity, released := false, announced := true }

/-- An ON intent for a SILENT key (R58). -/
def State.onSilent (k velocity : Nat) (source : Source) (transit : Bool) (time : Time) (s : State) : State :=
  let r := s.offerNote (.noteOn k velocity source { transit := transit } time) k none
  match r.2 with
  | .admitted => r.1.setSound k (.sounded source velocity)
  | .refused => r.1.countDropped
  | .discarded => r.1

/-- The NOTE_OFF ahead of a restrike, offered only for an announced key (R59, step 1). -/
def State.restrikeOff (k : Nat) (owner : Source) (time : Time) (s : State) : State :=
  if (s.sound k).announced then (s.offerNote (.noteOff k 64 owner { restrike := true } time) k none).1 else s

/-- An ON intent for a SOUNDING key: a restrike in two steps (R59). -/
def State.onRestrike (k velocity : Nat) (owner source : Source) (transit : Bool) (time : Time) (s : State) : State :=
  let r := (s.restrikeOff k owner time).offerNote
    (.noteOn k velocity source { restrike := true, transit := transit } time) k none
  match r.2 with
  | .admitted => r.1.setSound k (.sounded source velocity)
  | .refused => ((r.1.silence k).leaveSostenuto k).countDropped
  | .discarded => r.1

/-- An ON intent (R58, R59). -/
def State.onIntent (k velocity : Nat) (source : Source) (transit : Bool) (time : Time) (s : State) : State :=
  match (s.sound k).owner with
  | none => s.onSilent k velocity source transit time
  | some owner => s.onRestrike k velocity owner source transit time

/-- Key `k` becomes SILENT and a NOTE_OFF is offered when its announced mark was set (R57, R60, R61, R64). -/
def State.silenceWith (k velocity : Nat) (source : Source) (flags : NoteFlags) (cause : Option Cause) (time : Time)
    (s : State) : State :=
  let announced := (s.sound k).announced
  let s := s.silence k
  if announced then (s.offerNote (.noteOff k velocity source flags time) k cause).1 else s

/-- An OFF intent, judged in the four cases of R60. -/
def State.offIntent (k velocity : Nat) (source : Source) (time : Time) (s : State) : State :=
  match (s.sound k).owner with
  | none => { s with router := { s.router with strayOff := satInc Config.maxCount16 s.router.strayOff } }
  | some owner =>
    if owner ≠ source then
      { s with router := { s.router with foreignOff := satInc Config.maxCount16 s.router.foreignOff } }
    else if s.router.sostenutoSet.contains k && s.pedals.sostenuto.effective then
      s.setSound k { s.sound k with released := true }
    else s.silenceWith k velocity source {} none time

/-- A FORCE_OFF for one key with a required owner (R61). -/
def State.forceOff (cause : Cause) (required : Option Source) (time : Time) (s : State) (k : Nat) : State :=
  match (s.sound k).owner with
  | none => s
  | some owner =>
    if required = none ∨ required = some owner then
      (s.leaveSostenuto k).silenceWith k 64 owner { forced := true } (some cause) time
    else s

/-- An all-key FORCE_OFF, applied to keys 1 to 88 in ascending order (R61). -/
def State.forceOffAll (cause : Cause) (required : Option Source) (time : Time) (s : State) : State :=
  keyNumbers.foldl (State.forceOff cause required time) s

/-- The keys the Sounding Table marks SOUNDING, in ascending order. -/
def State.soundingKeys (s : State) : List Nat := keyNumbers.filter (fun k => (s.sound k).owner.isSome)

/-- An effective sostenuto on edge: the Sostenuto Set becomes the set of SOUNDING keys (R63). -/
def State.sostenutoOn (s : State) : State :=
  { s with router := { s.router with sostenutoSet := s.soundingKeys } }

/-- One member at an effective sostenuto off edge: a released member becomes SILENT (R64). -/
def State.sostenutoRelease (time : Time) (s : State) (k : Nat) : State :=
  match (s.sound k).owner with
  | none => s
  | some owner => if (s.sound k).released then s.silenceWith k 64 owner {} none time else s

/-- An effective sostenuto off edge: the members in ascending order, then the set is emptied (R64). -/
def State.sostenutoOff (time : Time) (s : State) : State :=
  let s := s.router.sostenutoSet.foldl (State.sostenutoRelease time) s
  { s with router := { s.router with sostenutoSet := [] } }

/-- The Sounding Table with every key SILENT and the Sostenuto Set empty (R65). -/
def State.silenceAll (s : State) : State :=
  { s with router := { s.router with table := s.router.table.map SoundEntry.silenced, sostenutoSet := [] } }

/-- PANIC: every key SILENT, the Sostenuto Set empty, one ALL_OFF offered and copied with cause panic whatever the key range
(R65, R67). -/
def State.panic (s : State) : State :=
  let r := s.silenceAll.offerTone (.allOff s.now)
  if r.1.router.copy = .off then r.1 else r.1.panelOffer (.noteCopy (.allOff s.now) (some .panic) r.2)

end Sys2Proof.Machine
end

