-- ==== Sys2Proof/Machine/PedalOps.lean ====
section
/-! DEFINITION. The effective pedals: the recomputation of R52 and the two playback events of R51. -/

namespace Sys2Proof.Machine

open Sys2Proof

/-- The level pedal behind a tone pedal. -/
def PedalUnit.level (u : PedalUnit) : LevelId → LevelPedal
  | .damper => u.damper
  | .soft => u.soft

def PedalUnit.setLevel (u : PedalUnit) (p : LevelId) (x : LevelPedal) : PedalUnit :=
  match p with
  | .damper => { u with damper := x }
  | .soft => { u with soft := x }

/-- A change to one level pedal. -/
def State.modLevel (p : LevelId) (f : LevelPedal → LevelPedal) (s : State) : State :=
  { s with pedals := s.pedals.setLevel p (f (s.pedals.level p)) }

/-- A change to the sostenuto switch. -/
def State.modSwitch (f : SwitchPedal → SwitchPedal) (s : State) : State :=
  { s with pedals := { s.pedals with sostenuto := f s.pedals.sostenuto } }

/-- The recomputed effective level: the larger of the live reported level and the playback level (R52). -/
def LevelPedal.combined (x : LevelPedal) : Nat := max x.live x.playback

/-- The source of a PEDAL entry: LIVE when the live reported level is at least the playback level (R52). -/
def LevelPedal.source (x : LevelPedal) : Source := if x.playback ≤ x.live then .live else .playback

/-- The effective level of DAMPER or SOFT is recomputed; a change is held and offered as a PEDAL entry (R52). -/
def State.recomputeLevel (p : LevelId) (time : Time) (s : State) : State :=
  let x := s.pedals.level p
  if x.combined = x.effective then s
  else ((s.modLevel p (fun y => { y with effective := x.combined })).offerTone (.pedal p x.combined x.source time)).1

/-- The effective SOSTENUTO is recomputed; a change is held and handed to the Note Router as an edge (R52, R63, R64). -/
def State.recomputeSwitch (time : Time) (s : State) : State :=
  let x := s.pedals.sostenuto
  let on := x.live || x.playback
  if on = x.effective then s
  else
    let s := s.modSwitch (fun y => { y with effective := on })
    if on then s.sostenutoOn else s.sostenutoOff time

/-- A playback pedal event (R51): the level replaces the playback level; SOSTENUTO is on at 64 or more. -/
def State.playbackPedal (p : PedalId) (level : Nat) (s : State) : State :=
  match p with
  | .damper => (s.modLevel .damper (fun x => { x with playback := level })).recomputeLevel .damper s.now
  | .soft => (s.modLevel .soft (fun x => { x with playback := level })).recomputeLevel .soft s.now
  | .sostenuto => (s.modSwitch (fun x => { x with playback := decide (64 ≤ level) })).recomputeSwitch s.now

/-- A playback clear (R51, R52): all three values cleared, then DAMPER, SOFT and SOSTENUTO recomputed in that order. -/
def State.playbackClear (s : State) : State :=
  let s := (s.modLevel .damper (fun x => { x with playback := 0 })).modLevel .soft (fun x => { x with playback := 0 })
  let s := s.modSwitch (fun x => { x with playback := false })
  ((s.recomputeLevel .damper s.now).recomputeLevel .soft s.now).recomputeSwitch s.now

end Sys2Proof.Machine
end

