-- ==== Sys2Proof/Machine/StoreOps.lean ====
section
/-! DEFINITION. The Take Store's operations: chains and the Free List (R131, R132), reading records (R143), openings (R135,
R140), writing records (R136 to R138, R140), closing (R139) and import ends (R141). -/

namespace Sys2Proof.Machine

open Sys2Proof

/-! ### Blocks, chains and the Free List -/

/-- The number of free blocks (R132). -/
def Store.free (st : Store) : Nat := st.freeList.length

/-- The reserve held: 3 while a recording is open (R135). -/
def Store.reserveHeld (st : Store) : Nat := if st.recording.isSome then Config.recordingReserve else 0

def Store.blockEntry (st : Store) (b : Nat) : BlockEntry := (st.blockMap[b]?).getD .free

def Store.setBlock (st : Store) (b : Nat) (e : BlockEntry) : Store :=
  { st with blockMap := st.blockMap.setIfInBounds b e }

/-- The blocks from `b` on along the next-block numbers, at most `fuel` of them (R131). -/
def Store.chainFrom (st : Store) : Nat → Nat → List Nat
  | 0, _ => []
  | fuel + 1, b =>
    match st.blockEntry b with
    | .used _ (some next) => b :: Store.chainFrom st fuel next
    | .used _ none => [b]
    | .free => [b]

/-- A take's chain, from its first block to the block marked END (R131). -/
def Store.chain (st : Store) (t : Take) : List Nat := st.chainFrom Config.takeBlocks t.first

/-- A take's chain is released: its blocks join the Free List at the tail in chain order, their entries become FREE, and the
directory entry becomes EMPTY (R132, R133). -/
def Store.releaseTake (st : Store) (n : Nat) : Store :=
  match st.entry n with
  | none => st
  | some t =>
    let blocks := st.chain t
    let st := blocks.foldl (fun acc b => acc.setBlock b .free) st
    { st with freeList := st.freeList ++ blocks }.setEntry n none

/-! ### Reading -/

/-- The address of a record slot (R130). -/
def slotAddress (block slot : Nat) : Nat := block * Config.blockBytes + slot * 4

/-- The record in a slot (R143); a slot that holds no good record, which no take has, reads as END. -/
def Store.slotRecord (st : Store) (block slot : Nat) : Record :=
  (decodeRecord (Memory.readBytes st.memory (slotAddress block slot) 4)).getD { delta := 0, payload := .ending }

/-- A take's records in order: record k lies in slot k mod 32 of block floor(k / 32) of the chain (R130). -/
def Store.records (st : Store) (t : Take) : List Record :=
  let chain := st.chain t
  (List.range t.count).map
    (fun k => st.slotRecord (chain.getD (k / Config.blockSlots) 0) (k % Config.blockSlots))

/-- The times of records: running sums of the deltas (R130). -/
def timesFrom (start : Nat) : List Record → List Nat
  | [] => []
  | r :: rs => (start + r.delta) :: timesFrom (start + r.delta) rs

/-- The records of take `n`, none when the entry is EMPTY. -/
def Store.recordsOf (st : Store) (n : Nat) : List Record :=
  match st.entry n with
  | some t => st.records t
  | none => []

/-! ### Writing one record -/

/-- The head of the Free List is allocated to take `n` and linked behind its last block (R132). -/
def Store.allocate (st : Store) (n : Nat) (t : Take) : Option (Store × Take) :=
  match st.freeList with
  | [] => none
  | b :: rest =>
    some (({ st with freeList := rest }.setBlock t.last (.used n (some b))).setBlock b (.used n none), { t with last := b })

/-- A record is written in the next slot of the last block; the count rises and the duration becomes the record's time
(R133, R137). -/
def Store.writeSlot (st : Store) (n : Nat) (t : Take) (r : Record) : Store :=
  { st with
    memory := Memory.writeBytes (slotAddress t.last (t.count % Config.blockSlots)) r.bytes st.memory }.setEntry n
    (some { t with count := t.count + 1, duration := t.duration + r.delta })

/-- A record is appended to take `n`. When the last block is full a block is needed, and the head of the Free List may be
allocated only while the free blocks exceed `keep` (R138, R140, R142); absent when that test fails. -/
def Store.append (st : Store) (n keep : Nat) (r : Record) : Option Store :=
  match st.entry n with
  | none => none
  | some t =>
    if t.count ≠ 0 ∧ t.count % Config.blockSlots = 0 then
      if keep < st.free then (st.allocate n t).map (fun p => p.1.writeSlot n p.2 r) else none
    else some (st.writeSlot n t r)

/-! ### Recording -/

/-- The position a stamp reckons to, and the stamp to keep: a stamp before the last record's counts as no time passed and
keeps the last stamp (R136). -/
def RecordingContext.reckon (c : RecordingContext) (stamp : Time) : Nat × Time :=
  let e := elapsed stamp c.lastStamp
  if 2147483648 ≤ e then (c.position, c.lastStamp) else (c.position + e, stamp)

/-- The open-note set and the last pedal levels after a record is written (R137). -/
def RecordingContext.noted (c : RecordingContext) (p : Payload) : RecordingContext :=
  match p with
  | .noteOn key _ _ => { c with openNotes := insertNum key c.openNotes }
  | .noteOff key _ => { c with openNotes := removeNum key c.openNotes }
  | .pedal .damper level => { c with levels := { c.levels with damper := level } }
  | .pedal .soft level => { c with levels := { c.levels with soft := level } }
  | .pedal .sostenuto level => { c with levels := { c.levels with sostenuto := decide (64 ≤ level) } }
  | .beat _ _ => c
  | .gap => c
  | .ending => c

/-- A record is written at a position, when a slot can be had with `keep` blocks left; absent otherwise (R136 to R138). -/
def Store.writeAt (st : Store) (keep : Nat) (p : Payload) (position : Nat) (stamp : Time) : Option Store :=
  match st.recording with
  | none => none
  | some c =>
    (st.append c.take keep { delta := position / 1000 - c.lastTime, payload := p }).map (fun st =>
      let c := RecordingContext.noted { c with position := position, lastTime := position / 1000, lastStamp := stamp } p
      { st with recording := some c })

/-- The closing payloads: a NOTE_OFF for each open note in ascending order, a PEDAL 0 for each pedal not at 0 in the order
DAMPER, SOSTENUTO, SOFT, and END (R139). -/
def RecordingContext.closing (c : RecordingContext) : List Payload :=
  c.openNotes.map (fun k => .noteOff k 64)
    ++ (if c.levels.damper = 0 then [] else [.pedal .damper 0])
    ++ (if c.levels.sostenuto then [.pedal .sostenuto 0] else [])
    ++ (if c.levels.soft = 0 then [] else [.pedal .soft 0])
    ++ [.ending]

/-- One closing record; it takes the head of the Free List whatever the number of free blocks (R139). -/
def Store.writeClosing (position : Nat) (stamp : Time) (st : Store) (p : Payload) : Store :=
  (st.writeAt 0 p position stamp).getD st

/-- A change to a take's entry. -/
def Store.modEntry (st : Store) (n : Nat) (f : Take → Take) : Store := st.setEntry n ((st.entry n).map f)

/-- The closing records are written at a position, the entry becomes CLOSED, and the recording context and the reserve end
(R139). -/
def Store.closeAt (st : Store) (position : Nat) (stamp : Time) : Store :=
  match st.recording with
  | none => st
  | some c =>
    let st := c.closing.foldl (Store.writeClosing position stamp) st
    { st.modEntry c.take (fun t => { t with state := .closed }) with recording := none }

/-- The take meets the reserve line: TRUNCATED is set and the take is closed at once (R138). -/
def Store.truncateAt (st : Store) (position : Nat) (stamp : Time) : Store :=
  match st.recording with
  | none => st
  | some c => (st.modEntry c.take (fun t => { t with flags := { t.flags with truncated := true } })).closeAt position stamp

/-- A record is written by the recorder, or meets the reserve line; the mark says that it did (R138). -/
def Store.writeOrTruncate (st : Store) (p : Payload) (position : Nat) (stamp : Time) : Store × Bool :=
  match st.writeAt Config.recordingReserve p position stamp with
  | some st => (st, false)
  | none => (st.truncateAt position stamp, true)

/-- The position at which the next GAP expiry falls (R136). -/
def RecordingContext.gapPosition (c : RecordingContext) : Nat := (c.lastTime + Config.gapMs) * 1000

/-- The time base at a position at or after the last record's. -/
def RecordingContext.stampAt (c : RecordingContext) (position : Nat) : Time :=
  c.lastStamp.after (position - c.position)

/-- The GAP record of a GAP expiry, at its own moment (R136). -/
def Store.writeGap (st : Store) : Store × Bool :=
  match st.recording with
  | none => (st, false)
  | some c => st.writeOrTruncate .gap c.gapPosition (c.stampAt c.gapPosition)

/-- GAP expiries that fell due and were not taken by commands of their own, one after another (assumption 2). The mark says that one
of them met the reserve line. -/
def Store.writeGaps : Nat → Store → Store × Bool
  | 0, st => (st, false)
  | n + 1, st =>
    let r := st.writeGap
    if r.2 then r else Store.writeGaps n r.1

/-- How many GAP expiries fall before a record at `position`, to the µs (R136). One that falls at the record's own moment is taken
after it, which R136 leaves open (assumption 2). -/
def RecordingContext.gapsBefore (c : RecordingContext) (position : Nat) : Nat :=
  (position - 1 - c.lastTime * 1000) / (Config.gapMs * 1000)

/-- The GAP expiries that fell due before a stamp are written, each at its own moment (R136; assumption 2). The mark says that one
of them met the reserve line, which closed the take there (R138). -/
def Store.writeOverdue (stamp : Time) (st : Store) : Store × Bool :=
  match st.recording with
  | none => (st, false)
  | some c => if c.started then Store.writeGaps (c.gapsBefore (c.reckon stamp).1) st else (st, false)

/-- A payload handed to the recorder with a stamp is written by R136; the mark says that the take met the reserve line and was
closed. Nothing is written before the take's clock has started. -/
def Store.record (p : Payload) (stamp : Time) (st : Store) : Store × Bool :=
  match st.recording with
  | none => (st, false)
  | some c =>
    if c.started then
      let r := c.reckon stamp
      let g := Store.writeGaps (c.gapsBefore r.1) st
      if g.2 then g else g.1.writeOrTruncate p r.1 r.2
    else (st, false)

/-- A live strike or restrike for the recorder (R137): ahead of a NOTE_ON for a key in the open-note set a NOTE_OFF with
release velocity 64 is written; the part is HIGH at or above the split key. -/
def Store.recordNoteOn (key velocity : Nat) (stamp : Time) (st : Store) : Store × Bool :=
  match st.recording with
  | none => (st, false)
  | some c =>
    let split := ((st.entry c.take).map Take.split).getD 45
    let on : Payload := .noteOn key (decide (split ≤ key)) velocity
    if c.openNotes.contains key then
      let r := st.record (.noteOff key 64) stamp
      if r.2 then r else r.1.record on stamp
    else st.record on stamp

/-- A live release or forced off for the recorder: written only for a key in the open-note set (R137). -/
def Store.recordNoteOff (key velocity : Nat) (stamp : Time) (st : Store) : Store × Bool :=
  match st.recording with
  | none => (st, false)
  | some c => if c.openNotes.contains key then st.record (.noteOff key velocity) stamp else (st, false)

/-- The take is discarded when its clock has not started; otherwise it is closed at the close stamp, with no GAP expiry overdue
(`Store.writeOverdue`), or at its last record when there is no close stamp (R139). -/
def Store.closeRecording (stamp : Option Time) (st : Store) : Store :=
  match st.recording with
  | none => st
  | some c =>
    if c.started then
      match stamp with
      | none => st.closeAt c.position c.lastStamp
      | some stamp => st.closeAt (c.reckon stamp).1 (c.reckon stamp).2
    else { st.releaseTake c.take with recording := none }

/-- The take's clock starts with a stamp (R135). -/
def Store.clockStart (stamp : Time) (st : Store) : Store :=
  { st with recording := st.recording.map (fun c => { c with started := true, lastStamp := stamp }) }

/-! ### Openings -/

/-- Take numbers 1 to 16. -/
def takeNumbers : List Nat := (List.range 16).map (· + 1)

/-- The lowest-numbered EMPTY entry (R135). -/
def Store.lowestEmpty (st : Store) : Option Nat := takeNumbers.find? (fun n => (st.entry n).isNone)

/-- The next take serial (R134). -/
def Store.nextSerial (st : Store) : Nat := satInc Config.maxCount32 st.serial

/-- A new entry with the block at the head of the Free List as its first and last block; absent with no free block. -/
def Store.createTake (st : Store) (n : Nat) (state : TakeState) (tempo : Option Tempo) (split : Nat) : Option Store :=
  match st.freeList with
  | [] => none
  | b :: rest =>
    let take : Take :=
      { state := state, flags := {}, count := 0, duration := 0, tempo := tempo, split := split, name := none,
        serial := st.nextSerial, first := b, last := b, playing := false, exporting := false }
    some ({ (st.setBlock b (.used n none)).setEntry n (some take) with freeList := rest, serial := st.nextSerial })

/-- The recording context at an opening (R135). R135 gives it no last stamp before its clock starts; the 0 here is the model's,
and the clock start replaces it before any rule reads it (DESIGN CHOICE, assumption 43). -/
def RecordingContext.opened (n : Nat) : RecordingContext :=
  { take := n, started := false, position := 0, lastTime := 0, lastStamp := 0, openNotes := [], levels := PedalLevels.zero }

/-- An opening for recording: the take (0 for "next"), split key and tempo, judged in the order of R135. Answers the refusal,
or the store and the take number. -/
def Store.openRecording (st : Store) (take split : Nat) (tempo : Option Tempo) : Except Status (Store × Nat) :=
  match (if take = 0 then st.lowestEmpty else some take) with
  | none => .error .noSpace
  | some n =>
    if (st.entry n).isSome then .error .state
    else if st.free < 4 then .error .noSpace
    else
      match st.createTake n .recording tempo split with
      | none => .error .noSpace
      | some st => .ok ({ st with recording := some (.opened n) }, n)

/-- An opening for import, judged in the order of R140. -/
def Store.openImport (st : Store) (n : Nat) : Except Status Store :=
  if (st.entry n).isSome then .error .state
  else if st.free ≤ st.reserveHeld then .error .noSpace
  else
    match st.createTake n .importing none 45 with
    | none => .error .noSpace
    | some st => .ok { st with importing := some { take := n, written := 0, deltaSum := 0 } }

/-! ### Import -/

/-- An import record is written as given; absent when its block need meets the reserve line (R140, R142). -/
def Store.importRecord (st : Store) (r : Record) : Option Store :=
  match st.importing with
  | none => none
  | some c =>
    (st.append c.take st.reserveHeld r).map (fun st =>
      { st with importing := some { c with written := c.written + 1, deltaSum := c.deltaSum + r.delta } })

/-- An import fails: its chain is released, the entry becomes EMPTY and the context ends (R141). -/
def Store.failImport (st : Store) : Store :=
  match st.importing with
  | none => st
  | some c => { st.releaseTake c.take with importing := none }

/-- An import succeeds: the entry takes tempo, split key, name and flags from the header, IMPORTED is set, and it becomes
CLOSED (R141, R188). -/
def Store.finishImport (h : Header) (st : Store) : Store :=
  match st.importing with
  | none => st
  | some c =>
    { st.modEntry c.take (fun t =>
        { t with state := .closed, flags := { h.flags with imported := true }, tempo := h.tempo, split := h.split,
                 name := h.name }) with importing := none }

/-! ### Use marks (R143) -/

def Store.setPlaying (st : Store) (n : Nat) (mark : Bool) : Store := st.modEntry n (fun t => { t with playing := mark })

def Store.setExporting (st : Store) (n : Nat) (mark : Bool) : Store :=
  st.modEntry n (fun t => { t with exporting := mark })

/-! ### Starts (R149) -/

/-- A warm start fails an IMPORTING take and closes or discards a RECORDING take INTERRUPTED; answers what became of them. -/
def Store.finishTakes (st : Store) : Store × List (Nat × FinishOutcome) :=
  let imported := match st.importing with
    | some c => [(c.take, FinishOutcome.importFailed)]
    | none => []
  let st := st.failImport
  match st.recording with
  | none => (st, imported)
  | some c =>
    if c.started then
      ((st.modEntry c.take (fun t => { t with flags := { t.flags with interrupted := true } })).closeRecording none,
        imported ++ [(c.take, .closed)])
    else (st.closeRecording none, imported ++ [(c.take, .discarded)])

/-- The use marks are clear after any start (R143). -/
def Store.clearMarks (st : Store) : Store :=
  { st with directory := st.directory.map (Option.map (fun t => { t with playing := false, exporting := false })) }

end Sys2Proof.Machine
end

