-- ==== Sys2Proof/Machine/TransportOps.lean ====
section
/-! DEFINITION. The Transport's operations: recording (R153 to R155), waits and deliveries (R158, R159), pause, resume, stop and
seek (R161 to R164), loops (R165 to R167) and wait mode (R170 to R177). -/

namespace Sys2Proof.Machine

open Sys2Proof

/-! ### Recording -/

/-- The close result a store outcome gives (R155): CLOSED with the entry's fields, or DISCARDED when the entry is EMPTY. -/
def closeResult (take : Nat) (entry : Option Take) (cause : EndCause) : CloseResult :=
  match entry with
  | some t =>
    { take := take, outcome := .closed, flags := t.flags, count := t.count, duration := t.duration, cause := cause }
  | none => { take := take, outcome := .discarded, flags := {}, count := 0, duration := 0, cause := cause }

/-- The Transport holds no take: IDLE, with the cause of the return (R155, R163); the Expected Set is empty outside WAITING
(R170). -/
def Transport.toIdle (cause : EndCause) (t : Transport) : Transport :=
  { t with state := .idle, take := none, armMode := none, click := false, wait := none, seek := none, expected := [],
           lastEnd := some cause }

/-- The Transport receives the outcome of a closing (R155). -/
def State.finishRecording (cause : EndCause) (s : State) : State :=
  let take := s.transport.take.getD 0
  let clickRan := s.transport.click && decide (s.transport.state = .recording)
  let s := (s.modTransport (fun t => { t with lastClose := some (closeResult take (s.store.entry take) cause) })).post
    .takeClosed
  let s := if clickRan then s.recordClickEnd else s
  (s.modTransport (Transport.toIdle cause)).post .transport

/-- A write by the recorder; a take that met the reserve line ends the recording with cause RESERVE (R138, R155). -/
def State.recordWith (f : Store → Store × Bool) (s : State) : State :=
  let r := f s.store
  let s := { s with store := r.1 }
  if r.2 then s.finishRecording .reserve else s

/-- A recording stands, armed or running (R155). -/
def TransportState.records : TransportState → Bool
  | .armed => true
  | .recording => true
  | .idle => false
  | .seeking => false
  | .playing => false
  | .waiting => false
  | .paused => false

/-- The GAP expiries that fell due before a stamp are taken first (assumption 2); one that meets the reserve line has ended the
recording with cause RESERVE (R138, R155). -/
def State.takeOverdue (stamp : Time) (s : State) : State := s.recordWith (Store.writeOverdue stamp)

/-- The Transport hands the closing to the store with the close stamp and receives its outcome (R155). A recording that an
overdue GAP expiry has already ended is closed no second time: the first cause taken ends it. -/
def State.endRecording (cause : EndCause) (stamp : Time) (s : State) : State :=
  let s := s.takeOverdue stamp
  if s.transport.state.records then (s.modStore (Store.closeRecording (some stamp))).finishRecording cause else s

/-- The PEDAL record of a held pedal at the clock start (R153, step 2). -/
def State.recordHeld (stamp : Time) (s : State) (p : PedalId) : State :=
  let level := match p with
    | .damper => s.pedals.damper.live
    | .soft => s.pedals.soft.live
    | .sostenuto => if s.pedals.sostenuto.live then 127 else 0
  if level = 0 then s else s.recordWith (Store.record (.pedal p level) stamp)

/-- A beat of the RECORDING clock handed to the recorder (R154). -/
def State.recordBeat (pos : BeatPos) (s : State) : State :=
  if s.transport.state = .recording then s.recordWith (Store.record (.beat pos.bar pos.beat) s.now) else s

/-- The take's tempo and beats per bar become the metronome settings that stand (R153, step 5). -/
def State.stampTempo (s : State) : State :=
  s.modStore (fun st => st.modEntry (s.transport.take.getD 0)
    (fun t => { t with tempo := some { bpm := s.audio.metro.tempo, beats := s.audio.metro.beats } }))

/-- The clock start (R153), with the strike of a FIRST_NOTE start. -/
def State.clockStart (stamp : Time) (strike : Option (Nat × Nat)) (s : State) : State :=
  let s := s.modStore (Store.clockStart stamp)
  let s := pedalOrder.foldl (State.recordHeld stamp) s
  let s := match strike with
    | some (key, velocity) => s.recordWith (Store.recordNoteOn key velocity stamp)
    | none => s
  let s := (s.modTransport (fun t => { t with state := .recording })).post .transport
  if s.transport.click then (s.recordClickStart.stampTempo).recordBeat { bar := 1, beat := 1 } else s

/-- A live release for the recorder (R154). -/
def State.liveRelease (key velocity : Nat) (stamp : Time) (s : State) : State :=
  if s.transport.state = .recording then s.recordWith (Store.recordNoteOff key velocity stamp) else s

/-- A live pedal change or sostenuto edge for the Transport (R53, R154). -/
def State.livePedal (p : PedalId) (level : Nat) (stamp : Time) (s : State) : State :=
  if s.transport.state = .recording then s.recordWith (Store.record (.pedal p level) stamp) else s

/-! ### Waits -/

/-- The records of the take in use. -/
def State.takeRecords (s : State) : List Record := s.store.recordsOf (s.transport.take.getD 0)

/-- The times of its records. -/
def State.takeTimes (s : State) : List Nat := timesFrom 0 s.takeRecords

/-- The duration of the take in use. -/
def State.takeDuration (s : State) : Nat := ((s.store.entry (s.transport.take.getD 0)).map Take.duration).getD 0

/-- A loop is armed while repeats are left or its setting is endless (R165). -/
def Loop.armed (l : Loop) : Bool := decide (l.repeats = 0) || decide (0 < l.left)

/-- The take position at a moment (R158). -/
def Transport.position (t : Transport) (now : Time) : Nat :=
  match t.state, t.wait with
  | .playing, some w => min (t.cursorTime + elapsed now w.began * w.speed / 100000) w.target
  | _, _ => t.cursorTime

/-- Where a wait runs: toward B when an armed loop's B lies between the cursor time and the record's time, toward the record
otherwise (R158, R166). -/
def Transport.waitTarget (t : Transport) (recordTime : Nat) : Nat × Bool :=
  match t.loop with
  | some l => if l.armed ∧ t.cursorTime < l.b ∧ l.b ≤ recordTime then (l.b, true) else (recordTime, false)
  | none => (recordTime, false)

/-- A wait is computed from the cursor time with the carry (R158). -/
def Transport.computeWait (recordTime : Nat) (now : Time) (t : Transport) : Transport :=
  let g := t.waitTarget recordTime
  let numerator := (g.1 - t.cursorTime) * 100 + t.carry
  let length := numerator / t.speed
  { t with
    carry := numerator - length * t.speed
    wait := some { target := g.1, towardB := g.2, fromTime := t.cursorTime, began := now, length := length,
                   speed := t.speed } }

/-- The wait for the record at the cursor is computed (R158). -/
def State.computeWait (s : State) : State :=
  s.modTransport (Transport.computeWait (s.takeTimes.getD s.transport.cursor s.transport.cursorTime) s.now)

/-- The time base at which a wait expires (R158). -/
def Wait.expiry (w : Wait) : Time := w.began.after (w.length * 1000)

/-- The anchor test on the record at the cursor (R166). -/
def Transport.anchorTest (times : List Nat) (t : Transport) : Transport :=
  match t.loop, t.anchor, times[t.cursor]? with
  | some l, none, some time =>
    if l.a ≤ time ∧ (t.cursor = 0 ∨ times.getD (t.cursor - 1) 0 < l.a) then
      { t with anchor := some { record := t.cursor, time := time, levels := t.levels } }
    else t
  | _, _, _ => t

def State.anchorTest (s : State) : State := s.modTransport (Transport.anchorTest s.takeTimes)

/-! ### Pedals of the take -/

/-- A PEDAL record sets the take pedal level; SOSTENUTO is on at 64 or more (R159). -/
def PedalLevels.set (l : PedalLevels) (p : PedalId) (level : Nat) : PedalLevels :=
  match p with
  | .damper => { l with damper := level }
  | .soft => { l with soft := level }
  | .sostenuto => { l with sostenuto := decide (64 ≤ level) }

/-- The level a restatement sends for a pedal: the take's level, and 127 for SOSTENUTO on. -/
def PedalLevels.get (l : PedalLevels) (p : PedalId) : Nat :=
  match p with
  | .damper => l.damper
  | .soft => l.soft
  | .sostenuto => if l.sostenuto then 127 else 0

/-- A playback pedal event for each take pedal level that is not 0 or off, in the order DAMPER, SOSTENUTO, SOFT (R162, R167). -/
def State.restatePedals (s : State) : State :=
  let levels := s.transport.levels
  pedalOrder.foldl (fun s p => if levels.get p = 0 then s else s.playbackPedal p (levels.get p)) s

/-- The levels a scan notes among the PEDAL records it passes (R164). -/
def scanLevels (records : List Record) : PedalLevels :=
  records.foldl (fun l r =>
    match r.payload with
    | .pedal p level => l.set p level
    | .noteOn .. => l
    | .noteOff .. => l
    | .beat .. => l
    | .gap => l
    | .ending => l) PedalLevels.zero

/-! ### Pause, continuation, stop and seek -/

/-- WAIT_TIME rises by the waiting count, which becomes absent (R176, R177). -/
def Transport.bankWaiting (t : Transport) : Transport :=
  match t.waitingCount with
  | some c => { t with waitTime := satAdd Config.maxCount32 t.waitTime c, waitingCount := none }
  | none => t

/-- In WAITING the cursor is set back to the chord's first record and the gathering mark is cleared (R161, step 4; R173;
R177). In PLAYING the mark stays, so that a chord already completed is not gathered again (R177; assumption 18). -/
def Transport.setBack (t : Transport) : Transport :=
  match t.state, t.mark with
  | .waiting, some m => { t with cursor := m.first, cursorTime := m.time, mark := none }
  | _, _ => t

/-- Steps 1 to 4 of a pause (R161, R177). -/
def State.haltTake (s : State) : State :=
  let s := s.modTransport (fun t => { t with cursorTime := t.position s.now, wait := none, carry := 0 })
  let s := (s.forceOffAll .playbackPause (some .playback) s.now).playbackClear
  s.modTransport (fun t =>
    { t.setBack.bankWaiting with delivered := [], expected := [] })

/-- A playback is stopped (R163). -/
def State.stopPlayback (cause : EndCause) (s : State) : State :=
  let take := s.transport.take.getD 0
  let s := s.modTransport (fun t => { t with wait := none, seek := none })
  let s := (s.forceOffAll .playbackStop (some .playback) s.now).playbackClear
  let s := s.modTransport (fun t =>
    { t.bankWaiting with delivered := [], expected := [], recent := [], mark := none, loop := none, anchor := none })
  let s := s.modStore (fun st => st.setPlaying take false)
  let s := if s.transport.click then s.playClickEnd else s
  let s := s.setPlaySpeed none
  (s.modTransport (Transport.toIdle cause)).post .transport

/-- A seek toward a target begins (R164) and clears the gathering mark (R173); TRANSPORT is posted except where the state was
SEEKING already. -/
def State.startSeek (target : Nat) (pausePending : Bool) (s : State) : State :=
  let was := s.transport.state
  let s := s.modTransport (fun t =>
    { t with state := .seeking, wait := none, carry := 0, mark := none,
             seek := some { target := target, pausePending := pausePending, began := s.now } })
  if was = .seeking then s else s.post .transport

/-- The landing record of a scan: the first whose time is at or above the target (R164). -/
def landing (times : List Nat) (target : Nat) : Nat := times.findIdx (fun t => decide (target ≤ t))

/-- The µs a scan takes to a landing record: 32 records each 100 µs (R164). -/
def scanMicros (record : Nat) : Nat :=
  (record + 1 + (Config.seekSlotsPerTick - 1)) / Config.seekSlotsPerTick * Config.seekTickMicros

/-! ### Wait mode -/

/-- A part is in the part mask. -/
def Parts.has (p : Parts) (high : Bool) : Bool := if high then p.high else p.low

/-- What a scan for a chord has gathered: the Expected Set, the notes left out, and the last muted NOTE_ON taken (R172). -/
structure Chord where
  expected : List Nat
  overflow : Nat
  last : Nat
  deriving DecidableEq, Repr

/-- One muted NOTE_ON taken by the scan (R172, step 2). -/
def Chord.take (key number : Nat) (c : Chord) : Chord :=
  if c.expected.contains key then { c with last := number }
  else if c.expected.length < Config.expectedLimit then { c with expected := insertNum key c.expected, last := number }
  else { c with overflow := c.overflow + 1, last := number }

/-- The scan reads forward from record `number` and stops at the first record past the window end, or at END (R172, step 2). -/
def scanChord (parts : Parts) (windowEnd : Nat) : Nat → List (Record × Nat) → Chord → Chord
  | _, [], c => c
  | number, (r, time) :: rest, c =>
    if windowEnd < time then c
    else
      match r.payload with
      | .ending => c
      | .noteOn key high _ =>
        scanChord parts windowEnd (number + 1) rest (if parts.has high then c else c.take key number)
      | .noteOff .. => scanChord parts windowEnd (number + 1) rest c
      | .pedal .. => scanChord parts windowEnd (number + 1) rest c
      | .beat .. => scanChord parts windowEnd (number + 1) rest c
      | .gap => scanChord parts windowEnd (number + 1) rest c

/-- The window end of a gathering at `t0` (R172, step 1). -/
def Transport.windowEnd (t : Transport) (t0 : Nat) : Nat :=
  match t.loop with
  | some l => if l.armed ∧ t0 < l.b then min (t0 + t.chordWindow) (l.b - 1) else t0 + t.chordWindow
  | none => t0 + t.chordWindow

/-- A counter of the wait score rises by `n`, saturating. -/
def scoreAdd (c n : Nat) : Nat := satAdd Config.maxCount16 c n

/-- The newest entry of a key whose age is at most `lead` µs, from a list newest first, and the rest of the list. -/
def consume (now : Time) (lead key : Nat) : List RecentStrike → Option (RecentStrike × List RecentStrike)
  | [] => none
  | r :: rest =>
    if r.key = key ∧ elapsed now r.time ≤ lead then some (r, rest)
    else (consume now lead key rest).map (fun p => (p.1, r :: p.2))

/-- Early strikes for one key of the Expected Set (R172, step 4). -/
def State.earlyStrike (t0 : Nat) (s : State) (key : Nat) : State :=
  match consume s.now (s.transport.leadWindow * 1000) key s.transport.recent.reverse with
  | none => s
  | some (r, rest) =>
    let s := s.modTransport (fun t =>
      { t with recent := rest.reverse, expected := removeNum key t.expected, hits := scoreAdd t.hits 1 })
    s.panelOffer (.waitHit key r.time true t0 s.transport.expected.length)

/-- A chord is gathered at the delivery of record `k0`, whose time is the cursor time (R172). -/
def State.gather (k0 : Nat) (s : State) : State :=
  let t0 := s.transport.cursorTime
  let from_ := (s.takeRecords.zip s.takeTimes).drop k0
  let c := scanChord s.transport.parts (s.transport.windowEnd t0) k0 from_ { expected := [], overflow := 0, last := k0 }
  let s := s.modTransport (fun t =>
    { t with expected := c.expected, expectOverflow := scoreAdd t.expectOverflow c.overflow,
             mark := some { first := k0, time := t0, last := c.last } })
  let s := c.expected.foldl (State.earlyStrike t0) s
  if s.transport.expected.isEmpty then (s.modTransport (fun t => { t with chords := scoreAdd t.chords 1 })).computeWait
  else (s.modTransport (fun t => { t with state := .waiting, waitingCount := some 0, wait := none })).post .transport

/-- A record is covered by the gathering mark (R173). -/
def Transport.covered (t : Transport) (number : Nat) : Bool :=
  match t.mark with
  | some m => decide (m.first ≤ number) && decide (number ≤ m.last)
  | none => false

/-- The Transport leaves WAITING for PLAYING at t0, with the wait for the record at the cursor computed (R176, steps 2 to 4). -/
def State.leaveWaiting (s : State) : State :=
  ((s.modTransport (fun t =>
    { t with waitingCount := none, state := .playing, carry := 0,
             cursorTime := (t.mark.map GatherMark.time).getD t.cursorTime })).computeWait).post .transport

/-- A chord is completed (R176). -/
def State.completeChord (s : State) : State :=
  (s.modTransport (fun t => { t.bankWaiting with chords := scoreAdd t.chords 1 })).leaveWaiting

/-- A strike joins the tail of the Recent Strikes list; the oldest of 8 leaves first (R171). -/
def Transport.pushRecent (key : Nat) (time : Time) (t : Transport) : Transport :=
  { t with
    recent := (if Config.recentLimit ≤ t.recent.length then t.recent.drop 1 else t.recent) ++ [{ key := key, time := time }] }

/-- A live strike in WAITING is judged a hit or a miss (R175). -/
def State.judgeStrike (key : Nat) (time : Time) (s : State) : State :=
  let t0 := (s.transport.mark.map GatherMark.time).getD s.transport.cursorTime
  if s.transport.expected.contains key then
    let s := s.modTransport (fun t => { t with expected := removeNum key t.expected, hits := scoreAdd t.hits 1 })
    let s := s.panelOffer (.waitHit key time false t0 s.transport.expected.length)
    if s.transport.expected.isEmpty then s.completeChord else s
  else
    let s := s.modTransport (fun t => { t.pushRecent key time with misses := scoreAdd t.misses 1 })
    s.panelOffer (.waitMiss key time t0 s.transport.expected.length)

/-- A live strike or restrike for the Transport, by its state (R44, R153, R154, R171, R175). -/
def State.liveStrike (key velocity : Nat) (time : Time) (s : State) : State :=
  match s.transport.state with
  | .idle => s
  | .armed => s.clockStart time (some (key, velocity))
  | .recording => s.recordWith (Store.recordNoteOn key velocity time)
  | .seeking => s.modTransport (Transport.pushRecent key time)
  | .playing => s.modTransport (Transport.pushRecent key time)
  | .paused => s.modTransport (Transport.pushRecent key time)
  | .waiting => s.judgeStrike key time

/-! ### Delivery and loop jump -/

/-- What follows a delivery that leaves the take PLAYING: the anchor test and the wait for the next record (R158, R166). -/
def State.nextRecord (s : State) : State := s.anchorTest.computeWait

/-- The delivery of record `number`, the record at the cursor, at the expiry of a wait (R159). -/
def State.deliver (number : Nat) (r : Record) (w : Wait) (s : State) : State :=
  let s := s.modTransport (fun t => { t with cursor := number + 1, cursorTime := w.target, wait := none })
  match r.payload with
  | .noteOn key high velocity =>
    if s.transport.parts.has high then
      ((s.onIntent key velocity .playback false s.now).modTransport
        (fun t => { t with delivered := insertNum key t.delivered })).nextRecord
    else if s.transport.waitMode && !s.transport.covered number then (s.anchorTest).gather number
    else s.nextRecord
  | .noteOff key velocity =>
    if s.transport.delivered.contains key then
      ((s.offIntent key velocity .playback s.now).modTransport
        (fun t => { t with delivered := removeNum key t.delivered })).nextRecord
    else s.nextRecord
  | .pedal p level =>
    ((s.modTransport (fun t => { t with levels := t.levels.set p level })).playbackPedal p level).nextRecord
  | .beat bar n => (if s.transport.click then s.beatDelivery { bar := bar, beat := n } else s).nextRecord
  | .gap => s.nextRecord
  | .ending => s.stopPlayback .ending

/-- The record at the cursor is delivered at once where its wait, just computed, has length 0. -/
def State.deliverDue (s : State) : State :=
  match s.transport.wait, s.takeRecords[s.transport.cursor]? with
  | some w, some r => if w.length = 0 ∧ w.towardB = false then s.deliver s.transport.cursor r w else s
  | _, _ => s

/-- The Transport continues a take (R162): the pedals restated, PLAYING, the wait for the record at the cursor computed. A record
due at once is delivered within it (R177; for a seek and for records that are not gathered, DEDUCED, assumption 45). -/
def State.continueTake (s : State) : State :=
  let s := s.restatePedals
  (((s.modTransport (fun t => { t with state := .playing, carry := 0 })).computeWait).post .transport).deliverDue

/-- A seek completes (R164). -/
def State.completeSeek (k : Seek) (s : State) : State :=
  let n := landing s.takeTimes k.target
  let s := s.modTransport (fun t =>
    { t with cursor := n, cursorTime := k.target, carry := 0, levels := scanLevels (s.takeRecords.take n), seek := none })
  let s := s.anchorTest
  if k.pausePending then (s.modTransport (fun t => { t with state := .paused })).post .transport else s.continueTake

/-- Steps 1 to 4 of a loop jump (R167), with the gathering mark cleared (R173) and the cursor time at the target of the wait
that expired (R158). -/
def State.endPass (l : Loop) (s : State) : State :=
  (s.forceOffAll .loopJump (some .playback) s.now).playbackClear.modTransport (fun t =>
    { t with delivered := [], expected := [], mark := none, wait := none,
             cursorTime := (t.wait.map Wait.target).getD t.cursorTime,
             loop := some { l with left := if l.repeats = 0 then l.left else l.left - 1 } })

/-- The take returns to the anchor (R167, step 5). -/
def State.returnToAnchor (l : Loop) (a : Anchor) (s : State) : State :=
  ((s.modTransport (fun t => { t with cursor := a.record, cursorTime := l.a, levels := a.levels, carry := 0 })).restatePedals).computeWait

/-- A loop jump (R167): back to the anchor, or by a seek toward A where there is none. -/
def State.loopJump (l : Loop) (s : State) : State :=
  match (s.endPass l).transport.anchor with
  | some a => ((s.endPass l).returnToAnchor l a).post .transport
  | none => ((s.endPass l).startSeek l.a false).post .transport

/-- The wait in progress is recomputed from the take position with carry 0 (R165). -/
def State.recomputeWait (s : State) : State :=
  (s.modTransport (fun t => { t with cursorTime := t.position s.now, carry := 0 })).computeWait

end Sys2Proof.Machine
end

