-- ==== Sys2Proof/Machine/PedalSampling.lean ====
section
/-! DEFINITION. The sensing side of the Pedal Unit: samples (R46), faults (R47), record writes (R48), and the live values (R49,
R50, R53). -/

namespace Sys2Proof.Machine

open Sys2Proof

/-- The sensing side of one pedal. -/
def PedalUnit.sense (u : PedalUnit) : PedalId → PedalSense
  | .damper => u.damper.sense
  | .sostenuto => u.sostenuto.sense
  | .soft => u.soft.sense

def PedalUnit.setSense (u : PedalUnit) (p : PedalId) (x : PedalSense) : PedalUnit :=
  match p with
  | .damper => { u with damper := { u.damper with sense := x } }
  | .sostenuto => { u with sostenuto := { u.sostenuto with sense := x } }
  | .soft => { u with soft := { u.soft with sense := x } }

/-- The sensing side of one pedal is replaced. -/
def State.setSense (p : PedalId) (x : PedalSense) (s : State) : State := { s with pedals := s.pedals.setSense p x }

/-- A level pedal as a pedal. -/
def LevelId.pedal : LevelId → PedalId
  | .damper => .damper
  | .soft => .soft

/-- A live pedal change (R49): the reported level is replaced, the effective level recomputed (R52) and the change handed to the
Transport (R53). A level that is reported already changes nothing. -/
def State.setLive (p : LevelId) (level : Nat) (s : State) : State :=
  if (s.pedals.level p).live = level then s
  else
    ((s.modLevel p (fun x => { x with live := level })).recomputeLevel p s.now).livePedal p.pedal level s.now

/-- A live sostenuto edge (R50): the switch, the effective switch (R52) and the hand-on as level 127 or 0 (R53). -/
def State.setLiveSwitch (on : Bool) (s : State) : State :=
  if s.pedals.sostenuto.live = on then s
  else
    ((s.modSwitch (fun x => { x with live := on })).recomputeSwitch s.now).livePedal .sostenuto (if on then 127 else 0) s.now

/-- The computed level of a depth (R49). -/
def computedLevel (depth : Nat) : Nat := (depth * 127 + 500) / 1000

/-- A computed level replaces a reported level: it differs by 2 or more, or it is an end that differs (R49). -/
def levelReplaces (computed reported : Nat) : Bool :=
  decide (2 ≤ rawDistance computed reported) || ((decide (computed = 0) || decide (computed = 127)) && computed != reported)

/-- A depth of DAMPER or SOFT (R49). -/
def State.levelDepth (p : LevelId) (depth : Nat) (s : State) : State :=
  if levelReplaces (computedLevel depth) (s.pedals.level p).live then s.setLive p (computedLevel depth) else s

/-- A depth of SOSTENUTO (R50). -/
def State.switchDepth (depth : Nat) (s : State) : State :=
  if 550 ≤ depth then s.setLiveSwitch true else if depth < 450 then s.setLiveSwitch false else s

/-- A depth of a pedal is evaluated (R46). -/
def State.pedalDepth (p : PedalId) (depth : Nat) (s : State) : State :=
  match p with
  | .damper => s.levelDepth .damper depth
  | .soft => s.levelDepth .soft depth
  | .sostenuto => s.switchDepth depth

/-- A pedal's live value is set to level 0, or to off (R47, R48). -/
def State.clearLive (p : PedalId) (s : State) : State :=
  match p with
  | .damper => s.setLive .damper 0
  | .soft => s.setLive .soft 0
  | .sostenuto => s.setLiveSwitch false

/-- A plausible reading of an ACTIVE pedal (R46). -/
def State.activePedal (p : PedalId) (raw : Nat) (s : State) : State :=
  let x := s.pedals.sense p
  (s.setSense p { x with glitchRun := 0 }).pedalDepth p (depthOf raw x.cal.restRaw x.cal.fullRaw)

/-- An implausible reading of an ACTIVE pedal: the fourth in a row enters FAULT (R46, R47). -/
def State.glitchPedal (p : PedalId) (s : State) : State :=
  let x := s.pedals.sense p
  if Config.faultEntry ≤ x.glitchRun + 1 then
    ((s.setSense p { x with glitchRun := 0, recoveryRun := 0, state := .fault }).clearLive p).post .keyFault
  else s.setSense p { x with glitchRun := x.glitchRun + 1 }

/-- A sample of a pedal in FAULT; the 64th plausible one recovers it and is evaluated (R47). -/
def State.faultPedal (p : PedalId) (raw : Nat) (s : State) : State :=
  let x := s.pedals.sense p
  if plausible raw then
    if Config.faultRecovery ≤ x.recoveryRun + 1 then
      ((s.setSense p { x with recoveryRun := 0, state := .active }).post .keyFault).activePedal p raw
    else s.setSense p { x with recoveryRun := x.recoveryRun + 1 }
  else s.setSense p { x with recoveryRun := 0 }

/-- A pedal sample arrival (R46). -/
def State.samplePedal (p : PedalId) (raw : Nat) (s : State) : State :=
  match (s.pedals.sense p).state with
  | .invalid => s
  | .active => if plausible raw then s.activePedal p raw else s.glitchPedal p
  | .fault => s.faultPedal p raw

/-- CAL_WRITE to a pedal (R48). -/
def State.writePedal (p : PedalId) (c : PedalCal) (s : State) : State :=
  let before := (s.pedals.sense p).state
  let x : PedalSense :=
    { cal := c, state := if c.valid then .active else .invalid, glitchRun := 0, recoveryRun := 0 }
  let s := s.setSense p x
  if c.valid then (if before = .fault then s.post .keyFault else s) else s.clearLive p

end Sys2Proof.Machine
end

