-- ==== Sys2Proof/Machine/RailOps.lean ====
section
/-! DEFINITION. The Rail Drive's operations: state changes (R84, R105), quiet gating (R88, R89), the profile run (R90 to R92),
reversal (R93), failures (R95 to R100), the current alert (R101) and the end switches (R86). -/

namespace Sys2Proof.Machine

open Sys2Proof

/-! ### State changes -/

/-- The resting state after a change of rail state (R84). -/
def restingAfter (x resting : RailState) : RailState :=
  match x with
  | .retracted => .retracted
  | .engaged => .engaged
  | .waitQuiet => resting
  | .unknown => .unknown
  | .engaging => .unknown
  | .retracting => .unknown
  | .stalled => .unknown
  | .switchFault => .unknown

/-- The rail takes a state (R84). -/
def Rail.enter (x : RailState) (r : Rail) : Rail := { r with state := x, resting := restingAfter x r.resting }

/-- The conditions moving and engaged and the alert requested mark are handed to the Audio Stage (R105). -/
def State.railHandOn (s : State) : State :=
  s.modAudio (Audio.handOn s.rail.state.moving (decide (s.rail.state = .engaged)) s.rail.alertRequested)

/-- A change of rail state is handed on and posts RAIL_STATE (R84, R105). -/
def State.railChanged (s : State) : State := s.railHandOn.post .railState

/-- The alert requested mark becomes set or clear and is handed on (R105, R106). -/
def State.setAlertRequested (requested : Bool) (s : State) : State :=
  (s.modRail (fun r => { r with alertRequested := requested })).railHandOn

/-- The moving state of a target. -/
def Target.movingState : Target → RailState
  | .engage => .engaging
  | .retract => .retracting

/-- The end of a target. -/
def Target.endState : Target → RailState
  | .engage => .engaged
  | .retract => .retracted

/-- The conditioned level of a target end's switch. -/
def Rail.switchOf (r : Rail) : Target → Bool
  | .engage => r.engageEnd
  | .retract => r.retractEnd

/-! ### The run -/

/-- `ms` milliseconds after `t`. -/
def afterMs (t : Time) (ms : Nat) : Time := t.after (ms * 1000)

/-- RAMP begins: the first duty step one duty step time later, and the stall timer started (R91, R97). -/
def Run.beginRamp (now : Time) (x : Run) : Run :=
  { x with
    phase := .ramp
    nextStep := afterMs now x.profile.stepTime
    stallTimer := some (afterMs now x.profile.stallTime) }

/-- The kick, or the ramp at once with a kick time of 0 (R91). -/
def Run.beginKick (now : Time) (x : Run) : Run :=
  let x := { x with phase := .kick, phaseEnd := afterMs now x.profile.kickTime, duty := x.profile.kickDuty, stallTimer := none }
  if x.profile.kickTime = 0 then x.beginRamp now else x

/-- A fresh run record (R90, steps 2 to 4), which reckons with the learned travel held at its start (R91). -/
def Rail.freshRun (measured : Bool) (now : Time) (r : Rail) : Run :=
  Run.beginKick now
    { profile := r.profile, phase := .kick, phaseEnd := now, nextStep := now, stallTimer := none,
      moveTimer := afterMs now r.profile.moveTimeout, duty := 0, travel := r.learned, retriesUsed := 0, blind := !r.known,
      measured := measured, blindPulses := 0 }

/-- The learned travel after an arrival at the engaged end (R92, step 2). -/
def Rail.measuredTravel (r : Rail) : Nat :=
  match r.run with
  | some run => if run.measured then clampInt 400 4000 r.count else r.learned
  | none => r.learned

/-- The rail record after an arrival (R92, steps 1 to 4): the retracted end is count 0. -/
def Rail.arrive (target : Target) (r : Rail) : Rail :=
  let place : Nat × Int := match target with
    | .engage => (r.measuredTravel, r.count)
    | .retract => (r.learned, 0)
  Rail.enter target.endState
    { r with run := none, target := none, learned := place.1, count := place.2, lastMove := some .complete, arm := .below }

/-- An arrival (R92). -/
def State.railArrive (target : Target) (s : State) : State := (s.modRail (Rail.arrive target)).railChanged

/-- A run begins from WAIT_QUIET (R90). -/
def State.startRun (target : Target) (s : State) : State :=
  let s := (s.modRail (fun r =>
    let measured := decide (r.prior = some .retracted) && decide (target = .engage) && r.known
    Rail.enter target.movingState
      { r with target := some target, prior := none, quietTimer := none, arm := .below,
               run := some (r.freshRun measured s.now) })).railChanged
  if s.rail.switchOf target then s.railArrive target else s

/-- The keyboard is reported quiet: a waiting move starts (R89). -/
def State.railQuiet (s : State) : State :=
  match s.rail.state, s.rail.target with
  | .waitQuiet, some target => s.startRun target
  | _, _ => s

/-- WAIT_QUIET is entered with a target and a prior state; a quiet keyboard begins the run within the same event (R89). -/
def State.enterWaitQuiet (target : Target) (prior : RailState) (s : State) : State :=
  let s := (s.modRail (fun r => Rail.enter .waitQuiet
    { r with target := some target, prior := some prior, quietTimer := some (afterMs s.now r.profile.quietWait) })).railChanged
  if s.quiet then s.railQuiet else s

/-- A wait ends and the rail returns to its prior state, ABANDONED (R88, R89). -/
def State.abandonWait (s : State) : State :=
  (s.modRail (fun r => Rail.enter (r.prior.getD .unknown)
    { r with target := none, prior := none, quietTimer := none, lastMove := some .abandoned })).railChanged

/-- A reversal toward a target (R93): the dwell, the state, the result, the arm and the timers. -/
def State.reverse (target : Target) (s : State) : State :=
  (s.modRail (fun r =>
    Rail.enter target.movingState
      { r with
        target := some target
        lastMove := some .reversed
        arm := .below
        run := r.run.map (fun x =>
          { x with phase := .reversalDwell, phaseEnd := s.now.after Config.reversalDwellMicros, duty := 0, retriesUsed := 0,
                   moveTimer := afterMs s.now r.profile.moveTimeout, stallTimer := none, blindPulses := 0 }) })).railChanged

/-- The reversal dwell ends and a fresh run begins: the state, the move timer and the alert arm are kept, the measured mark is
cleared and the blind mark set from position known (R90, R93). -/
def Rail.freshAfterReversal (now : Time) (r : Rail) : Rail :=
  { r with run := r.run.map (fun x => { r.freshRun false now with moveTimer := x.moveTimer }) }

/-! ### Move requests (R88) -/

/-- A move request judged in the rail's state; the mark says that the rail is there already (R88). -/
def State.moveRequest (target : Target) (s : State) : State × Status × Bool :=
  match s.rail.state with
  | .retracted =>
    if target = .retract then (s, .ok, true) else (s.enterWaitQuiet target .retracted, .accepted, false)
  | .engaged =>
    if target = .engage then (s, .ok, true) else (s.enterWaitQuiet target .engaged, .accepted, false)
  | .unknown => (s.enterWaitQuiet target .unknown, .accepted, false)
  | .waitQuiet =>
    if s.rail.target = some target then (s, .ok, false)
    else if s.rail.prior = some target.endState then (s.abandonWait, .ok, true)
    else
      (s.modRail (fun r =>
        { r with target := some target, quietTimer := some (afterMs s.now r.profile.quietWait) }), .accepted, false)
  | .engaging => if target = .engage then (s, .ok, false) else (s.reverse target, .accepted, false)
  | .retracting => if target = .retract then (s, .ok, false) else (s.reverse target, .accepted, false)
  | .stalled =>
    (State.enterWaitQuiet target .stalled (s.modRail (fun r => { r with alertRequested := false })), .accepted, false)
  | .switchFault => (s, .state, false)

/-! ### Failures -/

/-- A run fails (R95). -/
def State.failRun (cause : RailCause) (s : State) : State :=
  ((s.modRail (fun r => Rail.enter .stalled
    { r with
      run := none
      target := none
      lastMove := some .failed
      lastFault := some { cause := cause, target := r.target, count := r.count, time := s.now }
      arm := .below
      stalls := satInc Config.maxCount8 r.stalls
      alertRequested := true })).railChanged).post .railFault

/-- The stall timer expires: a retry dwell while retries are left, a failure otherwise (R97). -/
def State.stallExpired (run : Run) (s : State) : State :=
  if run.retriesUsed < run.profile.retries then
    s.modRail (fun r =>
      { r with run := some { run with duty := 0, retriesUsed := run.retriesUsed + 1, phase := .retryDwell,
                                      phaseEnd := s.now.after Config.retryDwellMicros, stallTimer := none } })
  else s.failRun .stall

/-- SWITCH_FAULT is entered (R100). An alert requested mark that a STALLED rail held stays set throughout, so a sounding alert
tone goes on in its segment (DEDUCED, assumption 40). -/
def State.switchFault (s : State) : State :=
  ((s.modRail (fun r => Rail.enter .switchFault
    { r with
      run := none
      target := none
      prior := none
      quietTimer := none
      lastMove := if r.run.isSome then some .failed else r.lastMove
      lastFault := some { cause := .bothSwitches, target := r.target, count := r.count, time := s.now }
      arm := .below
      stalls := satInc Config.maxCount8 r.stalls
      alertRequested := true })).railChanged).post .railFault

/-! ### The duty ramp (R91) -/

/-- The remaining pulses of a run (R91), by the count as it stands and the learned travel the run reckons with. A pulse against
the move changes them through the count alone (DEDUCED, assumption 39). -/
def Rail.remaining (r : Rail) (x : Run) : Int :=
  match r.target with
  | some .engage => (x.travel : Int) - r.count
  | some .retract => r.count
  | none => 0

/-- The phase target of a run (R91). -/
def Rail.phaseTarget (r : Rail) (x : Run) : Nat :=
  if x.blind then x.profile.approachDuty
  else if (x.profile.approachZone : Int) < r.remaining x then x.profile.cruiseDuty
  else x.profile.approachDuty

/-- The stall timer after a duty step: stopped at duty 0, and started again when the duty is raised (R97). -/
def Run.stallAfterStep (now : Time) (duty : Nat) (x : Run) : Option Time :=
  if duty = 0 then (if x.duty = 0 then x.stallTimer else none)
  else
    match x.stallTimer with
    | some t => some t
    | none => some (afterMs now x.profile.stallTime)

/-- One duty step toward the phase target (R91). -/
def Rail.dutyStep (now : Time) (r : Rail) (x : Run) : Rail :=
  let duty := stepToward (r.phaseTarget x) x.duty
  { r with run := some { x with duty := duty, nextStep := afterMs x.nextStep x.profile.stepTime,
                                stallTimer := x.stallAfterStep now duty } }

/-! ### Encoder pulses (R85, R96) -/

/-- The position count after a pulse, stopped at both ends of its range (R85). -/
def Rail.counted (d : Direction) (r : Rail) : Rail :=
  { r with
    count := match d with
      | .towardEngaged => min (r.count + 1) 32767
      | .towardRetracted => max (r.count - 1) (-32768) }

/-- A pulse is in the direction of a target. -/
def pulseServes : Direction → Target → Bool
  | .towardEngaged, .engage => true
  | .towardRetracted, .retract => true
  | .towardEngaged, .retract => false
  | .towardRetracted, .engage => false

/-- What a pulse in the direction of the move does to the run: it restarts the stall timer, is counted for the blind check, and
makes the run reckon with the learned travel now held (R85, R87 step 4, R96, R97). -/
def Run.served (now : Time) (learned : Nat) (x : Run) : Run :=
  { x with
    stallTimer := x.stallTimer.map (fun _ => afterMs now x.profile.stallTime)
    travel := learned
    blindPulses := x.blindPulses + 1 }

/-- The no-switch limit (R96). -/
def Rail.switchLimit (r : Rail) : Nat := r.learned + r.learned / 10

/-- The no-switch check at a pulse in the direction of a run (R96). -/
def Rail.pastSwitch (r : Rail) (x : Run) : Bool :=
  if x.blind then decide (r.switchLimit < x.blindPulses)
  else
    match r.target with
    | some .engage => decide ((r.switchLimit : Int) < r.count)
    | some .retract => decide (r.count < -((r.learned / 10 : Nat) : Int))
    | none => false

/-- An encoder pulse (R85). -/
def State.railPulse (d : Direction) (s : State) : State :=
  let s := s.modRail (Rail.counted d)
  match s.rail.run, s.rail.target with
  | some x, some target =>
    if pulseServes d target then
      let x := x.served s.now s.rail.learned
      let s := s.modRail (fun r => { r with run := some x })
      if s.rail.pastSwitch x then s.failRun .noSwitch else s
    else s
  | _, _ => s

/-! ### Current (R99, R101) -/

/-- The current alert judges a sample: the arm after it, and whether RAIL_LOAD is posted (R101). -/
def Rail.judgeLoad (mA : Nat) (r : Rail) : Rail × Bool :=
  let rises := decide (r.profile.alertLimit ≤ mA)
  let falls := decide (mA < r.profile.hysteresis)
  let posts := match r.profile.alertMode with
    | .comparator => rises
    | .oneShot => rises && decide (r.arm = .below)
    | .twoWay => (rises && decide (r.arm = .below)) || (falls && decide (r.arm = .above))
  ({ r with lastCurrent := some mA, arm := if rises then .above else if falls then .below else r.arm }, posts)

/-- A current sample taken while the duty is above 0 (R99): the alert is judged before the failure is acted on. -/
def State.railCurrent (mA : Nat) (s : State) : State :=
  if s.rail.duty = 0 then s
  else
    let r := s.rail.judgeLoad mA
    let s := { s with rail := r.1 }
    let s := if r.2 then s.post .railLoad else s
    if s.rail.profile.tripLimit ≤ mA then s.failRun .overcurrent else s

/-! ### End switches (R86, R100) -/

/-- The conditioned level of one end switch is taken. -/
def Rail.setSwitch (w : EndSwitch) (active : Bool) (r : Rail) : Rail :=
  match w with
  | .retractEnd => { r with retractEnd := active }
  | .engageEnd => { r with engageEnd := active }

/-- The conditioned level of one end switch. -/
def Rail.switchLevel (r : Rail) : EndSwitch → Bool
  | .retractEnd => r.retractEnd
  | .engageEnd => r.engageEnd

/-- The count and position known at a switch becoming active (R86). -/
def Rail.located (w : EndSwitch) (r : Rail) : Rail :=
  match w with
  | .retractEnd => { r with count := 0, known := true }
  | .engageEnd => { r with count := if r.known then r.count else (r.learned : Int), known := true }

/-- The target whose end a switch stands at. -/
def switchTarget : EndSwitch → Target
  | .retractEnd => .retract
  | .engageEnd => .engage

/-- A state at rest after a change of a switch: an own switch's release leads from its end to UNKNOWN, and a switch becoming
active leads from UNKNOWN to its end (R86). -/
def restAfterSwitch (w : EndSwitch) (active : Bool) (x : RailState) : RailState :=
  if active then (if x = .unknown then (switchTarget w).endState else x)
  else (if x = (switchTarget w).endState then .unknown else x)

/-- Position known after a change of a switch in a state at rest: no when the own switch of an end releases (R86). -/
def knownAfterSwitch (w : EndSwitch) (active : Bool) (x : RailState) (known : Bool) : Bool :=
  if !active && decide (x = (switchTarget w).endState) then false else known

/-- A change of a switch that leaves at most one active, in a state at rest (R86). -/
def State.switchAtRest (w : EndSwitch) (active : Bool) (s : State) : State :=
  let x := restAfterSwitch w active s.rail.state
  let known := knownAfterSwitch w active s.rail.state s.rail.known
  let s := s.modRail (fun r => { r with known := known })
  if x = s.rail.state then s else (s.modRail (Rail.enter x)).railChanged

/-- One switch releases in SWITCH_FAULT: the state is decided from the switch that remains (R100). -/
def State.leaveSwitchFault (s : State) : State :=
  let leave (w : EndSwitch) : State :=
    (s.modRail (fun r => Rail.enter (switchTarget w).endState { r.located w with alertRequested := false })).railChanged
  if s.rail.retractEnd then leave .retractEnd else if s.rail.engageEnd then leave .engageEnd else s

/-- A change that leaves at most one switch active (R86). In WAIT_QUIET the prior state changes as the rail's own state would in
UNKNOWN, RETRACTED and ENGAGED, and position known with it, which R86 does not say of a wait (DEDUCED, assumption 47). -/
def State.switchHandled (w : EndSwitch) (active : Bool) (s : State) : State :=
  match s.rail.state with
  | .retracted => s.switchAtRest w active
  | .engaged => s.switchAtRest w active
  | .unknown => s.switchAtRest w active
  | .waitQuiet =>
    s.modRail (fun r =>
      { r with known := knownAfterSwitch w active (r.prior.getD .stalled) r.known,
               prior := r.prior.map (restAfterSwitch w active) })
  | .engaging => if active ∧ w = .engageEnd then s.railArrive .engage else s
  | .retracting => if active ∧ w = .retractEnd then s.railArrive .retract else s
  | .stalled => s
  | .switchFault => s.leaveSwitchFault

/-- A taken change of an end switch (R86, R100). -/
def State.railSwitch (w : EndSwitch) (active : Bool) (s : State) : State :=
  if s.rail.switchLevel w = active then s
  else
    let s := s.modRail (Rail.setSwitch w active)
    let s := if active then s.modRail (Rail.located w) else s
    if s.rail.retractEnd ∧ s.rail.engageEnd then s.switchFault else s.switchHandled w active

/-! ### Profile (R87) -/

/-- A current value: clamped into 0..2040, then rounded down to a multiple of 8 (R87, step 1). -/
def currentSetting (n : Nat) : Nat := min n 2040 / 8 * 8

/-- The hysteresis and the trip limit are corrected (R87, steps 2 and 3). -/
def Profile.corrected (p : Profile) : Profile :=
  let p := if p.alertLimit ≤ p.hysteresis then { p with hysteresis := p.alertLimit - 8 } else p
  if p.tripLimit < p.alertLimit then { p with tripLimit := p.alertLimit } else p

end Sys2Proof.Machine
end

