-- ==== Sys2Proof/Machine/StrokeOps.lean ====
section
/-! DEFINITION. The Stroke Analyzer's judgement of one sample: crossings (R27), the stroke states (R28 to R33), speed and velocity
(R35 to R38). -/

namespace Sys2Proof.Machine

open Sys2Proof

/-- What a sample finds: nothing, a strike or restrike with its velocity and tK, or a release with its velocity and tD. One
sample yields at most one intent (R33). -/
inductive StrokeEvent where
  | nothing
  | strike (velocity : Nat) (time : Time)
  | release (velocity : Nat) (time : Time)
  deriving DecidableEq, Repr

/-- The key line set a stroke record names (R24). -/
def Strokes.lines (st : Strokes) (k : Key) : LineSet :=
  if k.previousLines then st.previous.getD st.current else st.current

/-- Line `x` is crossed rising from depth `d0` to `d1` (R27). -/
def risingAcross (x d0 d1 : Nat) : Bool := decide (d0 < x) && decide (x ≤ d1)

/-- Line `x` is crossed falling from depth `d0` to `d1` (R27). -/
def fallingAcross (x d0 d1 : Nat) : Bool := decide (x ≤ d0) && decide (d1 < x)

/-- The interpolated crossing time of line `x` between two samples, truncated, modulo 2^32 (R27). -/
def crossingTime (x : Nat) (p q : Plausible) : Time :=
  p.stamp.after (rawDistance x p.depth * elapsed q.stamp p.stamp / rawDistance q.depth p.depth)

/-- The speed over distance `d` from a timing start to an end crossing (R35). -/
def strokeSpeed (d : Nat) (start finish : Time) : Nat :=
  min (d * 1000000 / max 1 (elapsed finish start)) Config.maxSpeed

/-- The straight line between two breakpoints, rounded half up (R36). -/
def interpolate (s : Nat) (a b : Breakpoint) : Nat :=
  a.velocity + ((s - a.speed) * (b.velocity - a.velocity) + (b.speed - a.speed) / 2) / (b.speed - a.speed)

/-- The curve value of a speed among the breakpoints from `a` on: at or above the last one, its value; otherwise on the line of
the bracket that holds the speed (R36). -/
def curveFrom (s : Nat) (a : Breakpoint) : List Breakpoint → Nat
  | [] => a.velocity
  | b :: rest => if s < b.speed then interpolate s a b else curveFrom s b rest

/-- The curve value of a speed (R36). -/
def curveValue (s : Nat) : Curve → Nat
  | [] => 0
  | a :: rest => if s ≤ a.speed then a.velocity else curveFrom s a rest

/-- The active curve (R41). -/
def Strokes.activeCurve (st : Strokes) : Curve := st.curves.getD st.active []

/-- The velocity of a strike over distance `d` (R37). -/
def Strokes.strikeVelocity (st : Strokes) (slow : Bool) (trim : Int) (d : Nat) (start finish : Time) : Nat :=
  if slow then 1 else clampInt 1 127 (curveValue (strokeSpeed d start finish) st.activeCurve + trim)

/-- The release velocity over distance `d` (R38). -/
def Strokes.releaseVelocity (st : Strokes) (slow : Bool) (d : Nat) (start finish : Time) : Nat :=
  if slow then 64 else curveValue (strokeSpeed d start finish) st.activeCurve

/-- A timing start is recorded, and the slow mark cleared (R23). -/
def Key.startTiming (kind : TimingKind) (time : Time) (k : Key) : Key :=
  { k with timing := some { kind := kind, time := time }, slowMark := false }

/-- The timing start becomes absent, and the slow mark is cleared (R23). -/
def Key.clearTiming (k : Key) : Key := { k with timing := none, slowMark := false }

/-- Entry to STRUCK at a strike: STRIKES rises (R44). -/
def Key.struck (k : Key) : Key :=
  { k.clearTiming with state := .struck, strikes := satInc Config.maxCount16 k.strikes }

/-- Entry to REST: the record names the current set (R26). -/
def Key.toRest (k : Key) : Key := { k.clearTiming with state := .rest, previousLines := false }

/-- The slow check at a sample (R30). -/
def Key.slowChecked (limit : Nat) (q : Plausible) (k : Key) : Key :=
  match k.timing with
  | some t => { k with slowMark := k.slowMark || decide (limit * 1000 < elapsed q.stamp t.time) }
  | none => k

/-- A strike over distance `d` timed from `start` (R35, R37). -/
def Strokes.strikeOf (st : Strokes) (k : Key) (d x : Nat) (start : Time) (p q : Plausible) : Key × StrokeEvent :=
  let tK := crossingTime x p q
  (k.struck, .strike (st.strikeVelocity k.slowMark k.cal.trim d start tK) tK)

/-- A release over REARM − DAMP timed from `start` (R35, R38). -/
def Strokes.releaseOf (st : Strokes) (k : Key) (l : LineSet) (start : Time) (p q : Plausible) : Key × StrokeEvent :=
  let tD := crossingTime l.damp p q
  (k.toRest, .release (st.releaseVelocity k.slowMark (l.rearm - l.damp) start tD) tD)

/-- R28: a sample in REST. -/
def Strokes.inRest (st : Strokes) (l : LineSet) (p q : Plausible) (k : Key) : Key × StrokeEvent :=
  if risingAcross l.start p.depth q.depth then
    let tS := crossingTime l.start p q
    let k := k.startTiming .start tS
    if q.depth < l.strike then ({ k with state := .descending }, .nothing)
    else st.strikeOf k (l.strike - l.start) l.strike tS p q
  else (k, .nothing)

/-- R29: a sample in DESCENDING, after its slow check. -/
def Strokes.inDescending (st : Strokes) (l : LineSet) (p q : Plausible) (k : Key) (t : Timing) : Key × StrokeEvent :=
  if risingAcross l.strike p.depth q.depth then st.strikeOf k (l.strike - l.start) l.strike t.time p q
  else if fallingAcross l.start p.depth q.depth then
    ({ k.toRest with partials := satInc Config.maxCount16 k.partials }, .nothing)
  else (k, .nothing)

/-- A sample that crosses REARM falling: tR is recorded, and the release computed at once when the same sample crosses DAMP
falling (R31, R33). -/
def Strokes.throughRearm (st : Strokes) (l : LineSet) (p q : Plausible) (k : Key) : Key × StrokeEvent :=
  let tR := crossingTime l.rearm p q
  let k := k.startTiming .rearmDown tR
  if q.depth < l.damp then st.releaseOf k l tR p q else ({ k with state := .rearmed }, .nothing)

/-- R31: a sample in STRUCK. -/
def Strokes.inStruck (st : Strokes) (l : LineSet) (p q : Plausible) (k : Key) : Key × StrokeEvent :=
  if fallingAcross l.rearm p.depth q.depth then st.throughRearm l p q k else (k, .nothing)

/-- R32 and R33: a sample in REARMED, after its slow check. -/
def Strokes.inRearmed (st : Strokes) (l : LineSet) (p q : Plausible) (k : Key) (t : Timing) : Key × StrokeEvent :=
  match t.kind with
  | .rearmUp =>
    if risingAcross l.strike p.depth q.depth then st.strikeOf k (l.strike - l.rearm) l.strike t.time p q
    else if fallingAcross l.rearm p.depth q.depth then st.throughRearm l p q k
    else (k, .nothing)
  | .rearmDown =>
    if fallingAcross l.damp p.depth q.depth then st.releaseOf k l t.time p q
    else if risingAcross l.rearm p.depth q.depth then
      let tA := crossingTime l.rearm p q
      let k := k.startTiming .rearmUp tA
      if q.depth < l.strike then (k, .nothing) else st.strikeOf k (l.strike - l.rearm) l.strike tA p q
    else (k, .nothing)
  | .start => (k, .nothing)

/-- The sample judged in the key's stroke state; a key in a Scanner state has no stroke record. -/
def Strokes.judgeState (st : Strokes) (p q : Plausible) (k : Key) : Key × StrokeEvent :=
  let l := st.lines k
  match k.state with
  | .rest => st.inRest l p q k
  | .struck => st.inStruck l p q k
  | .descending =>
    match k.timing with
    | some t => st.inDescending l p q (k.slowChecked st.slowLimit q) t
    | none => (k, .nothing)
  | .rearmed =>
    match k.timing with
    | some t => st.inRearmed l p q (k.slowChecked st.slowLimit q) t
    | none => (k, .nothing)
  | .uncalibrated => (k, .nothing)
  | .suspended => (k, .nothing)
  | .fault => (k, .nothing)
  | .capture => (k, .nothing)

/-- A plausible sample of a key with a stroke record is judged against the last plausible sample, and then becomes it (R27). -/
def Strokes.judge (st : Strokes) (q : Plausible) (k : Key) : Key × StrokeEvent :=
  match k.lastPlausible with
  | some p =>
    let r := st.judgeState p q k
    ({ r.1 with lastPlausible := some q }, r.2)
  | none => ({ k with lastPlausible := some q }, .nothing)

/-- A key line set is well-formed (R24). -/
def LineSet.wellFormed (l : LineSet) : Bool :=
  decide (l.start + 20 ≤ l.damp) && decide (l.damp + 20 ≤ l.rearm) && decide (l.rearm + 20 ≤ l.strike)
    && decide (50 ≤ l.start) && decide (l.strike ≤ 950)

/-- The s values of a curve strictly increase (R39). -/
def strictlyIncreasing : List Nat → Bool
  | [] => true
  | [_] => true
  | a :: b :: rest => decide (a < b) && strictlyIncreasing (b :: rest)

/-- The v values of a curve do not decrease (R39). -/
def nonDecreasing : List Nat → Bool
  | [] => true
  | [_] => true
  | a :: b :: rest => decide (a ≤ b) && nonDecreasing (b :: rest)

/-- A curve a CURVE_WRITE may carry (R39, R40). -/
def curveOk (c : Curve) : Bool :=
  decide (c.length = 16) && c.all (fun b => decide (b.speed ≤ Config.maxSpeed) && decide (1 ≤ b.velocity) && decide (b.velocity ≤ 127))
    && strictlyIncreasing (c.map Breakpoint.speed) && nonDecreasing (c.map Breakpoint.velocity)

/-- The previous set is released when no key's record names it any longer (R25, R26). -/
def State.releasePrevious (s : State) : State :=
  if s.onPrevious = 0 then { s with strokes := { s.strokes with previous := none } } else s

end Sys2Proof.Machine
end

