-- ==== Sys2Proof/Machine/ScannerOps.lean ====
section
/-! DEFINITION. The Sensor Scanner's operations: entry to a Scanner state (R10), key samples (R4 to R9), captures (R14 to R17), the
key watch (R19), and the hand-on of strikes and releases (R34, R44, R45). -/

namespace Sys2Proof.Machine

open Sys2Proof

/-! ### Leaving a stroke -/

/-- The stroke record is discarded, the last plausible sample becomes absent, and the runs are 0 (R4, R10, R26). -/
def Key.leaveStroke (x : KeyState) (k : Key) : Key :=
  { k with state := x, lastPlausible := none, glitchRun := 0, recoveryRun := 0, previousLines := false, timing := none,
           slowMark := false }

/-- The quiet report, at the event that brings the stroke count from 1 to 0 (R34). -/
def State.quietReport (before after : KeyState) (s : State) : State :=
  if before.inFlight && !after.inFlight && s.quiet then s.railQuiet else s

/-- A key enters a Scanner state (R10): from a stroke state the forced off is made with `cause` and handed to the recorder; a key
that was in a Scanner state sends none. -/
def State.enterScanner (x : KeyState) (cause : Cause) (s : State) (k : Nat) : State :=
  let before := (s.key k).state
  let s := (s.setKey k ((s.key k).leaveStroke x)).releasePrevious
  if before.isStroke then
    ((s.forceOff cause (some .live) s.now k).liveRelease k 64 s.now).quietReport before x
  else s

/-- A key enters FAULT (R5). -/
def State.enterFault (k : Nat) (s : State) : State := (s.enterScanner .fault .keyFault k).post .keyFault

/-! ### Key watch (R19) -/

/-- The depth a reading of a key has: absent when the reading is implausible or the record is not valid (R3, R19). -/
def KeyCal.depth (c : KeyCal) (raw : Nat) : Option Nat :=
  if c.valid && plausible raw then some (depthOf raw c.restRaw c.bottomRaw) else none

/-- A collected sample joins the group; the eighth fills it, and a KEY_WATCH entry is offered (R19). -/
def State.watchCollect (w : Watch) (pair : WatchPair) (s : State) : State :=
  let first := if w.group.isEmpty then s.now else w.firstStamp
  let group := w.group ++ [pair]
  if group.length < 8 then
    { s with scanner := { s.scanner with watch := some { w with skip := 9, firstStamp := first, group := group } } }
  else
    let s := { s with scanner := { s.scanner with watch := some { w with skip := 9, firstStamp := first, group := [] } } }
    s.panelOffer (.keyWatch w.key first group)

/-- A key sample is offered to the key watch (R19). -/
def State.watchSample (k raw : Nat) (s : State) : State :=
  match s.scanner.watch with
  | none => s
  | some w =>
    if w.key ≠ k then s
    else if w.skip = 0 then s.watchCollect w { raw := raw, depth := (s.key k).cal.depth raw }
    else { s with scanner := { s.scanner with watch := some { w with skip := w.skip - 1 } } }

/-! ### Captures -/

/-- A sample joins an included key's tally, which holds the first 64 after acceptance (R15). -/
def RestTally.add (raw : Nat) (t : RestTally) : RestTally :=
  if t.count < Config.restCaptureSamples then
    { t with count := t.count + 1, sum := t.sum + raw, low := if t.count = 0 then raw else min t.low raw,
             high := max t.high raw, implausible := t.implausible || !plausible raw }
  else t

/-- An included key fails (R15). -/
def RestTally.failed (t : RestTally) : Bool :=
  t.implausible || decide (Config.restCaptureSpread < t.high - t.low)

/-- The average of 64 readings, rounded half up (R15). -/
def RestTally.average (t : RestTally) : Nat := (t.sum + 32) / 64

/-- A plausible reading in the window of a bottom capture: the farthest from rest is kept, the first of equals (R16). -/
def farther (raw restRaw : Nat) (best : Option Farthest) : Option Farthest :=
  let d := rawDistance raw restRaw
  if plausible raw then
    match best with
    | none => some { distance := d, raw := raw }
    | some b => if b.distance < d then some { distance := d, raw := raw } else some b
  else best

/-- A capture ends with a result: CAL_DONE is posted (R15 to R17). -/
def State.endCapture (r : CaptureResult) (s : State) : State :=
  { s with scanner := { s.scanner with capture := none, lastCapture := some r } }.post .calDone

/-- A key leaves CAPTURE by the validity of its record (R15 to R17). -/
def State.leaveCapture (s : State) (k : Nat) : State :=
  if (s.key k).state = .capture then s.setKey k ((s.key k).leaveStroke (s.key k).cal.settledState) else s

/-- An included key at the completion of a rest capture (R15). -/
def State.completeTally (s : State) (t : RestTally) : State :=
  let key := s.key t.key
  (s.setKey t.key (if t.failed then key else { key with cal := { key.cal with restRaw := t.average } })).leaveCapture t.key

/-- The rest capture completes (R15). -/
def State.completeRest (tallies : List RestTally) (s : State) : State :=
  let failed := (tallies.filter RestTally.failed).map RestTally.key
  (tallies.foldl State.completeTally s).endCapture
    { kind := .rest, key := none, outcome := .complete, failed := failed.length, lowestFailed := failed.head? }

/-- A bottom capture's reading is far enough from rest to be written (R16). -/
def bottomReading (best : Option Farthest) : Option Nat :=
  match best with
  | some b => if Config.minimumSpan ≤ b.distance then some b.raw else none
  | none => none

/-- The bottom capture completes (R16). -/
def State.completeBottom (k : Nat) (best : Option Farthest) (s : State) : State :=
  match bottomReading best with
  | some raw =>
    ((s.setKey k { s.key k with cal := { (s.key k).cal with bottomRaw := raw } }).leaveCapture k).endCapture
      { kind := .bottom, key := some k, outcome := .complete, failed := 0, lowestFailed := none }
  | none =>
    (s.leaveCapture k).endCapture
      { kind := .bottom, key := some k, outcome := .complete, failed := 1, lowestFailed := some k }

/-- The result of an abandoned capture (R17). -/
def Capture.abandoned (c : Capture) : CaptureResult :=
  match c with
  | .rest _ _ => { kind := .rest, key := none, outcome := .abandoned, failed := 0, lowestFailed := none }
  | .bottom _ k _ _ => { kind := .bottom, key := some k, outcome := .abandoned, failed := 0, lowestFailed := none }

/-- A capture in flight is abandoned by a fallboard close (R17). -/
def State.abandonCapture (s : State) : State :=
  match s.scanner.capture with
  | none => s
  | some c => (keyNumbers.foldl State.leaveCapture s).endCapture c.abandoned

/-- A CAL_WRITE to a key in CAPTURE (R17): a rest capture goes on without it, and a bottom capture of it is abandoned. -/
def State.dropFromCapture (k : Nat) (s : State) : State :=
  match s.scanner.capture with
  | none => s
  | some (.rest accepted tallies) =>
    { s with scanner := { s.scanner with
        capture := some (.rest accepted (tallies.filter (fun t => t.key != k))) } }
  | some (.bottom accepted key restRaw best) =>
    if key = k then s.endCapture (Capture.bottom accepted key restRaw best).abandoned else s

/-- A sample of a key in CAPTURE is fed to the capture (R15, R16). The first sample after the window completes a bottom capture. -/
def State.captureSample (k raw : Nat) (s : State) : State :=
  match s.scanner.capture with
  | none => s
  | some (.rest accepted tallies) =>
    { s with scanner := { s.scanner with
        capture := some (.rest accepted (tallies.map (fun t => if t.key = k then t.add raw else t))) } }
  | some (.bottom accepted key restRaw best) =>
    if key ≠ k then s
    else if elapsed s.now accepted < Config.bottomWindowMicros then
      { s with scanner := { s.scanner with capture := some (.bottom accepted key restRaw (farther raw restRaw best)) } }
    else s.completeBottom k best

/-- Every included key has its 64 samples; with no key left, 64 sample periods have passed (R14, R15). -/
def restCollected (now accepted : Time) (tallies : List RestTally) : Bool :=
  if tallies.isEmpty then decide (Config.restCaptureMicros ≤ elapsed now accepted)
  else tallies.all (fun t => decide (Config.restCaptureSamples ≤ t.count))

/-- The keys a rest capture includes: those not in FAULT (R14). -/
def State.restKeys (s : State) : List Nat := keyNumbers.filter (fun k => decide ((s.key k).state ≠ .fault))

/-- A rest capture begins (R14). -/
def State.startRest (s : State) : State :=
  let keys := s.restKeys
  let s := keys.foldl (State.enterScanner .capture .calibrationWrite) s
  { s with scanner := { s.scanner with
      capture := some (.rest s.now (keys.map (fun k =>
        { key := k, count := 0, sum := 0, low := 0, high := 0, implausible := false }))) } }

/-- A bottom capture begins (R16). -/
def State.startBottom (k : Nat) (s : State) : State :=
  let s := s.enterScanner .capture .calibrationWrite k
  { s with scanner := { s.scanner with capture := some (.bottom s.now k (s.key k).cal.restRaw none) } }

/-! ### Key samples -/

/-- An implausible sample in a stroke state or SUSPENDED raises the glitch run, and takes the key into FAULT at the fourth (R4,
R5). -/
def State.glitch (k : Nat) (s : State) : State :=
  let key := s.key k
  let glitches := if key.state.isStroke then satInc Config.maxCount16 key.glitches else key.glitches
  let s := s.setKey k { key with glitchRun := key.glitchRun + 1, glitches := glitches }
  if Config.faultEntry ≤ key.glitchRun + 1 then s.enterFault k else s

/-- A strike or restrike reaches the Note Router, with TRANSIT while the rail moves, and then the Transport (R44). -/
def State.strikeIntent (k velocity : Nat) (time : Time) (s : State) : State :=
  (s.onIntent k velocity .live s.rail.state.moving time).liveStrike k velocity time

/-- A release reaches the Note Router and then the Transport (R45). -/
def State.releaseIntent (k velocity : Nat) (time : Time) (s : State) : State :=
  (s.offIntent k velocity .live time).liveRelease k velocity time

/-- What a sample found is handed on (R44, R45). -/
def State.handStroke (k : Nat) (e : StrokeEvent) (s : State) : State :=
  match e with
  | .nothing => s
  | .strike velocity time => s.strikeIntent k velocity time
  | .release velocity time => s.releaseIntent k velocity time

/-- A plausible sample in a stroke state goes to the Stroke Analyzer (R4, R27 to R34). -/
def State.strokeSample (k raw : Nat) (s : State) : State :=
  let key := s.key k
  let q : Plausible := { raw := raw, depth := depthOf raw key.cal.restRaw key.cal.bottomRaw, stamp := s.now }
  let r := s.strokes.judge q { key with glitchRun := 0 }
  (((s.setKey k r.1).releasePrevious).handStroke k r.2).quietReport key.state r.1.state

/-- A plausible sample in SUSPENDED: below START with the fallboard open it begins the stroke record (R8, R23). -/
def State.suspendedSample (k raw : Nat) (s : State) : State :=
  let key := { s.key k with glitchRun := 0 }
  let depth := depthOf raw key.cal.restRaw key.cal.bottomRaw
  if depth < s.strokes.current.start ∧ s.rail.fallboardClosed = false then
    s.setKey k { key with state := .rest, lastPlausible := some { raw := raw, depth := depth, stamp := s.now },
                          previousLines := false, timing := none, slowMark := false }
  else s.setKey k key

/-- A sample in FAULT (R6). -/
def State.faultSample (k raw : Nat) (s : State) : State :=
  let key := s.key k
  if plausible raw then
    if Config.faultRecovery ≤ key.recoveryRun + 1 then
      (s.setKey k { key with recoveryRun := 0, state := .suspended, glitchRun := 0 }).post .keyFault
    else s.setKey k { key with recoveryRun := key.recoveryRun + 1 }
  else s.setKey k { key with recoveryRun := 0, glitches := satInc Config.maxCount16 key.glitches }

/-- A key sample handled in the key's state (R4 to R9). -/
def State.judgeSample (k raw : Nat) (s : State) : State :=
  match (s.key k).state with
  | .uncalibrated => s
  | .suspended => if plausible raw then s.suspendedSample k raw else s.glitch k
  | .fault => s.faultSample k raw
  | .capture => s.captureSample k raw
  | .rest => if plausible raw then s.strokeSample k raw else s.glitch k
  | .descending => if plausible raw then s.strokeSample k raw else s.glitch k
  | .struck => if plausible raw then s.strokeSample k raw else s.glitch k
  | .rearmed => if plausible raw then s.strokeSample k raw else s.glitch k

/-- A key sample arrival (R1): the last raw reading, the key watch, then the key's state. -/
def State.sampleKey (k raw : Nat) (s : State) : State :=
  ((s.setKey k { s.key k with lastRaw := some raw }).watchSample k raw).judgeSample k raw

/-! ### Writes and the fallboard -/

/-- CAL_WRITE to a key: the record, the state, the forced off, the recovery notice and the capture (R12). -/
def State.writeKey (k : Nat) (c : KeyCal) (s : State) : State :=
  let before := (s.key k).state
  let s := (s.setKey k { s.key k with cal := c }).enterScanner c.settledState .calibrationWrite k
  let s := if before = .fault then s.post .keyFault else s
  if before = .capture then s.dropFromCapture k else s

/-- A key at a fallboard close: a key in a stroke state is suspended (R11). -/
def State.suspendKey (s : State) (k : Nat) : State :=
  if (s.key k).state.isStroke then s.enterScanner .suspended .fallboard k else s

/-- A fallboard close at the Scanner (R11, R17). -/
def State.suspendAll (s : State) : State := (keyNumbers.foldl State.suspendKey s).abandonCapture

end Sys2Proof.Machine
end

