-- ==== Sys2Proof/Machine/KeyRequests.lean ====
section
/-! DEFINITION. How a judgement answers, and the judgements of the requests of the Sensor Scanner and the Stroke Analyzer (R12 to
R16, R19, R21, R25, R40 to R43). A judgement is absent for a frame too short for the parameters it marks, which the link has
answered before any block sees it (`frameParams`, R191, R203). -/

namespace Sys2Proof.Machine

open Sys2Proof

/-! ### Answers -/

/-- The outcome of a judgement: the state after it and the reply; absent when the frame is answered LENGTH (R203). -/
abbrev Judged := Option (State × Reply)

/-- A request answered with a status and data. -/
def answer (status : Status) (data : ReplyData) (s : State) : Judged := some (s, { status := status, data := data })

/-- A request answered OK. -/
def okWith (data : ReplyData) (s : State) : Judged := answer .ok data s

/-- A request refused: nothing changes, and the reply has no data (R202). -/
def refuse (status : Status) (s : State) : Judged := answer status .none s

/-- An optional item of an enumerated field: absent as a whole when a carried value has no code (R203). -/
def codedItem {α : Type} (f : Nat → Option α) (n : Option Nat) : Option (Option α) :=
  match n with
  | none => some none
  | some c => (f c).map some

/-! ### Calibration -/

/-- The pedal that a target byte names: 0x81 DAMPER, 0x82 SOSTENUTO, 0x83 SOFT (12.2). -/
def pedalTarget (n : Nat) : Option PedalId :=
  if n = 0x81 then some .damper else if n = 0x82 then some .sostenuto else if n = 0x83 then some .soft else none

/-- CAL_WRITE (R12): target, rest raw, bottom or full raw, trim, enabled. The trim of a pedal target is not used. -/
def judgeCalWrite (p : List Byte) (s : State) : Judged :=
  let target := field p 0 1
  let rest := field p 1 2
  let far := field p 3 2
  let trim := signedField p 5
  if 1023 < rest ∨ 1023 < far then refuse .range s
  else
    match yesNo (field p 6 1) with
    | none => refuse .range s
    | some enabled =>
      if keyOk target then
        if -16 ≤ trim ∧ trim ≤ 15 then
          okWith .none (s.writeKey target { restRaw := rest, bottomRaw := far, trim := trim, enabled := enabled })
        else refuse .range s
      else
        match pedalTarget target with
        | some pedal => okWith .none (s.writePedal pedal { restRaw := rest, fullRaw := far, enabled := enabled })
        | none => refuse .range s

/-- CAL_READ (R13). -/
def judgeCalRead (p : List Byte) (s : State) : Judged :=
  let target := field p 0 1
  if keyOk target then okWith (.keyCal (s.key target).cal) s
  else
    match pedalTarget target with
    | some pedal => okWith (.pedalCal (s.pedals.sense pedal).cal) s
    | none => refuse .range s

/-- CAL_CAPTURE_REST (R14). A request that meets BUSY and STATE is answered BUSY (DEDUCED, assumption 34). -/
def judgeCalCaptureRest (s : State) : Judged :=
  if s.scanner.capture.isSome then refuse .busy s
  else if s.rail.fallboardClosed then refuse .state s
  else answer .accepted .none s.startRest

/-- CAL_CAPTURE_BOTTOM (R16). R16 gives RANGE, BUSY and STATE no order; a request that meets more than one is answered by the first
of them in that order (DEDUCED, assumption 34). -/
def judgeCalCaptureBottom (p : List Byte) (s : State) : Judged :=
  let k := field p 0 1
  if !keyOk k then refuse .range s
  else if s.scanner.capture.isSome then refuse .busy s
  else if s.rail.fallboardClosed ∨ (s.key k).state = .fault then refuse .state s
  else answer .accepted .none (s.startBottom k)

/-- KEY_WATCH (R19): a key, or 0 for off. -/
def judgeKeyWatch (p : List Byte) (s : State) : Judged :=
  let k := field p 0 1
  if k = 0 then okWith .none { s with scanner := { s.scanner with watch := none } }
  else if keyOk k then
    okWith .none { s with scanner := { s.scanner with watch := some { key := k, skip := 0, firstStamp := s.now, group := [] } } }
  else refuse .range s

/-- A capture in flight includes a key (R21). -/
def Capture.includes (c : Option Capture) (k : Nat) : Bool :=
  match c with
  | none => false
  | some (.rest _ tallies) => tallies.any (fun t => t.key == k)
  | some (.bottom _ key _ _) => key == k

/-- The items of KEY_REPORT (R21). -/
def State.keyReport (k : Nat) (s : State) : KeyReport :=
  let key := s.key k
  { state := key.state, cal := key.cal, lastRaw := key.lastRaw, depth := key.lastPlausible.map Plausible.depth,
    glitchRun := key.glitchRun, recoveryRun := key.recoveryRun, previousLines := key.previousLines, strikes := key.strikes,
    partials := key.partials, glitches := key.glitches, inCapture := Capture.includes s.scanner.capture k }

/-- KEY_REPORT (R21). -/
def judgeKeyReport (p : List Byte) (s : State) : Judged :=
  let k := field p 0 1
  match keyOk k, yesNo (field p 1 1) with
  | true, some clear =>
    okWith (.keyReport (s.keyReport k))
      (if clear then s.setKey k { s.key k with strikes := 0, partials := 0, glitches := 0 } else s)
  | true, none => refuse .range s
  | false, _ => refuse .range s

/-! ### Lines and curves -/

/-- A stroke in flight is judged on by the previous set (R25). -/
def Key.keepLines (k : Key) : Key := if k.state.inFlight then { k with previousLines := true } else k

/-- A KEY_LINES change is accepted (R25). -/
def State.changeLines (l : LineSet) (s : State) : State :=
  State.releasePrevious
    { s with
      strokes := { s.strokes with current := l, previous := some s.strokes.current }
      scanner := { s.scanner with keys := s.scanner.keys.map Key.keepLines } }

/-- Every KEY_LINES reply carries the current set and the number of keys on the previous set (R25). -/
def answerLines (status : Status) (s : State) : Judged := answer status (.keyLines s.strokes.current s.onPrevious) s

/-- KEY_LINES (R25): START, DAMP, REARM and STRIKE of 2 bytes each, or none; 1 to 7 bytes are answered LENGTH (R203). -/
def judgeKeyLines (p : List Byte) (s : State) : Judged :=
  if p.length = 0 then answerLines .ok s
  else if p.length < 8 then none
  else
    let l : LineSet := { start := field p 0 2, damp := field p 2 2, rearm := field p 4 2, strike := field p 6 2 }
    if !l.wellFormed then answerLines .range s
    else if s.onPrevious ≠ 0 then answerLines .busy s
    else answerLines .ok (s.changeLines l)

/-- The 16 breakpoints of a CURVE_WRITE, 3 bytes of s and 1 byte of v each (12.2). -/
def readCurve (p : List Byte) : Curve :=
  (List.range 16).map (fun i => { speed := field p (1 + 4 * i) 3, velocity := field p (4 + 4 * i) 1 })

/-- CURVE_WRITE (R40). -/
def judgeCurveWrite (p : List Byte) (s : State) : Judged :=
  let slot := field p 0 1
  if slot < 4 ∧ curveOk (readCurve p) then
    okWith .none { s with strokes := { s.strokes with curves := s.strokes.curves.set slot (readCurve p) } }
  else refuse .range s

/-- CURVE_SELECT (R41). -/
def judgeCurveSelect (p : List Byte) (s : State) : Judged :=
  let slot := field p 0 1
  if slot < 4 then okWith .none { s with strokes := { s.strokes with active := slot } } else refuse .range s

/-- CURVE_READ (R42). -/
def judgeCurveRead (p : List Byte) (s : State) : Judged :=
  let slot := field p 0 1
  if slot < 4 then okWith (.curve (s.strokes.curves.getD slot []) s.strokes.active s.strokes.slowLimit) s
  else refuse .range s

/-- STROKE_SLOW_LIMIT (R43): 2 bytes of ms. -/
def judgeStrokeSlowLimit (p : List Byte) (s : State) : Judged :=
  let limit := clamp 100 2000 (field p 0 2)
  okWith (.slowLimit limit) { s with strokes := { s.strokes with slowLimit := limit } }

end Sys2Proof.Machine
end

