-- ==== Sys2Proof/Machine/AudioRequests.lean ====
section
/-! DEFINITION. The judgements of the requests of the Audio Stage (R112, R120, R126 to R128). -/

namespace Sys2Proof.Machine

open Sys2Proof

/-- The rate's code: 1 for 44.1 kHz, 2 for 48 kHz (R112). -/
def rateOfCode : Nat → Option Rate
  | 1 => some .hz44100
  | 2 => some .hz48000
  | _ => none

/-- A carried rate that differs from the rate held (R112, step 5). -/
def Audio.changeRate (rate : Rate) (a : Audio) : Audio :=
  if a.rate = rate then a
  else
    { a with rate := rate, fifo := [], ramp := 0, click := none,
             alert := a.alert.map (fun _ => { high := false, index := 0 }) }.enterUnderrun

/-- The carried items act in the order of R112. -/
def Audio.setup (rate : Option Rate) (volume refill ramp : Option Nat) (hp : Option Bool) (a : Audio) : Audio :=
  let a := { a with
    volume := (volume.map (clamp 0 63)).getD a.volume
    refill := (refill.map (clamp 8 56)).getD a.refill
    rampInterval := (ramp.map (clamp 1 64)).getD a.rampInterval }
  let a := if ramp.isSome then { a with ramp := 0 } else a
  let a := match hp with
    | some on => { a with hpInAcoustic := on }.judgeRail
    | none => a
  let a := a.judgeUnderrun
  match rate with
  | some r => a.changeRate r
  | none => a

/-- The settings AUDIO_SETUP replies with. -/
def Audio.settings (a : Audio) : AudioSettings :=
  { rate := a.rate, volume := a.volume, refill := a.refill, rampInterval := a.rampInterval, hpInAcoustic := a.hpInAcoustic }

/-- AUDIO_SETUP (R112): a presence byte, then rate, volume, refill level, ramp interval and HP_IN_ACOUSTIC. -/
def judgeAudioSetup (p : List Byte) (s : State) : Judged :=
  (optionalItems .audioSetup p).bind (fun l =>
    if reservedBits (field p 0 1) 5 then refuse .range s
    else
      match codedItem rateOfCode (item l 0), codedItem yesNo (item l 4) with
      | some rate, some hp =>
        let s := s.modAudio (Audio.setup rate (item l 1) (item l 2) (item l 3) hp)
        okWith (.audioSettings s.audio.settings) s
      | _, _ => refuse .range s)

/-- AUDIO_MUTE (R120). -/
def judgeAudioMute (p : List Byte) (s : State) : Judged :=
  match yesNo (field p 0 1) with
  | some on =>
    let s := s.modAudio (fun a => { a with panelMute := on, mute := { a.mute with panelMute := on } })
    okWith (.muteSet s.audio.mute) s
  | none => refuse .range s

/-- Every METRO_SET reply carries the settings, the mode and the beat counter (R126). -/
def answerMetro (status : Status) (s : State) : Judged :=
  answer status (.metro s.audio.metro s.audio.clock s.audio.counter) s

/-- METRO_SET judged in its three steps (R126). -/
def setMetro (tempo beats click : Option Nat) (copy : Option Bool) (s : State) : Judged :=
  if beats.any (fun n => decide (n < 1) || decide (12 < n)) then answerMetro .range s
  else if s.audio.clock = .recording ∧ (tempo.isSome ∨ beats.isSome) then answerMetro .busy s
  else
    answerMetro .ok (s.modAudio (fun a =>
      { a with metro :=
          { a.metro with
            tempo := (tempo.map (clamp 30 300)).getD a.metro.tempo
            beats := beats.getD a.metro.beats
            clickLevel := (click.map (clamp 0 15)).getD a.metro.clickLevel
            beatCopy := copy.getD a.metro.beatCopy } }))

/-- METRO_SET (R126): a presence byte, then tempo (2 bytes), beats per bar, click level and beat copy. -/
def judgeMetroSet (p : List Byte) (s : State) : Judged :=
  (optionalItems .metroSet p).bind (fun l =>
    if reservedBits (field p 0 1) 4 then answerMetro .range s
    else
      match codedItem yesNo (item l 3) with
      | some copy => setMetro (item l 0) (item l 1) (item l 2) copy s
      | none => answerMetro .range s)

/-- METRO_RUN (R127). -/
def judgeMetroRun (p : List Byte) (s : State) : Judged :=
  match yesNo (field p 0 1) with
  | some on =>
    let s := (s.modAudio (fun a => { a with metro := { a.metro with run := on } })).judgeMode
    okWith (.metroRun s.audio.metro.run s.audio.clock) s
  | none => refuse .range s

/-- The items of AUDIO_REPORT (R128). -/
def Audio.report (a : Audio) : AudioReport :=
  { fill := a.fifo.length, inUnderrun := a.inUnderrun, refill := a.refill, applied := a.applied, target := a.targetIndex,
    volume := a.volume, rampInterval := a.rampInterval, mute := a.mute, jack1 := a.jack1, jack2 := a.jack2,
    hpInAcoustic := a.hpInAcoustic, panelMute := a.panelMute, rate := a.rate, clickSounding := a.clickSounding,
    alertSounding := a.alert.isSome, clock := a.clock, counter := a.counter, underruns := a.underruns,
    overruns := a.overruns, clips := a.clips }

/-- AUDIO_REPORT (R128). -/
def judgeAudioReport (p : List Byte) (s : State) : Judged :=
  match yesNo (field p 0 1) with
  | some clear =>
    okWith (.audioReport s.audio.report)
      (if clear then s.modAudio (fun a => { a with underruns := 0, overruns := 0, clips := 0 }) else s)
  | none => refuse .range s

end Sys2Proof.Machine
end

