-- ==== Sys2Proof/Machine/NoteRequests.lean ====
section
/-! DEFINITION. The judgements of the requests of the Note Router and the Tone Stream (R65 to R67, R81, R82). -/

namespace Sys2Proof.Machine

open Sys2Proof

/-- The setting of a NOTE_COPY: 1 off, 2 all keys, 3 the range lo..hi (R67). -/
def copySetting (code lo hi : Nat) : Option CopySetting :=
  match code with
  | 1 => some .off
  | 2 => some .all
  | 3 => if keyOk lo && keyOk hi && decide (lo ≤ hi) then some (.range lo hi) else none
  | _ => none

/-- NOTE_COPY (R67): setting, lo, hi. -/
def judgeNoteCopy (p : List Byte) (s : State) : Judged :=
  match copySetting (field p 0 1) (field p 1 1) (field p 2 1) with
  | some c => okWith .none { s with router := { s.router with copy := c } }
  | none => refuse .range s

/-- The items of SOUNDING_REPORT (R66). -/
def State.soundingReport (s : State) : SoundingReport :=
  { table := s.router.table, sostenutoSet := s.router.sostenutoSet, damper := s.pedals.damper.effective,
    soft := s.pedals.soft.effective, sostenuto := s.pedals.sostenuto.effective, strayOff := s.router.strayOff,
    foreignOff := s.router.foreignOff, droppedOn := s.router.droppedOn }

/-- SOUNDING_REPORT (R66). -/
def judgeSoundingReport (p : List Byte) (s : State) : Judged :=
  match yesNo (field p 0 1) with
  | some clear =>
    okWith (.sounding s.soundingReport)
      (if clear then { s with router := { s.router with strayOff := 0, foreignOff := 0, droppedOn := 0 } } else s)
  | none => refuse .range s

/-- ALL_NOTES_OFF (R65). The time base at the request is the one at which the Router acts on it, later than the frame's own for a
request judged late (DESIGN CHOICE, assumption 3). -/
def judgeAllNotesOff (s : State) : Judged := okWith .none s.panic

/-- The ready mode's code: 1 SINGLE, 2 BURST (R81). -/
def readyOfCode : Nat → Option ReadyMode
  | 1 => some .single
  | 2 => some .burst
  | _ => none

/-- A trigger level: 1, 8, 32 or 96 (R81). The byte carries the level itself, by which R81 judges it, and not its place in that
list (DEDUCED, assumption 14). -/
def triggerOf (n : Nat) : Option Nat := if n = 1 ∨ n = 8 ∨ n = 32 ∨ n = 96 then some n else none

/-- The items of the TONE_STREAM_SETUP reply (R81). -/
def Tone.report (t : Tone) : ToneReport :=
  { mode := t.mode, trigger := t.trigger, occupancy := t.occupancy, noteOns := t.noteOns, resyncs := t.resyncs,
    lastOverflow := t.lastOverflow }

/-- TONE_STREAM_SETUP accepted: the settings, the fresh judgement of READY_T, and the clear (R81). -/
def State.setupTone (mode : Option ReadyMode) (trigger : Option Nat) (clear : Bool) (s : State) : State × ToneReport :=
  let t := Tone.judgeReady s.now { s.tone with mode := mode.getD s.tone.mode, trigger := trigger.getD s.tone.trigger }
  ({ s with tone := if clear then { t with resyncs := 0, lastOverflow := none } else t }, t.report)

/-- TONE_STREAM_SETUP (R81): a presence byte, then ready mode, trigger level and clear option. -/
def judgeToneStreamSetup (p : List Byte) (s : State) : Judged :=
  (optionalItems .toneStreamSetup p).bind (fun l =>
    if reservedBits (field p 0 1) 3 then refuse .range s
    else
      match codedItem readyOfCode (item l 0), codedItem triggerOf (item l 1), codedItem yesNo (item l 2) with
      | some mode, some trigger, some clear =>
        let r := s.setupTone mode trigger (clear.getD false)
        okWith (.toneSetup r.2) r.1
      | _, _, _ => refuse .range s)

/-- FLUSH_TONE (R82). The time base at the request is the one at which the Tone Stream acts on it, later than the frame's own for a
request judged late (DESIGN CHOICE, assumption 3). -/
def judgeFlushTone (s : State) : Judged :=
  okWith (.flushed s.tone.occupancy)
    (State.clearAnnounced { s with tone := s.tone.replaceWith (.resync s.now) s.now })

end Sys2Proof.Machine
end

