-- ==== Sys2Proof/Machine/RailRequests.lean ====
section
/-! DEFINITION. The judgements of the requests of the Rail Drive (R87, R88, R106, R108, R109). -/

namespace Sys2Proof.Machine

open Sys2Proof

/-- A move request; every reply carries the state and the target as they stand after it (R88). -/
def judgeMove (target : Target) (s : State) : Judged :=
  let r := s.moveRequest target
  answer r.2.1 (.railMove r.2.2 r.1.rail.state r.1.rail.target) r.1

/-- RAIL_ENGAGE (R88). -/
def judgeRailEngage (s : State) : Judged := judgeMove .engage s

/-- RAIL_RETRACT (R88). -/
def judgeRailRetract (s : State) : Judged := judgeMove .retract s

/-- A run's phase as it is reported (R91). -/
def Phase.reported : Phase → DutyPhase
  | .kick => .kick
  | .ramp => .ramp
  | .retryDwell => .dwell
  | .reversalDwell => .dwell

/-- The items of RAIL_STATUS (R108). -/
def Rail.report (r : Rail) : RailReport :=
  { state := r.state, target := r.target, prior := r.prior, retractEnd := r.retractEnd, engageEnd := r.engageEnd,
    fallboardClosed := r.fallboardClosed, count := r.count, known := r.known, learned := r.learned, resting := r.resting,
    disturbed := r.disturbed,
    run := r.run.map (fun x =>
      { phase := x.phase.reported, blind := x.blind, measured := x.measured, retriesUsed := x.retriesUsed, duty := x.duty }),
    arm := r.arm, alertRequested := r.alertRequested, lastCurrent := r.lastCurrent, lastMove := r.lastMove,
    lastFault := r.lastFault, stalls := r.stalls, profile := r.profile }

/-- RAIL_STATUS (R108). -/
def judgeRailStatus (p : List Byte) (s : State) : Judged :=
  match yesNo (field p 0 1) with
  | some clear =>
    okWith (.railStatus s.rail.report) (if clear then s.modRail (fun r => { r with stalls := 0 }) else s)
  | none => refuse .range s

/-- RAIL_ACK (R106). -/
def judgeRailAck (s : State) : Judged := okWith .none (if s.rail.alertRequested then s.setAlertRequested false else s)

/-- RAIL_CLEAR_DISTURBED (R109). -/
def judgeRailClearDisturbed (s : State) : Judged :=
  okWith (.disturbed s.rail.disturbed) (s.modRail (fun r => { r with disturbed := false }))

/-- The alert mode's code (R87, R101). -/
def alertModeOfCode : Nat → Option AlertMode
  | 1 => some .comparator
  | 2 => some .oneShot
  | 3 => some .twoWay
  | _ => none

/-- The carried values replace those held, each clamped into its range (R87, step 1). -/
def Profile.carried (l : List (Option Nat)) (mode : Option AlertMode) (park : Option Bool) (p : Profile) : Profile :=
  { kickDuty := (item l 0).getD p.kickDuty
    kickTime := ((item l 1).map (clamp 0 500)).getD p.kickTime
    cruiseDuty := (item l 2).getD p.cruiseDuty
    approachDuty := (item l 3).getD p.approachDuty
    stepTime := ((item l 4).map (clamp 1 50)).getD p.stepTime
    approachZone := ((item l 5).map (clamp 0 1000)).getD p.approachZone
    programmedTravel := ((item l 6).map (clamp 400 4000)).getD p.programmedTravel
    stallTime := ((item l 7).map (clamp 20 500)).getD p.stallTime
    retries := ((item l 8).map (clamp 0 5)).getD p.retries
    moveTimeout := ((item l 9).map (clamp 500 10000)).getD p.moveTimeout
    quietWait := ((item l 10).map (clamp 100 10000)).getD p.quietWait
    tripLimit := ((item l 11).map currentSetting).getD p.tripLimit
    alertLimit := ((item l 12).map currentSetting).getD p.alertLimit
    hysteresis := ((item l 13).map currentSetting).getD p.hysteresis
    alertMode := mode.getD p.alertMode
    park := park.getD p.park }

/-- The profile is applied in the four steps of R87. -/
def Rail.applyProfile (l : List (Option Nat)) (mode : Option AlertMode) (park : Option Bool) (r : Rail) : Rail :=
  let p := (r.profile.carried l mode park).corrected
  { r with profile := p, learned := if (item l 6).isSome then p.programmedTravel else r.learned }

/-- RAIL_PROFILE (R87): 3 presence bytes, then the items. -/
def judgeRailProfile (p : List Byte) (s : State) : Judged :=
  let bits := field p 0 3
  (optionalItems .railProfile p).bind (fun l =>
    if reservedBits bits 16 then refuse .range s
    else
      match codedItem alertModeOfCode (item l 14), codedItem yesNo (item l 15) with
      | some mode, some park =>
        let s := s.modRail (Rail.applyProfile l mode park)
        okWith (.profile s.rail.profile) s
      | _, _ => refuse .range s)

end Sys2Proof.Machine
end

