-- ==== Sys2Proof/Machine/Replies.lean ====
section
/-! DEFINITION. What the part sends as bytes: the codes of enumerated values (R202, 12.2, 12.4), the groups of items that snapshots
and replies share (12.4), and the reply frame with the data of each reply (R202, 12.2). 12.2 lays out the frame. The data holds the
items of the owning rule in its order, each coded by R202; where no table of the manual gives an item a width, a place for its
absence or a count before a list, the layout is DEDUCED (assumption 7). -/

namespace Sys2Proof.Machine

open Sys2Proof

/-! ### Codes (R202, 12.2, 12.4) -/

def startCauseCode : Option StartCause → Nat
  | none => 0
  | some .resetPin => 1
  | some .powerOn => 2
  | some .restart => 3

def FinishOutcome.code : FinishOutcome → Nat
  | .closed => 1
  | .discarded => 2
  | .importFailed => 3

def RailState.code : RailState → Nat
  | .unknown => 1
  | .retracted => 2
  | .engaged => 3
  | .waitQuiet => 4
  | .engaging => 5
  | .retracting => 6
  | .stalled => 7
  | .switchFault => 8

def Target.code : Target → Nat
  | .engage => 1
  | .retract => 2

def MoveResult.code : MoveResult → Nat
  | .complete => 1
  | .abandoned => 2
  | .reversed => 3
  | .failed => 4

def RailCause.code : RailCause → Nat
  | .noSwitch => 1
  | .stall => 2
  | .timeout => 3
  | .overcurrent => 4
  | .bothSwitches => 5

def AlertMode.code : AlertMode → Nat
  | .comparator => 1
  | .oneShot => 2
  | .twoWay => 3

def Arm.code : Arm → Nat
  | .below => 1
  | .above => 2

def TransportState.code : TransportState → Nat
  | .idle => 1
  | .armed => 2
  | .recording => 3
  | .seeking => 4
  | .playing => 5
  | .waiting => 6
  | .paused => 7

def EndCause.code : EndCause → Nat
  | .stop => 1
  | .ending => 2
  | .fallboard => 3
  | .reserve => 4
  | .limit => 5

def CloseOutcome.code : CloseOutcome → Nat
  | .closed => 1
  | .discarded => 2

def CaptureKind.code : CaptureKind → Nat
  | .rest => 1
  | .bottom => 2

def CaptureOutcome.code : CaptureOutcome → Nat
  | .complete => 1
  | .abandoned => 2

/-- A transfer result as a status code: COMPLETE 0x00, CLOSED_EARLY 0x0D (12.4). -/
def TransferResult.code : TransferResult → Nat
  | .complete => 0x00
  | .closedEarly => 0x0D
  | .length => 0x0A
  | .check => 0x07
  | .format => 0x08
  | .noSpace => 0x05
  | .timeout => 0x0C

/-- The fallboard state's code: closed 1, open 2, in the order of R103. -/
def fallboardCode (closed : Bool) : Nat := if closed then 1 else 2

/-- A status's code (12.2). -/
def Status.code : Status → Nat
  | .ok => 0x00
  | .accepted => 0x01
  | .busy => 0x02
  | .state => 0x03
  | .range => 0x04
  | .noSpace => 0x05
  | .notFound => 0x06
  | .check => 0x07
  | .format => 0x08
  | .order => 0x09
  | .length => 0x0A
  | .unknown => 0x0B
  | .timeout => 0x0C

/-- The marker NOT_READY: the buffer is HANDLING (R191, 12.2). -/
def notReadyCode : Nat := 0xFE

/-- The marker NO_REPLY: the buffer is EMPTY (R191, 12.2). -/
def noReplyCode : Nat := 0xFF

/-- A key state's code, in the order in which 01 names the eight. -/
def KeyState.code : KeyState → Nat
  | .uncalibrated => 1
  | .suspended => 2
  | .fault => 3
  | .capture => 4
  | .rest => 5
  | .descending => 6
  | .struck => 7
  | .rearmed => 8

def Source.code : Source → Nat
  | .live => 1
  | .playback => 2

def ReadyMode.code : ReadyMode → Nat
  | .single => 1
  | .burst => 2

def DutyPhase.code : DutyPhase → Nat
  | .kick => 1
  | .ramp => 2
  | .dwell => 3

def Rate.code : Rate → Nat
  | .hz44100 => 1
  | .hz48000 => 2

/-- A directory state's code, after EMPTY, which is 1 (R133). -/
def TakeState.code : TakeState → Nat
  | .recording => 2
  | .importing => 3
  | .closed => 4

def ArmMode.code : ArmMode → Nat
  | .firstNote => 1
  | .immediate => 2

/-- The channel pointer's code (12.2). -/
def Channel.code : Channel → Nat
  | .reply => 0x02
  | .status => 0x04
  | .stream => 0x05

/-- A part mask: bit 0 LOW, bit 1 HIGH. -/
def Parts.code (p : Parts) : Nat := boolCode p.low + 2 * boolCode p.high

/-- A mute-reason set: one bit per reason, in the order of R118 from bit 0. -/
def MuteSet.code (m : MuteSet) : Nat :=
  boolCode m.jackOut + 2 * boolCode m.railNotEngaged + 4 * boolCode m.railMoving + 8 * boolCode m.underrun
    + 16 * boolCode m.panelMute

/-! ### Groups of items -/

/-- A field of one byte. -/
def byte1 (n : Nat) : List Byte := beBytes 1 n

/-- Items of `width` bytes together that may be absent although 0 is a value of them: a presence byte ahead, and 0 behind it while
they are absent (R202, 12.4). -/
def markedItems (width : Nat) : Option (List Byte) → List Byte
  | some bytes => byte1 1 ++ bytes
  | none => List.replicate (width + 1) 0

/-- An optional time: a presence byte and 4 bytes (R202). -/
def timeItem (t : Option Time) : List Byte := markedItems 4 (t.map timeBytes)

/-- A yes or no, or a mark set or clear. -/
def flag1 (b : Bool) : List Byte := byte1 (boolCode b)

/-- A list of keys: their number, then one byte each. -/
def keyList (keys : List Nat) : List Byte := byte1 keys.length ++ keys.flatMap byte1

def startSnapshot (i : StartInfo) : List Byte :=
  byte1 (if i.warm then 2 else 1) ++ byte1 (startCauseCode i.cause) ++ byte1 (boolCode i.disturbed)
    ++ byte1 i.finished.length ++ i.finished.flatMap (fun p => byte1 p.1 ++ byte1 p.2.code)

def CaptureResult.bytes (r : CaptureResult) : List Byte :=
  byte1 r.kind.code ++ byte1 (r.key.getD 0) ++ byte1 r.outcome.code ++ byte1 r.failed ++ byte1 (r.lowestFailed.getD 0)

def calDoneSnapshot (r : Option CaptureResult) : List Byte := markedItems 5 (r.map CaptureResult.bytes)

def RailFault.bytes (f : RailFault) : List Byte :=
  byte1 f.cause.code ++ byte1 (optionCode (f.target.map Target.code)) ++ be16Signed f.count ++ timeBytes f.time

/-- Fault present, cause, target, count and time (12.4). -/
def faultItems (f : Option RailFault) : List Byte := markedItems 8 (f.map RailFault.bytes)

def Loop.bytes (l : Loop) : List Byte := beBytes 4 l.a ++ beBytes 4 l.b ++ byte1 l.left

/-- Loop held, A, B and repeats left (12.4). -/
def loopItems (l : Option Loop) : List Byte := markedItems 9 (l.map Loop.bytes)

def TransportSnapshot.bytes (t : TransportSnapshot) : List Byte :=
  byte1 t.state.code ++ byte1 (t.take.getD 0) ++ beBytes 4 t.cursorTime ++ byte1 (t.speed.getD 0) ++ loopItems t.loop
    ++ byte1 (optionCode (t.lastEnd.map EndCause.code))

def CloseResult.bytes (c : CloseResult) : List Byte :=
  byte1 c.take ++ byte1 c.outcome.code ++ byte1 c.flags.code ++ beBytes 3 c.count ++ beBytes 4 c.duration ++ byte1 c.cause.code

def closeSnapshot (c : Option CloseResult) : List Byte := markedItems 11 (c.map CloseResult.bytes)

def LastTransfer.items (l : LastTransfer) : List Byte := byte1 l.take ++ byte1 l.result.code ++ beBytes 3 l.bytes

/-- Result present, take, result and bytes moved (12.4). -/
def transferItems (l : Option LastTransfer) : List Byte := markedItems 5 (l.map LastTransfer.items)

/-! ### Reply data -/

/-- A key's calibration record; the trim is signed (R202). -/
def KeyCal.bytes (c : KeyCal) : List Byte :=
  beBytes 2 c.restRaw ++ beBytes 2 c.bottomRaw ++ [BitVec.ofInt 8 c.trim] ++ flag1 c.enabled

def PedalCal.bytes (c : PedalCal) : List Byte := beBytes 2 c.restRaw ++ beBytes 2 c.fullRaw ++ flag1 c.enabled

/-- KEY_REPORT (R21). An absent reading or depth is sent as 0xFFFF (R202). -/
def KeyReport.bytes (r : KeyReport) : List Byte :=
  byte1 r.state.code ++ r.cal.bytes ++ beBytes 2 (r.lastRaw.getD 0xFFFF) ++ beBytes 2 (r.depth.getD 0xFFFF)
    ++ byte1 r.glitchRun ++ byte1 r.recoveryRun ++ flag1 r.previousLines ++ beBytes 2 r.strikes ++ beBytes 2 r.partials
    ++ beBytes 2 r.glitches ++ flag1 r.inCapture

def LineSet.bytes (l : LineSet) : List Byte :=
  beBytes 2 l.start ++ beBytes 2 l.damp ++ beBytes 2 l.rearm ++ beBytes 2 l.strike

/-- A breakpoint: 3 bytes of s and 1 byte of v, as 12.2 has them in CURVE_WRITE. -/
def Breakpoint.bytes (b : Breakpoint) : List Byte := beBytes 3 b.speed ++ byte1 b.velocity

/-- A Sounding Table entry: SILENT 1 or SOUNDING 2, owner, last velocity and the two marks (R55, R66). -/
def SoundEntry.bytes (e : SoundEntry) : List Byte :=
  byte1 (if e.owner.isSome then 2 else 1) ++ byte1 (optionCode (e.owner.map Source.code)) ++ byte1 (e.lastVelocity.getD 0)
    ++ flag1 e.released ++ flag1 e.announced

def SoundingReport.bytes (r : SoundingReport) : List Byte :=
  r.table.toList.flatMap SoundEntry.bytes ++ keyList r.sostenutoSet ++ byte1 r.damper ++ byte1 r.soft ++ flag1 r.sostenuto
    ++ beBytes 2 r.strayOff ++ beBytes 2 r.foreignOff ++ beBytes 2 r.droppedOn

def ToneReport.bytes (r : ToneReport) : List Byte :=
  byte1 r.mode.code ++ byte1 r.trigger ++ byte1 r.occupancy ++ byte1 r.noteOns ++ byte1 r.resyncs ++ timeItem r.lastOverflow

/-- The profile at the widths of R87. -/
def Profile.bytes (p : Profile) : List Byte :=
  byte1 p.kickDuty ++ beBytes 2 p.kickTime ++ byte1 p.cruiseDuty ++ byte1 p.approachDuty ++ byte1 p.stepTime
    ++ beBytes 2 p.approachZone ++ beBytes 2 p.programmedTravel ++ beBytes 2 p.stallTime ++ byte1 p.retries
    ++ beBytes 2 p.moveTimeout ++ beBytes 2 p.quietWait ++ beBytes 2 p.tripLimit ++ beBytes 2 p.alertLimit
    ++ beBytes 2 p.hysteresis ++ byte1 p.alertMode.code ++ flag1 p.park

/-- A run's phase, marks, retries used and duty. -/
def RunReport.bytes (x : RunReport) : List Byte :=
  byte1 x.phase.code ++ flag1 x.blind ++ flag1 x.measured ++ byte1 x.retriesUsed ++ byte1 x.duty

/-- RAIL_STATUS (R108). The count is signed, and an absent current sample is sent as 0xFFFF (R202). The prior state and the
resting state are states of the rail and carry the codes of its state table, though R84 lists their values again (DEDUCED,
assumption 7). -/
def RailReport.bytes (r : RailReport) : List Byte :=
  byte1 r.state.code ++ byte1 (optionCode (r.target.map Target.code)) ++ byte1 (optionCode (r.prior.map RailState.code))
    ++ flag1 r.retractEnd ++ flag1 r.engageEnd ++ byte1 (fallboardCode r.fallboardClosed) ++ be16Signed r.count
    ++ flag1 r.known ++ beBytes 2 r.learned ++ byte1 r.resting.code ++ flag1 r.disturbed ++ markedItems 5 (r.run.map RunReport.bytes)
    ++ byte1 r.arm.code ++ flag1 r.alertRequested ++ beBytes 2 (r.lastCurrent.getD 0xFFFF)
    ++ byte1 (optionCode (r.lastMove.map MoveResult.code)) ++ faultItems r.lastFault ++ byte1 r.stalls ++ r.profile.bytes

def AudioSettings.bytes (a : AudioSettings) : List Byte :=
  byte1 a.rate.code ++ byte1 a.volume ++ byte1 a.refill ++ byte1 a.rampInterval ++ flag1 a.hpInAcoustic

/-- The beat counter: bar and beat, 0 while absent. -/
def beatItems : Option BeatPos → List Byte
  | none => List.replicate 3 0
  | some p => beBytes 2 p.bar ++ byte1 p.beat

/-- The four settings of METRO_SET (R126). -/
def Metro.bytes (m : Metro) : List Byte := beBytes 2 m.tempo ++ byte1 m.beats ++ byte1 m.clickLevel ++ flag1 m.beatCopy

def AudioReport.bytes (r : AudioReport) : List Byte :=
  byte1 r.fill ++ flag1 r.inUnderrun ++ byte1 r.refill ++ byte1 r.applied ++ byte1 r.target ++ byte1 r.volume
    ++ byte1 r.rampInterval ++ byte1 r.mute.code ++ byte1 (boolCode r.jack1 + 2 * boolCode r.jack2)
    ++ flag1 r.hpInAcoustic ++ flag1 r.panelMute ++ byte1 r.rate.code ++ flag1 r.clickSounding ++ flag1 r.alertSounding
    ++ byte1 r.clock.code ++ beatItems r.counter ++ beBytes 2 r.underruns ++ beBytes 2 r.overruns ++ beBytes 2 r.clips

/-- A directory entry that is not EMPTY, with its number of blocks (R144). -/
def Take.bytes (blocks : Nat) (t : Take) : List Byte :=
  byte1 t.state.code ++ byte1 t.flags.code ++ beBytes 3 t.count ++ beBytes 4 t.duration ++ byte1 t.split
    ++ beBytes 2 (optionCode (t.tempo.map Tempo.bpm)) ++ byte1 (optionCode (t.tempo.map Tempo.beats)) ++ paddedName t.name
    ++ beBytes 4 t.serial ++ beBytes 2 t.first ++ beBytes 2 t.last ++ beBytes 2 blocks ++ flag1 t.playing ++ flag1 t.exporting

/-- A line of TAKE_LIST (R144): EMPTY is state 1 with every other field absent. -/
def TakeLine.bytes (l : TakeLine) : List Byte :=
  match l.take with
  | some t => t.bytes l.blocks
  | none => byte1 1 ++ List.replicate 40 0

/-- MEMORY_REPORT (R147). Block 0 can head the Free List, so an absent head is sent as 0xFFFF. -/
def MemoryReport.bytes (m : MemoryReport) : List Byte :=
  beBytes 2 m.free ++ byte1 m.reserve ++ beBytes 2 m.available ++ beBytes 2 m.used ++ byte1 m.takes
    ++ beBytes 2 (m.head.getD 0xFFFF) ++ beBytes 4 m.serial

def PedalLevels.bytes (l : PedalLevels) : List Byte := byte1 l.damper ++ flag1 l.sostenuto ++ byte1 l.soft

/-- Pause pending and target of a seek (R168). -/
def Seek.bytes (k : Seek) : List Byte := flag1 k.pausePending ++ beBytes 4 k.target

/-- The loop anchor (R166). -/
def Anchor.bytes (a : Anchor) : List Byte := beBytes 2 a.record ++ beBytes 4 a.time ++ a.levels.bytes

/-- A yes or no that may be absent. -/
def flagItem (b : Option Bool) : List Byte := markedItems 1 (b.map flag1)

/-- A part mask that may be absent; the empty mask is 0. -/
def partsItem (p : Option Parts) : List Byte := markedItems 1 (p.map (fun p => byte1 p.code))

/-- A take time or a count of ms that may be absent. -/
def msItem (n : Option Nat) : List Byte := markedItems 4 (n.map (beBytes 4))

/-- TRANSPORT_REPORT (R168). -/
def TransportReport.bytes (r : TransportReport) : List Byte :=
  r.snapshot.bytes ++ markedItems 2 (r.cursor.map (beBytes 2)) ++ byte1 (optionCode (r.armMode.map ArmMode.code))
    ++ flagItem r.click ++ partsItem r.parts ++ flagItem r.waitMode ++ markedItems 5 (r.seek.map Seek.bytes)
    ++ keyList r.delivered ++ markedItems 3 (r.levels.map PedalLevels.bytes) ++ markedItems 9 (r.anchor.map Anchor.bytes)
    ++ closeSnapshot r.lastClose

/-- PRACTICE_SET (R178). -/
def PracticeSettings.bytes (p : PracticeSettings) : List Byte :=
  partsItem p.parts ++ flagItem p.waitMode ++ byte1 p.chordWindow ++ byte1 p.leadWindow

/-- WAIT_REPORT (R179), which names the windows before the part mask and wait mode. -/
def WaitReport.bytes (r : WaitReport) : List Byte :=
  beBytes 2 r.hits ++ beBytes 2 r.misses ++ beBytes 2 r.chords ++ beBytes 2 r.expectOverflow ++ beBytes 4 r.waitTime
    ++ keyList r.expected ++ msItem r.t0 ++ msItem r.waitingCount ++ byte1 r.settings.chordWindow
    ++ byte1 r.settings.leadWindow ++ partsItem r.settings.parts ++ flagItem r.settings.waitMode ++ byte1 r.recent.length
    ++ r.recent.flatMap (fun x => byte1 x.key ++ timeBytes x.time)

/-- IDENTIFY (R199): KEPT 1, CLEARED 2. -/
def Identity.bytes (i : Identity) : List Byte :=
  beBytes 2 i.vendor.toNat ++ beBytes 2 i.part ++ byte1 i.revision ++ byte1 (if i.kept then 1 else 2)
    ++ byte1 (startCauseCode i.cause)

/-- LINK_REPORT (R199). The items that only a reply on Link P carries are no part of a reply on Link T. -/
def LinkReport.bytes (r : LinkReport) : List Byte :=
  byte1 r.malformed ++ byte1 r.lostReplies ++ r.streamDrops.elim [] byte1 ++ r.streamCount.elim [] byte1
    ++ r.pointer.elim [] (fun c => byte1 c.code) ++ beBytes 2 r.pendingKinds.toNat

/-- The data bytes of a reply. -/
def ReplyData.bytes : ReplyData → List Byte
  | .none => []
  | .keyCal c => c.bytes
  | .pedalCal c => c.bytes
  | .keyReport r => r.bytes
  | .keyLines l n => l.bytes ++ byte1 n
  | .curve points active slow => points.flatMap Breakpoint.bytes ++ byte1 active ++ beBytes 2 slow
  | .slowLimit ms => beBytes 2 ms
  | .sounding r => r.bytes
  | .toneSetup r => r.bytes
  | .flushed n => byte1 n
  | .railMove already state target => flag1 already ++ byte1 state.code ++ byte1 (optionCode (target.map Target.code))
  | .profile p => p.bytes
  | .railStatus r => r.bytes
  | .disturbed latch => flag1 latch
  | .audioSettings a => a.bytes
  | .muteSet m => byte1 m.code
  | .metro m clock counter => m.bytes ++ byte1 clock.code ++ beatItems counter
  | .metroRun on clock => flag1 on ++ byte1 clock.code
  | .audioReport r => r.bytes
  | .takes lines serial => lines.flatMap TakeLine.bytes ++ beBytes 4 serial
  | .blocksFreed n => beBytes 2 n
  | .memory m => m.bytes
  | .takeOpened take serial => byte1 take ++ beBytes 4 serial
  | .speed percent => byte1 percent
  | .transport r => r.bytes
  | .practice p => p.bytes
  | .waitReport r => r.bytes
  | .exportOpened take serial length => byte1 take ++ beBytes 4 serial ++ beBytes 3 length
  | .chunk bytes endMark => flag1 endMark ++ bytes
  | .expectedOffset offset => beBytes 3 offset
  | .imported take serial count => byte1 take ++ beBytes 4 serial ++ beBytes 3 count
  | .identity i => i.bytes
  | .linkReport r => r.bytes
  | .mask m => beBytes 2 m.toNat
  | .restart _ => []

/-! ### Reply frames (12.2) -/

/-- A reply frame: the status, the data length in 2 bytes, and the data. -/
def replyFrame (code : Nat) (data : List Byte) : List Byte := byte1 code ++ beBytes 2 data.length ++ data

/-- The bytes of a reply. -/
def Reply.bytes (r : Reply) : List Byte := replyFrame r.status.code r.data.bytes

/-- A marker is sent as its code with data length 0. -/
def markerBytes (code : Nat) : List Byte := replyFrame code []

end Sys2Proof.Machine
end

