-- ==== Sys2Proof/Machine/TakeRequests.lean ====
section
/-! DEFINITION. The judgements of the requests of the Take Store (R144 to R147) and of the Transport (R151, R152, R157, R160 to R165,
R168, R178, R179). -/

namespace Sys2Proof.Machine

open Sys2Proof

/-! ### Take Store -/

/-- The line of TAKE_LIST for take `n` (R144). -/
def Store.line (st : Store) (n : Nat) : TakeLine :=
  { number := n, take := st.entry n, blocks := ((st.entry n).map (fun t => (st.chain t).length)).getD 0 }

/-- TAKE_LIST (R144): a take, or 0 for all 16. -/
def judgeTakeList (p : List Byte) (s : State) : Judged :=
  let n := field p 0 1
  if n = 0 then okWith (.takes (takeNumbers.map s.store.line) s.store.serial) s
  else if isTake n then okWith (.takes [s.store.line n] s.store.serial) s
  else refuse .range s

/-- TAKE_DELETE (R145). -/
def judgeTakeDelete (p : List Byte) (s : State) : Judged :=
  let n := field p 0 1
  if !isTake n then refuse .range s
  else
    match s.store.entry n with
    | none => refuse .notFound s
    | some t =>
      if t.state ≠ .closed ∨ t.playing = true ∨ t.exporting = true then refuse .busy s
      else okWith (.blocksFreed (s.store.chain t).length) (s.modStore (fun st => st.releaseTake n))

/-- TAKE_NAME (R146): the take, and the name in the remaining bytes (R203). -/
def judgeTakeName (p : List Byte) (s : State) : Judged :=
  let n := field p 0 1
  let name := p.drop 1
  if !isTake n ∨ 16 < name.length ∨ name.all printable = false then refuse .range s
  else
    match s.store.entry n with
    | none => refuse .notFound s
    | some t =>
      if t.state ≠ .closed then refuse .state s
      else if t.exporting then refuse .busy s
      else
        okWith .none (s.modStore (fun st =>
          st.setEntry n (some { t with name := if name.isEmpty then none else some name })))

/-- The items of MEMORY_REPORT (R147). -/
def Store.memoryReport (st : Store) : MemoryReport :=
  { free := st.free, reserve := st.reserveHeld, available := st.free - st.reserveHeld, used := Config.takeBlocks - st.free,
    takes := st.directory.toList.countP Option.isSome, head := st.freeList.head?, serial := st.serial }

/-- MEMORY_REPORT (R147). -/
def judgeMemoryReport (s : State) : Judged := okWith (.memory s.store.memoryReport) s

/-! ### Transport -/

/-- The Transport plays a take: SEEKING, PLAYING, WAITING or PAUSED. -/
def TransportState.plays : TransportState → Bool
  | .seeking => true
  | .playing => true
  | .waiting => true
  | .paused => true
  | .idle => false
  | .armed => false
  | .recording => false

/-- The arm mode's code (R152). -/
def armOfCode : Nat → Option ArmMode
  | 1 => some .firstNote
  | 2 => some .immediate
  | _ => none

/-- TAKE_RECORD accepted: the Transport takes the take, and arms or starts the clock (R152). -/
def State.beginRecording (take : Nat) (arm : ArmMode) (click : Bool) (s : State) : State :=
  let s := s.modTransport (fun t => { t with state := .armed, take := some take, click := click, armMode := some arm })
  match arm with
  | .firstNote => s.post .transport
  | .immediate => s.clockStart s.now none

/-- The tempo that an opening with click on carries (R152). -/
def State.openingTempo (click : Bool) (s : State) : Option Tempo :=
  if click then some { bpm := s.audio.metro.tempo, beats := s.audio.metro.beats } else none

/-- TAKE_RECORD from its step 2 on (R152). -/
def takeRecordWith (take split : Nat) (arm : ArmMode) (click : Bool) (s : State) : Judged :=
  if s.transport.state ≠ .idle then refuse .busy s
  else if s.rail.fallboardClosed then refuse .state s
  else
    match s.store.openRecording take split (s.openingTempo click) with
    | .error status => refuse status s
    | .ok (st, n) => answer .accepted (.takeOpened n st.serial) (State.beginRecording n arm click { s with store := st })

/-- The split key of a TAKE_RECORD: 45 when the frame carries none (R152). -/
def splitOf (p : List Byte) : Nat := if p.length < 4 then 45 else field p 3 1

/-- TAKE_RECORD (R152): take (0 for next), arm mode, click, and the split key when present. -/
def judgeTakeRecord (p : List Byte) (s : State) : Judged :=
  let take := field p 0 1
  if 16 < take ∨ splitOf p < 2 ∨ 88 < splitOf p then refuse .range s
  else
    match armOfCode (field p 1 1), yesNo (field p 2 1) with
    | some arm, some click => takeRecordWith take (splitOf p) arm click s
    | _, _ => refuse .range s

/-- A part mask: bit 0 LOW, bit 1 HIGH; the other bits are reserved. -/
def partsOfCode (n : Nat) : Option Parts :=
  if n < 4 then some { low := decide (n % 2 = 1), high := decide (2 ≤ n) } else none

/-- The Transport at the acceptance of a TAKE_PLAY (R157, R170). R157 gives cursor and cursor time for a start position of 0 only;
while SEEKING from a start above 0 both stand at 0 too (DESIGN CHOICE, assumption 44). -/
def Transport.play (take speed : Nat) (parts : Parts) (wait click : Bool) (t : Transport) : Transport :=
  { t with
    take := some take, click := click, cursor := 0, cursorTime := 0, carry := 0, speed := speed, parts := parts,
    waitMode := wait, delivered := [], levels := PedalLevels.zero, wait := none, seek := none, loop := none, anchor := none,
    expected := [], recent := [], mark := none, waitingCount := none, hits := 0, misses := 0, chords := 0,
    expectOverflow := 0, waitTime := 0 }

/-- TAKE_PLAY accepted (R157). -/
def State.beginPlayback (take start speed : Nat) (parts : Parts) (wait click : Bool) (s : State) : State :=
  let s := s.modTransport (Transport.play take speed parts wait click)
  let s := s.modStore (fun st => st.setPlaying take true)
  let s := s.setPlaySpeed (some speed)
  let s := if click then s.playClickStart else s
  if start = 0 then (s.modTransport (fun t => { t with state := .playing })).computeWait.post .transport
  else s.startSeek start false

/-- TAKE_PLAY from its step 2 on (R157). -/
def takePlayWith (take start speed : Nat) (parts : Parts) (wait click : Bool) (s : State) : Judged :=
  if s.transport.state ≠ .idle then refuse .busy s
  else
    match s.store.entry take with
    | none => refuse .notFound s
    | some t =>
      if t.state ≠ .closed then refuse .state s
      else answer .accepted .none (s.beginPlayback take (min start t.duration) (clamp 50 150 speed) parts wait click)

/-- TAKE_PLAY (R157): a presence byte, which opens the parameters (R203), the take, then start position, speed, part mask, wait mode
and click. That the take stands right behind the presence byte is the model's reading (assumption 14). -/
def judgeTakePlay (p : List Byte) (s : State) : Judged :=
  let take := field p 1 1
  (optionalItems .takePlay p).bind (fun l =>
    if !isTake take ∨ reservedBits (field p 0 1) 5 = true then refuse .range s
    else
      match codedItem partsOfCode (item l 2), codedItem yesNo (item l 3), codedItem yesNo (item l 4) with
      | some parts, some wait, some click =>
        takePlayWith take ((item l 0).getD 0) ((item l 1).getD 100) (parts.getD { low := true, high := true })
          (wait.getD false) (click.getD false) s
      | _, _, _ => refuse .range s)

/-- TAKE_STOP (R151, R155, R163). A recording that an overdue GAP expiry ends at the reserve line is IDLE when the stop is judged
(R155, assumption 2). -/
def judgeTakeStop (s : State) : Judged :=
  match s.transport.state with
  | .idle => refuse .state s
  | .armed => okWith .none (s.endRecording .stop s.now)
  | .recording =>
    let u := s.takeOverdue s.now
    if u.transport.state = .recording then okWith .none (u.endRecording .stop s.now) else refuse .state u
  | .seeking => okWith .none (s.stopPlayback .stop)
  | .playing => okWith .none (s.stopPlayback .stop)
  | .waiting => okWith .none (s.stopPlayback .stop)
  | .paused => okWith .none (s.stopPlayback .stop)

/-- A pause (R161): its first four steps, then PAUSED. -/
def State.pauseTake (s : State) : State :=
  (s.haltTake.modTransport (fun t => { t with state := .paused })).post .transport

/-- The pause pending of a seek is set or cleared. -/
def State.setPausePending (pending : Bool) (s : State) : State :=
  s.modTransport (fun t => { t with seek := t.seek.map (fun k => { k with pausePending := pending }) })

/-- A seek holds a pause pending. -/
def Transport.pausePending (t : Transport) : Bool := t.seek.any Seek.pausePending

/-- TAKE_PAUSE (R151, R161). -/
def judgeTakePause (s : State) : Judged :=
  match s.transport.state with
  | .idle => refuse .state s
  | .armed => refuse .state s
  | .recording => refuse .state s
  | .seeking => okWith .none (s.setPausePending true)
  | .playing => okWith .none s.pauseTake
  | .waiting => okWith .none s.pauseTake
  | .paused => okWith .none s

/-- TAKE_RESUME (R151, R162). -/
def judgeTakeResume (s : State) : Judged :=
  match s.transport.state with
  | .idle => refuse .state s
  | .armed => refuse .state s
  | .recording => refuse .state s
  | .seeking => if s.transport.pausePending then okWith .none (s.setPausePending false) else refuse .state s
  | .playing => refuse .state s
  | .waiting => refuse .state s
  | .paused => okWith .none s.continueTake

/-- TAKE_SPEED (R160). -/
def judgeTakeSpeed (p : List Byte) (s : State) : Judged :=
  let speed := clamp 50 150 (field p 0 1)
  if s.transport.state.plays then
    okWith (.speed speed) ((s.modTransport (fun t => { t with speed := speed, carry := 0 })).setPlaySpeed (some speed))
  else refuse .state s

/-- A TAKE_SEEK in a playback state (R164). -/
def State.seekTake (target : Nat) (s : State) : State :=
  match s.transport.state with
  | .playing => s.haltTake.startSeek target false
  | .waiting => s.haltTake.startSeek target false
  | .paused => s.startSeek target true
  | .seeking => s.startSeek target s.transport.pausePending
  | .idle => s
  | .armed => s
  | .recording => s

/-- TAKE_SEEK (R164): the target in ms. -/
def judgeTakeSeek (p : List Byte) (s : State) : Judged :=
  if s.transport.state.plays then okWith .none (s.seekTake (min (field p 0 4) s.takeDuration)) else refuse .state s

/-- A wait in progress that a LOOP_SET recomputes: the take position is below the new B and B is at or below the wait's target
(R165), or the wait ran toward the B of the loop replaced, where no record may lie (assumption 22). -/
def Transport.loopRecomputes (t : Transport) (now : Time) (b : Nat) : Bool :=
  match t.state, t.wait with
  | .playing, some w => (decide (t.position now < b) && decide (b ≤ w.target)) || w.towardB
  | _, _ => false

/-- LOOP_SET accepted (R165). -/
def State.setLoop (a b repeats : Nat) (s : State) : State :=
  let again := s.transport.loopRecomputes s.now b
  let s := (s.modTransport (fun t =>
    { t with loop := some { a := a, b := b, repeats := repeats, left := repeats }, anchor := none })).anchorTest
  if again then s.recomputeWait else s

/-- The marks and repeats a LOOP_SET may carry (R165). -/
def loopOk (a b repeats : Nat) : Bool := decide (a < b) && decide (a + 500 ≤ b) && decide (repeats ≤ 99)

/-- LOOP_SET (R151, R165): A, B and the repeats setting, judged with RANGE before the state. In IDLE there is no take whose
duration could bound B (assumption 34). -/
def judgeLoopSet (p : List Byte) (s : State) : Judged :=
  let a := field p 0 4
  let b := field p 4 4
  let repeats := field p 8 1
  if !loopOk a b repeats ∨ (s.transport.state ≠ .idle ∧ s.takeDuration < b) then refuse .range s
  else if s.transport.state.plays then okWith .none (s.setLoop a b repeats)
  else refuse .state s

/-- The loop and its anchor become absent; a wait toward B is recomputed (R165). -/
def State.clearLoop (s : State) : State :=
  let again := s.transport.wait.any Wait.towardB && decide (s.transport.state = .playing)
  let s := s.modTransport (fun t => { t with loop := none, anchor := none })
  if again then s.recomputeWait else s

/-- LOOP_CLEAR (R151, R165). -/
def judgeLoopClear (s : State) : Judged := okWith .none (if s.transport.state.plays then s.clearLoop else s)

/-- The cursor time of a TRANSPORT snapshot: the take position, and in RECORDING the duration so far (R168). -/
def State.reportedTime (s : State) : Nat :=
  match s.transport.state with
  | .idle => 0
  | .armed => 0
  | .recording => s.takeDuration
  | .playing => s.transport.position s.now
  | .seeking => s.transport.cursorTime
  | .waiting => s.transport.cursorTime
  | .paused => s.transport.cursorTime

/-- A value reported only while a take is played. -/
def Transport.whilePlaying {α : Type} (t : Transport) (x : α) : Option α := if t.state.plays then some x else none

/-- The TRANSPORT snapshot (R168). -/
def State.transportSnapshot (s : State) : TransportSnapshot :=
  let t := s.transport
  { state := t.state, take := t.take, cursorTime := s.reportedTime, speed := t.whilePlaying t.speed, loop := t.loop,
    lastEnd := t.lastEnd }

/-- The items of TRANSPORT_REPORT (R168). -/
def State.transportReport (s : State) : TransportReport :=
  let t := s.transport
  { snapshot := s.transportSnapshot, cursor := t.whilePlaying t.cursor,
    armMode := if t.state = .armed ∨ t.state = .recording then t.armMode else none,
    click := if t.state = .idle then none else some t.click, parts := t.whilePlaying t.parts,
    waitMode := t.whilePlaying t.waitMode, seek := t.seek, delivered := t.delivered, levels := t.whilePlaying t.levels,
    anchor := t.anchor, lastClose := t.lastClose }

/-- TRANSPORT_REPORT (R168). -/
def judgeTransportReport (s : State) : Judged := okWith (.transport s.transportReport) s

/-! ### Wait mode -/

/-- The settings of PRACTICE_SET as they stand (R178). -/
def Transport.settings (t : Transport) : PracticeSettings :=
  { parts := t.whilePlaying t.parts, waitMode := t.whilePlaying t.waitMode, chordWindow := t.chordWindow,
    leadWindow := t.leadWindow }

/-- Wait mode is turned off in WAITING (R177). -/
def State.endWaitMode (s : State) : State :=
  (s.modTransport (fun t => { t.bankWaiting with expected := [] })).leaveWaiting

/-- PRACTICE_SET accepted: the carried items act (R178). -/
def State.practice (parts : Option Parts) (wait : Option Bool) (chord lead : Option Nat) (s : State) : State :=
  let waiting := decide (s.transport.state = .waiting) && decide (wait = some false)
  let s := s.modTransport (fun t =>
    { t with
      parts := parts.getD t.parts
      waitMode := wait.getD t.waitMode
      chordWindow := (chord.map (clamp 0 100)).getD t.chordWindow
      leadWindow := (lead.map (clamp 0 200)).getD t.leadWindow })
  if waiting then s.endWaitMode else s

/-- PRACTICE_SET (R178): a presence byte, then part mask, wait mode, chord window and lead window. -/
def judgePracticeSet (p : List Byte) (s : State) : Judged :=
  (optionalItems .practiceSet p).bind (fun l =>
    if reservedBits (field p 0 1) 4 then refuse .range s
    else
      match codedItem partsOfCode (item l 0), codedItem yesNo (item l 1) with
      | some parts, some wait =>
        if (parts.isSome || wait.isSome) && !s.transport.state.plays then refuse .state s
        else
          let s := s.practice parts wait (item l 2) (item l 3)
          okWith (.practice s.transport.settings) s
      | _, _ => refuse .range s)

/-- The items of WAIT_REPORT (R179). -/
def Transport.waitReport (t : Transport) : WaitReport :=
  { hits := t.hits, misses := t.misses, chords := t.chords, expectOverflow := t.expectOverflow, waitTime := t.waitTime,
    expected := t.expected, t0 := if t.state = .waiting then t.mark.map GatherMark.time else none,
    waitingCount := t.waitingCount, settings := t.settings, recent := t.recent }

/-- WAIT_REPORT (R179). -/
def judgeWaitReport (p : List Byte) (s : State) : Judged :=
  match yesNo (field p 0 1) with
  | some clear =>
    okWith (.waitReport s.transport.waitReport)
      (if clear then
        s.modTransport (fun t => { t with hits := 0, misses := 0, chords := 0, expectOverflow := 0, waitTime := 0 })
      else s)
  | none => refuse .range s

end Sys2Proof.Machine
end

