-- ==== Sys2Proof/Machine/TransferRequests.lean ====
section
/-! DEFINITION. The Transfer Unit's operations and the judgements of its requests (R181 to R189). -/

namespace Sys2Proof.Machine

open Sys2Proof

/-! ### Export -/

/-- The time base at which an idle timer started at `now` expires: 5 s later (R185, R189). -/
def idleExpiry (now : Time) : Time := now.after Config.transferIdleMicros

/-- The data bytes of a take's stream: its header and its records (R181). -/
def Store.streamData (st : Store) (n : Nat) : List Byte :=
  match st.entry n with
  | some t => t.headerBytes ++ (st.records t).flatMap Record.bytes
  | none => []

/-- The export length of a take (R183). -/
def exportLength (count : Nat) : Nat := Config.headerBytes + 4 * count + 2

/-- EXPORT_OPEN (R183). -/
def judgeExportOpen (p : List Byte) (s : State) : Judged :=
  let n := field p 0 1
  if !isTake n then refuse .range s
  else if s.transfer.exporting.isSome then refuse .busy s
  else
    match s.store.entry n with
    | none => refuse .notFound s
    | some t =>
      if t.state ≠ .closed then refuse .state s
      else
        let s := s.modStore (fun st => st.setExporting n true)
        answer .accepted (.exportOpened n t.serial (exportLength t.count))
          { s with transfer := { s.transfer with
              exporting := some { take := n, length := exportLength t.count, cursor := 0, check := crcStart,
                                  idle := idleExpiry s.now, endSeen := false, upperSent := false, lowerSent := false } } }

/-- The data length of an export (R181). -/
def Export.dataLength (x : Export) : Nat := x.length - 2

/-- The bytes a read from `offset` sends (R184). -/
def Export.chunkSize (x : Export) (offset : Nat) : Nat := min Config.transferChunk (x.length - offset)

/-- The export after a read from `offset`: the data bytes at or above the cursor are folded and the cursor passes them, and the
check bytes sent are noted (R184, R185). -/
def Export.advance (data : List Byte) (offset : Nat) (x : Export) : Export :=
  let last := offset + x.chunkSize offset
  let upTo := min last x.dataLength
  { x with
    cursor := max x.cursor upTo
    check := crcFold x.check ((data.take upTo).drop x.cursor)
    endSeen := x.endSeen || decide (last = x.length)
    upperSent := x.upperSent || (decide (offset ≤ x.dataLength) && decide (x.dataLength < last))
    lowerSent := x.lowerSent || decide (last = x.length) }

/-- The bytes of a read, once the export check has folded every data byte before the check bytes it reaches (R184). -/
def Export.chunk (data : List Byte) (offset : Nat) (x : Export) : List Byte :=
  ((data ++ beBytes 2 x.check.toNat).drop offset).take (x.chunkSize offset)

/-- EXPORT_READ (R184): the offset. -/
def judgeExportRead (p : List Byte) (s : State) : Judged :=
  let offset := field p 0 3
  match s.transfer.exporting with
  | none => refuse .state s
  | some x =>
    let x := { x with idle := idleExpiry s.now }
    let held : State := { s with transfer := { s.transfer with exporting := some x } }
    if x.length ≤ offset then refuse .range held
    else if x.cursor < offset ∧ x.cursor ≠ x.dataLength then refuse .order held
    else
      let data := s.store.streamData x.take
      let y := x.advance data offset
      okWith (.chunk (y.chunk data offset) (decide (offset + x.chunkSize offset = x.length)))
        { s with transfer := { s.transfer with exporting := some y } }

/-- The bytes moved by an export: the cursor and the check bytes sent (R185). -/
def Export.moved (x : Export) : Nat := x.cursor + boolCode x.upperSent + boolCode x.lowerSent

/-- An export ends with a result (R185). -/
def State.endExport (x : Export) (result : TransferResult) (s : State) : State :=
  let s := s.modStore (fun st => st.setExporting x.take false)
  State.post .transfer
    { s with transfer := { s.transfer with
        exporting := none, lastExport := some { take := x.take, result := result, bytes := x.moved } } }

/-- EXPORT_CLOSE (R185). -/
def judgeExportClose (s : State) : Judged :=
  match s.transfer.exporting with
  | none => refuse .state s
  | some x => okWith .none (s.endExport x (if x.endSeen then .complete else .closedEarly))

/-! ### Import -/

/-- A declared length an import may open with (R186). -/
def declaredOk (n : Nat) : Bool := decide (37 ≤ n) && decide (n ≤ 262177) && decide ((n - 33) % 4 = 0)

/-- An import right after its opening (R186). -/
def Import.opened (take declared : Nat) (now : Time) : Import :=
  { take := take, declared := declared, expected := 0, check := crcStart, received := [], headerBuffer := [],
    recordBuffer := [], header := none, openKeys := [], unbalanced := false, ends := 0, lastIsEnd := false, deltaSum := 0,
    idle := idleExpiry now }

/-- The serial of a take. -/
def Store.serialOf (st : Store) (n : Nat) : Nat := ((st.entry n).map Take.serial).getD 0

/-- IMPORT_OPEN (R186): the take and the declared length. -/
def judgeImportOpen (p : List Byte) (s : State) : Judged :=
  let n := field p 0 1
  let declared := field p 1 3
  if !isTake n ∨ !declaredOk declared then refuse .range s
  else if s.transfer.importing.isSome then refuse .busy s
  else
    match s.store.openImport n with
    | .error status => refuse status s
    | .ok st =>
      answer .accepted (.takeOpened n (st.serialOf n))
        { s with store := st, transfer := { s.transfer with importing := some (.opened n declared s.now) } }

/-- The result an aborting or failing status stands for (R189). -/
def TransferResult.status : TransferResult → Status
  | .complete => .ok
  | .closedEarly => .ok
  | .length => .length
  | .check => .check
  | .format => .format
  | .noSpace => .noSpace
  | .timeout => .timeout

/-- An import ends with a result (R189). -/
def State.endImport (x : Import) (result : TransferResult) (s : State) : State :=
  State.post .transfer
    { s with transfer := { s.transfer with
        importing := none, lastImport := some { take := x.take, result := result, bytes := x.expected } } }

/-- An import that fails: the Take Store releases the chain and empties the entry (R141, R189). -/
def State.failTransfer (x : Import) (result : TransferResult) (s : State) : State :=
  (s.modStore Store.failImport).endImport x result

/-- The balance of a record (R187). -/
def Import.balance (p : Payload) (x : Import) : Import :=
  match p with
  | .noteOn key _ _ =>
    if x.openKeys.contains key then { x with unbalanced := true } else { x with openKeys := insertNum key x.openKeys }
  | .noteOff key _ =>
    if x.openKeys.contains key then { x with openKeys := removeNum key x.openKeys } else { x with unbalanced := true }
  | .pedal _ _ => x
  | .beat _ _ => x
  | .gap => x
  | .ending => x

/-- A good record is noted in the import state (R187). -/
def Import.noted (r : Record) (x : Import) : Import :=
  { x.balance r.payload with
    recordBuffer := []
    deltaSum := x.deltaSum + r.delta
    ends := if r.payload = .ending then x.ends + 1 else x.ends
    lastIsEnd := decide (r.payload = .ending) }

/-- What one byte of an import leads to: the import goes on with a store, or is aborted (R187). -/
inductive Taken where
  | goes (x : Import) (st : Store)
  | aborts (x : Import) (st : Store) (result : TransferResult)
  deriving DecidableEq, Repr

/-- A byte of the header (R187). -/
def Import.headerByte (b : Byte) (x : Import) (st : Store) : Taken :=
  let buffer := x.headerBuffer ++ [b]
  if buffer.length < Config.headerBytes then .goes { x with headerBuffer := buffer } st
  else
    match decodeHeader buffer x.declared with
    | some h => .goes { x with headerBuffer := buffer, header := some h } st
    | none => .aborts { x with headerBuffer := buffer } st .format

/-- A byte of the records (R187). -/
def Import.recordByte (b : Byte) (x : Import) (st : Store) : Taken :=
  let buffer := x.recordBuffer ++ [b]
  if buffer.length < 4 then .goes { x with recordBuffer := buffer } st
  else
    match decodeRecord buffer with
    | none => .aborts { x with recordBuffer := buffer } st .format
    | some r =>
      match st.importRecord r with
      | none => .aborts { x with recordBuffer := buffer } st .noSpace
      | some st => .goes (x.noted r) st

/-- One byte is taken: a data byte is folded and parsed, and the last two bytes are kept (R187). -/
def Import.takeByte (b : Byte) (x : Import) (st : Store) : Taken :=
  let y := { x with expected := x.expected + 1 }
  if x.expected + 2 < x.declared then
    let y := { y with check := crcByte x.check b }
    if x.expected < Config.headerBytes then y.headerByte b st else y.recordByte b st
  else .goes { y with received := x.received ++ [b] } st

/-- The bytes of a write, in order, up to an abort (R187). -/
def Import.takeBytes (x : Import) (st : Store) : List Byte → Taken
  | [] => .goes x st
  | b :: rest =>
    match x.takeByte b st with
    | .goes x st => Import.takeBytes x st rest
    | .aborts x st result => .aborts x st result

/-- IMPORT_WRITE (R187): the offset, and the data bytes. -/
def judgeImportWrite (p : List Byte) (s : State) : Judged :=
  let offset := field p 0 3
  let data := p.drop 3
  match s.transfer.importing with
  | none => refuse .state s
  | some x =>
    let x := { x with idle := idleExpiry s.now }
    let held : State := { s with transfer := { s.transfer with importing := some x } }
    if data.isEmpty ∨ Config.transferChunk < data.length then refuse .range held
    else if offset ≠ x.expected then refuse .order held
    else if x.declared < offset + data.length then refuse .length (held.failTransfer x .length)
    else
      match x.takeBytes s.store data with
      | .goes x st =>
        okWith (.expectedOffset x.expected)
          { s with store := st, transfer := { s.transfer with importing := some x } }
      | .aborts x st result => refuse result.status (State.failTransfer x result { s with store := st })

/-- The closing checks, in order; the first that fails decides (R188). -/
def Import.verdict (written : Nat) (h : Header) (x : Import) : TransferResult :=
  if beNat x.received ≠ x.check.toNat then .check
  else if written ≠ h.count ∨ x.ends ≠ 1 ∨ x.lastIsEnd = false ∨ x.deltaSum ≠ h.duration then .format
  else if x.unbalanced ∨ !x.openKeys.isEmpty then .format
  else .complete

/-- The records the import context has written (R140). -/
def Store.importWritten (st : Store) : Nat := (st.importing.map ImportContext.written).getD 0

/-- IMPORT_CLOSE (R188). A stream received to its declared length has its header parsed. -/
def judgeImportClose (s : State) : Judged :=
  match s.transfer.importing with
  | none => refuse .state s
  | some x =>
    if x.expected < x.declared then refuse .length (s.failTransfer x .length)
    else
      match x.header with
      | none => refuse .length (s.failTransfer x .length)
      | some h =>
        match x.verdict s.store.importWritten h with
        | .complete =>
          let s := s.modStore (Store.finishImport h)
          okWith (.imported x.take (s.store.serialOf x.take) h.count) (s.endImport x .complete)
        | .closedEarly => refuse .format (s.failTransfer x .format)
        | .length => refuse .length (s.failTransfer x .length)
        | .check => refuse .check (s.failTransfer x .check)
        | .format => refuse .format (s.failTransfer x .format)
        | .noSpace => refuse .noSpace (s.failTransfer x .noSpace)
        | .timeout => refuse .timeout (s.failTransfer x .timeout)

end Sys2Proof.Machine
end

