-- ==== Sys2Proof/Machine/LinkOps.lean ====
section
/-! DEFINITION. The Link Interfaces: the judgement of a request by the block that owns it, frames (R191), reply buffers (R190,
R193), status boards and their snapshots (R194 to R196, 12.4), the Panel Stream (R197), and the link's own requests (R196, R199,
R200). -/

namespace Sys2Proof.Machine

open Sys2Proof

/-! ### Snapshots (12.4) -/

/-- The keys in FAULT, in ascending order (R7). -/
def State.faultKeys (s : State) : List Nat := keyNumbers.filter (fun k => decide ((s.key k).state = .fault))

/-- The faulted pedals (R7): one bit per pedal code (12.4), code c at bit c − 1 (DEDUCED, assumption 41). -/
def PedalUnit.faultBits (u : PedalUnit) : Nat :=
  boolCode (decide (u.damper.sense.state = .fault)) + 2 * boolCode (decide (u.sostenuto.sense.state = .fault))
    + 4 * boolCode (decide (u.soft.sense.state = .fault))

def State.keyFaultSnapshot (s : State) : List Byte :=
  byte1 s.faultKeys.length ++ byte1 (s.faultKeys.headD 0) ++ byte1 s.pedals.faultBits

def Tone.resyncSnapshot (t : Tone) : List Byte := byte1 t.resyncs ++ timeItem t.lastOverflow ++ byte1 t.occupancy

def Rail.stateSnapshot (r : Rail) : List Byte :=
  byte1 r.state.code ++ byte1 (optionCode (r.target.map Target.code)) ++ be16Signed r.count
    ++ byte1 (optionCode (r.lastMove.map MoveResult.code)) ++ byte1 (fallboardCode r.fallboardClosed)

def Rail.faultSnapshot (r : Rail) : List Byte :=
  byte1 r.state.code ++ faultItems r.lastFault ++ byte1 r.stalls ++ byte1 (boolCode r.alertRequested)

def Rail.loadSnapshot (r : Rail) : List Byte :=
  byte1 r.profile.alertMode.code ++ beBytes 2 r.profile.alertLimit ++ beBytes 2 r.profile.hysteresis ++ byte1 r.arm.code
    ++ beBytes 2 (r.lastCurrent.getD 0xFFFF)

def Audio.jackSnapshot (a : Audio) : List Byte :=
  byte1 (boolCode a.jack1 + 2 * boolCode a.jack2 + 4 * boolCode a.mute.jackOut)

def Audio.underrunSnapshot (a : Audio) : List Byte :=
  beBytes 2 a.underruns ++ byte1 (boolCode a.inUnderrun) ++ byte1 a.fifo.length ++ byte1 a.refill

def Transfer.snapshot (x : Transfer) : List Byte :=
  transferItems x.lastExport ++ transferItems x.lastImport ++ byte1 (boolCode x.exporting.isSome)
    ++ byte1 (optionCode (x.exporting.map Export.take)) ++ byte1 (boolCode x.importing.isSome)
    ++ byte1 (optionCode (x.importing.map Import.take))

/-- The snapshot of a kind, formed from the current state of its owner (R195, 12.4). -/
def State.snapshot (k : NoticeKind) (s : State) : List Byte :=
  match k with
  | .start => startSnapshot s.system.lastStart
  | .keyFault => s.keyFaultSnapshot
  | .calDone => calDoneSnapshot s.scanner.lastCapture
  | .queueResync => s.tone.resyncSnapshot
  | .railState => s.rail.stateSnapshot
  | .railFault => s.rail.faultSnapshot
  | .railLoad => s.rail.loadSnapshot
  | .fallboard => byte1 (fallboardCode s.rail.fallboardClosed)
  | .jack => s.audio.jackSnapshot
  | .audioUnderrun => s.audio.underrunSnapshot
  | .transport => s.transportSnapshot.bytes
  | .takeClosed => closeSnapshot s.transport.lastClose
  | .transfer => s.transfer.snapshot

/-- One item of a status read: notice code, snapshot length, snapshot. -/
def State.statusItem (s : State) (k : NoticeKind) : List Byte :=
  byte1 (k.place + 1) ++ byte1 (s.snapshot k).length ++ s.snapshot k

/-- The kinds of a set, in the order of R194. -/
def kindsOf (kinds : BitVec 16) : List NoticeKind := noticeOrder.filter (hasKind kinds)

/-- The bytes of a status read: the count, then the items in the order of R194 (R195, 12.4). -/
def State.statusBytes (kinds : BitVec 16) (s : State) : List Byte :=
  byte1 (kindsOf kinds).length ++ (kindsOf kinds).flatMap s.statusItem

/-! ### The links' own requests -/

/-- IDENTIFY (R199). -/
def judgeIdentify (s : State) : Judged :=
  okWith (.identity { vendor := Config.vendorCode, part := Config.partCode, revision := Config.revisionLetter,
                      kept := s.system.lastStart.warm, cause := s.system.lastStart.cause }) s

/-- The items of LINK_REPORT (R199). -/
def State.linkReport (l : Link) (s : State) : LinkReport :=
  let x := s.link l
  match l with
  | .t =>
    { malformed := x.malformed, lostReplies := x.lostReplies, streamDrops := none, streamCount := none, pointer := none,
      pendingKinds := x.board }
  | .p =>
    { malformed := x.malformed, lostReplies := x.lostReplies, streamDrops := some s.panel.drops,
      streamCount := some s.panel.stream.length, pointer := some s.panel.pointer, pendingKinds := x.board }

/-- The counters of the sending link are set to 0 (R197, R199). -/
def State.clearCounters (l : Link) (s : State) : State :=
  let s := s.modLink l (fun x => { x with malformed := 0, lostReplies := 0 })
  match l with
  | .t => s
  | .p => { s with panel := { s.panel with drops := 0 } }

/-- LINK_REPORT (R199). -/
def judgeLinkReport (l : Link) (p : List Byte) (s : State) : Judged :=
  match yesNo (field p 0 1) with
  | some clear => okWith (.linkReport (s.linkReport l)) (if clear then s.clearCounters l else s)
  | none => refuse .range s

/-- RESTART (R200): the first arranges the warm start, with the time at which the request was taken, and a second one changes
nothing further. -/
def judgeRestart (l : Link) (taken : Time) (s : State) : Judged :=
  if s.system.restart.isSome then okWith (.restart false) s
  else
    okWith (.restart true)
      { s with system := { s.system with restart := some { link := l, requested := taken, replyRead := false } } }

/-- The bits of a mask that name a kind (R196). -/
def kindBits : BitVec 16 := 0x1FFF#16

/-- STATUS_MASK (R196): START is placed in the mask, and pending kinds it leaves out are removed. -/
def judgeStatusMask (l : Link) (p : List Byte) (s : State) : Judged :=
  let carried := BitVec.ofNat 16 (field p 0 2)
  if carried &&& ~~~kindBits ≠ 0#16 then refuse .range s
  else
    let mask := carried ||| NoticeKind.start.bit
    okWith (.mask mask) (s.modLink l (fun x => { x with mask := mask, board := x.board &&& mask }))

/-! ### Requests -/

/-- The block that owns the state a request names judges it whole (R190): the request came over link `l` and was taken at `taken`.
An unknown kind is never handed on (R191). -/
def judge (kind : ReqKind) (l : Link) (taken : Time) (p : List Byte) (s : State) : Judged :=
  match kind with
  | .calWrite => judgeCalWrite p s
  | .calRead => judgeCalRead p s
  | .calCaptureRest => judgeCalCaptureRest s
  | .calCaptureBottom => judgeCalCaptureBottom p s
  | .keyWatch => judgeKeyWatch p s
  | .keyReport => judgeKeyReport p s
  | .keyLines => judgeKeyLines p s
  | .curveWrite => judgeCurveWrite p s
  | .curveSelect => judgeCurveSelect p s
  | .curveRead => judgeCurveRead p s
  | .strokeSlowLimit => judgeStrokeSlowLimit p s
  | .noteCopy => judgeNoteCopy p s
  | .soundingReport => judgeSoundingReport p s
  | .allNotesOff => judgeAllNotesOff s
  | .toneStreamSetup => judgeToneStreamSetup p s
  | .flushTone => judgeFlushTone s
  | .railEngage => judgeRailEngage s
  | .railRetract => judgeRailRetract s
  | .railStatus => judgeRailStatus p s
  | .railAck => judgeRailAck s
  | .railClearDisturbed => judgeRailClearDisturbed s
  | .railProfile => judgeRailProfile p s
  | .audioSetup => judgeAudioSetup p s
  | .audioMute => judgeAudioMute p s
  | .metroSet => judgeMetroSet p s
  | .metroRun => judgeMetroRun p s
  | .audioReport => judgeAudioReport p s
  | .takeList => judgeTakeList p s
  | .takeDelete => judgeTakeDelete p s
  | .takeName => judgeTakeName p s
  | .memoryReport => judgeMemoryReport s
  | .takeRecord => judgeTakeRecord p s
  | .takePlay => judgeTakePlay p s
  | .takeStop => judgeTakeStop s
  | .takePause => judgeTakePause s
  | .takeResume => judgeTakeResume s
  | .takeSpeed => judgeTakeSpeed p s
  | .takeSeek => judgeTakeSeek p s
  | .loopSet => judgeLoopSet p s
  | .loopClear => judgeLoopClear s
  | .transportReport => judgeTransportReport s
  | .practiceSet => judgePracticeSet p s
  | .waitReport => judgeWaitReport p s
  | .exportOpen => judgeExportOpen p s
  | .exportRead => judgeExportRead p s
  | .exportClose => judgeExportClose s
  | .importOpen => judgeImportOpen p s
  | .importWrite => judgeImportWrite p s
  | .importClose => judgeImportClose s
  | .identify => judgeIdentify s
  | .linkReport => judgeLinkReport l p s
  | .restart => judgeRestart l taken s
  | .statusMask => judgeStatusMask l p s
  | .unknown => none

/-- The parameters of a frame whose length agrees with the bytes the transaction carried, reaches the kind's minimum, and is enough
for the items it marks (R191, R203, 12.2). -/
def frameParams (kind : ReqKind) (body : List Byte) : Option (List Byte) :=
  match body with
  | [] => none
  | n :: p => if n.toNat = p.length ∧ reqMinLength kind ≤ p.length ∧ paramsFit kind p = true then some p else none

/-- MALFORMED rises by one (R191). -/
def State.countMalformed (l : Link) (s : State) : State :=
  s.modLink l (fun x => { x with malformed := satInc Config.maxCount8 x.malformed })

/-- LOST_REPLIES rises by one (R190). -/
def State.countLost (l : Link) (s : State) : State :=
  s.modLink l (fun x => { x with lostReplies := satInc Config.maxCount8 x.lostReplies })

/-- A frame that is not handed on: MALFORMED is counted and the reply carries the status (R191). -/
def State.malformedFrame (l : Link) (status : Status) (s : State) : State × Reply :=
  (s.countMalformed l, { status := status, data := .none })

/-- The judgement of a frame: by the link itself (R191), and then by the block that owns the request (R190). -/
def State.answerFrame (kind : ReqKind) (f : Frame) (s : State) : State × Reply :=
  if kind = .unknown then s.malformedFrame f.link .unknown
  else
    match (frameParams kind f.body).bind (fun p => judge kind f.link f.now p s) with
    | some r => r
    | none => s.malformedFrame f.link .length

/-- A reply is placed in the buffer (R190). -/
def State.placeReply (l : Link) (r : Reply) (s : State) : State := s.modLink l (fun x => { x with buffer := .ready r })

/-- A request is judged and its reply placed (R190). -/
def State.judgeFrame (kind : ReqKind) (f : Frame) (s : State) : State :=
  let r := s.answerFrame kind f
  r.1.placeReply f.link r.2

/-- A frame that reaches its owning block later leaves the buffer HANDLING; a frame the link answers itself is answered at once
(R190, R191). -/
def State.admitFrame (kind : ReqKind) (f : Frame) (s : State) : State :=
  if f.deferred ∧ kind ≠ .unknown ∧ (frameParams kind f.body).isSome then
    s.modLink f.link (fun x => { x with buffer := .handling kind f })
  else s.judgeFrame kind f

/-- A pointer write on Link P: 0x02 REPLY, 0x04 STATUS, 0x05 STREAM; any other value is counted (R193, 12.2). -/
def State.writePointer (value : Nat) (s : State) : State :=
  if value = 0x02 then { s with panel := { s.panel with pointer := .reply } }
  else if value = 0x04 then { s with panel := { s.panel with pointer := .status } }
  else if value = 0x05 then { s with panel := { s.panel with pointer := .stream } }
  else s.countMalformed .p

/-- An exchange begins on a link: a status read before it was whole, and it shuts a DRAIN exchange on Link T and a clock stretch
on Link P (R192, R193, R195). -/
def State.beginExchange (l : Link) (s : State) : State :=
  let s := s.modLink l (fun x => { x with statusRead := none, out := .nothing })
  match l with
  | .t => { s with tone := { s.tone with drain := none } }
  | .p => { s with panel := { s.panel with stretch := none } }

/-- A request is taken at the end of its exchange, by the state of the reply buffer (R190). -/
def State.enterFrame (kind : ReqKind) (f : Frame) (s : State) : State :=
  let x := s.link f.link
  match x.buffer with
  | .empty => s.admitFrame kind f
  | .ready _ => (s.countLost f.link).admitFrame kind f
  | .handling _ _ =>
    if x.held.isSome then s.countLost f.link
    else s.modLink f.link (fun x => { x with held := some (kind, f) })

/-- The address on Link P, 0x5C to 0x5F by the two strap pins as the start read them (R193). -/
def State.linkAddress (s : State) : BitVec 7 := 0x5C#7 + s.system.strap.setWidth 7

/-- A transaction reaches the part: on Link P the one that names its address, whose every written byte it acknowledges (R193). On Link
T the chip select stands for the address (R192). -/
def State.answers (l : Link) (address : BitVec 7) (s : State) : Bool :=
  match l with
  | .t => true
  | .p => decide (address = s.linkAddress)

/-- An exchange acts only if its transaction reaches the part; one for another address leaves the part as it is (R193). -/
def State.addressed (l : Link) (address : BitVec 7) (f : State → State) (s : State) : State :=
  if s.answers l address then f s else s

/-- A write of a request frame whose kind byte is `code`. On Link P a write of one byte is a pointer write (R193). -/
def State.takeFrame (kind : ReqKind) (code : Nat) (f : Frame) (s : State) : State :=
  let act (s : State) : State :=
    let s := s.beginExchange f.link
    if f.link = .p ∧ f.body = [] then s.writePointer code else s.enterFrame kind f
  State.addressed f.link f.address act { s with now := f.now }

/-- The part runs only with main power on. -/
def State.whileOn (f : State → State) (s : State) : State := if s.system.mainOn then f s else s

/-- A request of a known kind (R190, R191). -/
def takeRequest (kind : ReqKind) (f : Frame) (s : State) : State :=
  s.whileOn (State.takeFrame kind ((reqCode kind).getD 0) f)

/-! ### Reads -/

/-- A held request is taken as if arriving at READY: the reply placed for the earlier one is discarded and counted (R190). -/
def State.takeHeld (l : Link) (s : State) : State :=
  match (s.link l).held with
  | none => s
  | some (kind, f) => ((s.modLink l (fun x => { x with held := none })).countLost l).admitFrame kind f

/-- The owning block has judged the request the buffer is HANDLING: its reply is placed, and a held request is taken (R190). -/
def State.settle (l : Link) (s : State) : State :=
  match (s.link l).buffer with
  | .handling kind f => (s.judgeFrame kind f).takeHeld l
  | .empty => s
  | .ready _ => s

/-- The reply to the RESTART that arranged the warm start. -/
def Reply.arms (r : Reply) : Bool := decide (r.data = .restart true)

/-- A reply has been read to its last byte: the buffer is EMPTY, and a RESTART whose reply it was may act (R190, R200). -/
def State.replyTaken (l : Link) (r : Reply) (s : State) : State :=
  let s := s.modLink l (fun x => { x with buffer := .empty, out := .bytes r.bytes })
  if r.arms then
    { s with system := { s.system with restart := s.system.restart.map (fun x => { x with replyRead := true }) } }
  else s

/-- A read of the reply buffer (R190 to R193): the reply, or a marker. On Link P a buffer that is HANDLING stretches the clock. -/
def State.readBuffer (l : Link) (toEnd : Bool) (s : State) : State :=
  match (s.link l).buffer with
  | .ready r => if toEnd then s.replyTaken l r else s.modLink l (fun x => { x with out := .cutShort })
  | .empty => s.modLink l (fun x => { x with out := .bytes (markerBytes noReplyCode) })
  | .handling _ _ =>
    match l with
    | .t => s.modLink l (fun x => { x with out := .bytes (markerBytes notReadyCode) })
    | .p => { s with panel := { s.panel with stretch := some s.now } }

/-- The read transaction's channel on Link P is the one the pointer names; Link T selects its exchange by the selector (R192,
R193). -/
def State.channelIs (l : Link) (c : Channel) (s : State) : Bool :=
  match l with
  | .t => true
  | .p => decide (s.panel.pointer = c)

/-- A read of the reply channel (R190, R193). -/
def State.readReply (l : Link) (toEnd judged : Bool) (s : State) : State :=
  if s.channelIs l .reply then
    let s := s.beginExchange l
    (if judged then s.settle l else s).readBuffer l toEnd
  else s

/-- 1 ms of clock stretch without a reply: the marker NOT_READY is returned (R193). -/
def State.endStretch (s : State) : State :=
  match s.panel.stretch with
  | none => s
  | some began =>
    if Config.stretchMicros ≤ elapsed s.now began then
      { s with panel := { s.panel with stretch := none } }.modLink .p
        (fun x => { x with out := .bytes (markerBytes notReadyCode) })
    else s

/-- A status read at its first byte (R195): the pending kinds leave the board with their snapshots. -/
def State.readStatus (l : Link) (s : State) : State :=
  if s.channelIs l .status then
    let s := s.beginExchange l
    let kinds := (s.link l).board
    let bytes := s.statusBytes kinds
    s.modLink l (fun x => { x with board := 0#16, statusRead := some kinds, out := .bytes bytes })
  else s

/-- A status read that ends before its last byte: the kinds taken go back on the board (R195). -/
def State.abandonStatus (l : Link) (s : State) : State :=
  match (s.link l).statusRead with
  | none => s
  | some kinds => s.modLink l (fun x => { x with board := x.board ||| kinds, statusRead := none, out := .cutShort })

/-- What `bytes` bytes of a Panel Stream read after its count byte carry, and the entries left: an entry is removed when its last
byte is read, and the rest are fillers (R197). -/
def streamTake : Nat → List PanelEntry → List Byte × List PanelEntry
  | bytes, [] => (List.replicate bytes 0, [])
  | bytes, e :: rest =>
    if e.bytes.length ≤ bytes then
      let r := streamTake (bytes - e.bytes.length) rest
      (e.bytes ++ r.1, r.2)
    else (e.bytes.take bytes, e :: rest)

/-- A Panel Stream read of `bytes` bytes on Link P (R197). -/
def State.readStream (bytes : Nat) (s : State) : State :=
  if s.channelIs .p .stream then
    let s := s.beginExchange .p
    match bytes with
    | 0 => s
    | n + 1 =>
      let r := streamTake n s.panel.stream
      { s with panel := { s.panel with stream := r.2 } }.modLink .p
        (fun x => { x with out := .bytes (byte1 s.panel.stream.length ++ r.1) })
  else s

/-! ### Drain exchanges -/

/-- The bytes the part has shifted out in the exchange so far. -/
def LinkOut.sofar : LinkOut → List Byte
  | .bytes l => l
  | .nothing => []
  | .cutShort => []

/-- More bytes are shifted out on Link T. -/
def State.shiftOut (bytes : List Byte) (s : State) : State :=
  s.modLink .t (fun x => { x with out := .bytes (x.out.sofar ++ bytes) })

/-- A DRAIN exchange begins: the count byte (R75). -/
def State.beginDrain (s : State) : State :=
  let s := s.beginExchange .t
  { s with tone := { s.tone with drain := some .idle } }.shiftOut (byte1 s.tone.occupancy)

/-- A slot's first byte in an open DRAIN exchange with no entry in flight: a copy of the head is latched (R75), or, over an empty
queue, a NONE filler stamped with the time base is shifted out whole, with nothing latched (R76, assumption 37). -/
def State.startSlot (s : State) : State :=
  match s.tone.drain, s.tone.queue with
  | some .idle, q :: _ => { s with tone := { s.tone with drain := some (.entry q.entry false) } }
  | some .idle, [] => s.shiftOut (fillerBytes s.now)
  | some (.entry _ _), _ => s
  | none, _ => s

/-- The eighth byte of a slot holding an entry: the head is removed unless the copy is stale (R75, R77). -/
def State.completeSlot (s : State) : State :=
  match s.tone.drain with
  | none => s
  | some .idle => s
  | some (.entry copy stale) =>
    let t := if stale then s.tone else s.tone.removeHead s.now
    { s with tone := { t with drain := some .idle } }.shiftOut copy.bytes

/-- Chip select ends before a slot's eighth byte: nothing is removed (R77). -/
def State.abandonSlot (s : State) : State := { s with tone := { s.tone with drain := none } }

end Sys2Proof.Machine
end

