-- ==== Sys2Proof/Machine/StartOps.lean ====
section
/-! DEFINITION. The starts (R22, R54, R83, R110, R129, R149, R169, R200, R201), and the loss of main power and of the standby
supply. -/

namespace Sys2Proof.Machine

open Sys2Proof

/-- A key after a warm start: its record kept, its state by the record's validity (R22). -/
def Key.restarted (k : Key) : Key := { Key.initial with cal := k.cal, state := k.cal.settledState }

/-- The sensing side of a pedal after a warm start (R54). -/
def PedalSense.restarted (x : PedalSense) : PedalSense :=
  { cal := x.cal, state := if x.cal.valid then .active else .invalid, glitchRun := 0, recoveryRun := 0 }

/-- The Sensor Scanner after a start of either kind (R22). -/
def Scanner.atStart (warm : Bool) (x : Scanner) : Scanner :=
  if warm then { Scanner.initial with keys := x.keys.map Key.restarted } else Scanner.initial

/-- The Stroke Analyzer after a start: a warm start keeps the curve slots (R39). -/
def Strokes.atStart (warm : Bool) (x : Strokes) : Strokes :=
  if warm then { Strokes.initial with curves := x.curves } else Strokes.initial

/-- The Pedal Unit after a start (R54). -/
def PedalUnit.atStart (warm : Bool) (u : PedalUnit) : PedalUnit :=
  if warm then
    { damper := { LevelPedal.initial with sense := u.damper.sense.restarted }
      sostenuto := { SwitchPedal.initial with sense := u.sostenuto.sense.restarted }
      soft := { LevelPedal.initial with sense := u.soft.sense.restarted } }
  else PedalUnit.initial

/-- The part of the rail record a start finds in place (R110): kept by a warm start with the DISTURBED latch clear. -/
def Rail.retains (warm : Bool) (r : Rail) : Bool := warm && !r.disturbed

/-- The learned travel after a start (R110). -/
def Rail.learnedAtStart (warm : Bool) (r : Rail) : Nat :=
  if r.retains warm then r.learned else Profile.default.programmedTravel

/-- The position count a start finds before the switches are read: kept, or 0 (R110). -/
def Rail.countAtStart (warm : Bool) (r : Rail) : Int := if r.retains warm then r.count else 0

/-- State, count and position known after a start, by the end switches (R110). -/
def Rail.placeAtStart (warm : Bool) (pins : Pins) (r : Rail) : RailState × Int × Bool :=
  if pins.retractEnd ∧ pins.engageEnd then (.switchFault, r.countAtStart warm, false)
  else if pins.retractEnd then (.retracted, 0, true)
  else if pins.engageEnd then (.engaged, if r.retains warm then r.count else (Profile.default.programmedTravel : Int), true)
  else
    let x := if r.retains warm then r.resting else .unknown
    (x, r.countAtStart warm, decide (x ≠ .unknown))

/-- The rail record after a start (R110, R103). -/
def Rail.atStart (warm : Bool) (pins : Pins) (now : Time) (r : Rail) : Rail :=
  let place := r.placeAtStart warm pins
  let fault := decide (place.1 = .switchFault)
  { Rail.initial with
    state := place.1
    resting := restingAfter place.1 .unknown
    count := place.2.1
    known := place.2.2
    learned := r.learnedAtStart warm
    disturbed := warm && r.disturbed
    alertRequested := fault
    lastFault := if fault then some { cause := .bothSwitches, target := none, count := place.2.1, time := now } else none
    stalls := if fault then 1 else 0
    retractEnd := pins.retractEnd
    engageEnd := pins.engageEnd
    fallboardClosed := pins.fallboardClosed }

/-- The Audio Stage after a start: the jack levels are taken at once, and the rail conditions handed on (R119, R129). -/
def Audio.atStart (pins : Pins) (r : Rail) : Audio :=
  (Audio.handOn r.state.moving (decide (r.state = .engaged)) r.alertRequested
    { Audio.initial with jack1 := pins.jack1, jack2 := pins.jack2 }).judgeJacks

/-- The Take Store after a start, and what became of the takes that were being written (R148, R149). -/
def Store.atStart (warm : Bool) (st : Store) : Store × List (Nat × FinishOutcome) :=
  if warm then
    let r := st.finishTakes
    (r.1.clearMarks, r.2)
  else (Store.initial, [])

/-- A link after a start: START is pending, and RAIL_FAULT too when the rail starts in SWITCH_FAULT (R200). -/
def LinkIf.atStart (mask : BitVec 16) (r : Rail) : LinkIf :=
  if r.state = .switchFault then (LinkIf.initial mask).post .railFault else LinkIf.initial mask

/-- A start (R200): the retained items are kept or set to their cold values, and every main-domain item takes its start value.
The commands that wait stay in their queue. -/
def State.start (warm : Bool) (cause : StartCause) (now : Time) (pins : Pins) (s : State) : State :=
  let rail := s.rail.atStart warm pins now
  let store := s.store.atStart warm
  { now := now
    system :=
      { mainOn := true
        marker := if warm then s.system.marker else true
        lastStart :=
          { warm := warm, cause := if warm then some cause else none, finished := store.2, disturbed := rail.disturbed }
        restart := none
        strap := pins.strap }
    scanner := s.scanner.atStart warm
    strokes := s.strokes.atStart warm
    pedals := s.pedals.atStart warm
    router := Router.initial
    tone := Tone.initial
    rail := rail
    audio := Audio.atStart pins rail
    store := store.1
    transport := Transport.initial
    transfer := Transfer.initial
    linkT := LinkIf.atStart startMaskT rail
    linkP := LinkIf.atStart startMaskP rail
    panel := PanelIf.initial
    pending := s.pending }

/-- Main power is lost: main-domain state is gone and the retention domain holds (R200). What is gone stands at its start
value until the next power-on (assumption 27). -/
def State.losePower (s : State) : State :=
  { s with
    system := { s.system with mainOn := false, restart := none }
    scanner := s.scanner.atStart true
    strokes := s.strokes.atStart true
    pedals := s.pedals.atStart true
    router := Router.initial
    tone := Tone.initial
    rail := { Rail.initial with count := s.rail.count, learned := s.rail.learned, resting := s.rail.resting,
                                disturbed := s.rail.disturbed }
    audio := Audio.initial
    store := s.store.clearMarks
    transport := Transport.initial
    transfer := Transfer.initial
    linkT := LinkIf.initial startMaskT
    linkP := LinkIf.initial startMaskP
    panel := PanelIf.initial }

/-- The standby supply is lost: the retention marker becomes invalid (R200). -/
def State.loseStandby (s : State) : State := { s with system := { s.system with marker := false } }

/-- A change of an end switch seen on the standby supply while main power is off sets the DISTURBED latch (R109). -/
def State.standbySwitch (s : State) : State :=
  if s.system.mainOn = false ∧ s.system.marker = true then s.modRail (fun r => { r with disturbed := true }) else s

end Sys2Proof.Machine
end

