-- ==== Sys2Proof/Machine/EventOps.lean ====
section
/-! DEFINITION. What each event of the part leads to, with the test that the event has come about: a timer that is stopped or not
due leaves everything but the time base as it was (assumption 11). -/

namespace Sys2Proof.Machine

open Sys2Proof

/-- An event at a moment of the time base, taken while main power is on. -/
def State.event (now : Time) (f : State → State) (s : State) : State := s.whileOn (fun s => f { s with now := now })

/-- A command that leads to a next state. -/
def proceed (s : State) : Host.Outcome State Fault Refusal := .next s

/-- An event whose operands must be well-formed (assumption 4). -/
def proceedIf (ok : Bool) (s : State) : Host.Outcome State Fault Refusal := if ok then .next s else .refused .illFormed

/-! ### Captures -/

/-- The rest capture has its samples (R15). -/
def State.onRestComplete (s : State) : State :=
  match s.scanner.capture with
  | some (.rest accepted tallies) => if restCollected s.now accepted tallies then s.completeRest tallies else s
  | some (.bottom _ _ _ _) => s
  | none => s

/-- The first sample of the captured key after the window (R16). -/
def State.onBottomComplete (raw : Nat) (s : State) : State :=
  match s.scanner.capture with
  | some (.bottom accepted key _ _) =>
    if Config.bottomWindowMicros ≤ elapsed s.now accepted then s.sampleKey key raw else s
  | some (.rest _ _) => s
  | none => s

/-! ### Tone Stream -/

/-- The age condition sets the latch in BURST mode (R79, R80). -/
def State.onAge (s : State) : State :=
  if s.tone.mode = .burst ∧ s.tone.headAged s.now = true then { s with tone := { s.tone with latch := true } } else s

/-! ### Rail -/

/-- The quiet timer has expired (R89). -/
def State.onQuietWait (s : State) : State :=
  match s.rail.quietTimer with
  | some t => if reached s.now t then s.abandonWait else s
  | none => s

/-- The end of a phase has come for a run in that phase. -/
def Run.phaseOver (x : Run) (phase : Phase) (now : Time) : Bool := decide (x.phase = phase) && reached now x.phaseEnd

/-- The run record is replaced. -/
def State.setRun (x : Run) (s : State) : State := s.modRail (fun r => { r with run := some x })

/-- The kick has ended (R91). -/
def State.onKickEnd (s : State) : State :=
  match s.rail.run with
  | some x => if x.phaseOver .kick s.now then s.setRun (x.beginRamp s.now) else s
  | none => s

/-- A duty step is due (R91). -/
def State.onDutyStep (s : State) : State :=
  match s.rail.run with
  | some x =>
    if x.phase = .ramp ∧ reached s.now x.nextStep = true then s.modRail (fun r => r.dutyStep s.now x) else s
  | none => s

/-- The stall timer has expired (R97). -/
def State.onStallTimer (s : State) : State :=
  match s.rail.run with
  | some x => if x.stallTimer.any (reached s.now) then s.stallExpired x else s
  | none => s

/-- The retry dwell has ended: KICK again, of the same run (R97). -/
def State.onRetryDwell (s : State) : State :=
  match s.rail.run with
  | some x => if x.phaseOver .retryDwell s.now then s.setRun (x.beginKick s.now) else s
  | none => s

/-- The reversal dwell has ended: a fresh run, which arrives at once when the target end's switch is active (R90, R93). -/
def State.onReversalDwell (s : State) : State :=
  match s.rail.run, s.rail.target with
  | some x, some target =>
    if x.phaseOver .reversalDwell s.now then
      let s := s.modRail (Rail.freshAfterReversal s.now)
      if s.rail.switchOf target then s.railArrive target else s
    else s
  | _, _ => s

/-- The move timer has expired (R98). -/
def State.onMoveTimer (s : State) : State :=
  match s.rail.run with
  | some x => if reached s.now x.moveTimer then s.failRun .timeout else s
  | none => s

/-- The park path of a fallboard close (R104). -/
def State.park (s : State) : State := if s.rail.profile.park then (s.moveRequest .retract).1 else s

/-- A taken fallboard close: the Scanner, the Transport, the park path and the notice (R103; the order is assumption 15). -/
def State.onFallboardClose (s : State) : State :=
  if s.rail.fallboardClosed then s
  else
    let s := (s.modRail (fun r => { r with fallboardClosed := true })).suspendAll
    let s := if s.transport.state.records then s.endRecording .fallboard s.now else s
    s.park.post .fallboard

/-- A taken fallboard open (R103). -/
def State.onFallboardOpen (s : State) : State :=
  if s.rail.fallboardClosed then (s.modRail (fun r => { r with fallboardClosed := false })).post .fallboard else s

/-! ### Audio -/

/-- The conditioned level of a jack. -/
def Audio.jackLevel (a : Audio) : Jack → Bool
  | .jack1 => a.jack1
  | .jack2 => a.jack2

def Audio.setJack (j : Jack) (inserted : Bool) (a : Audio) : Audio :=
  match j with
  | .jack1 => { a with jack1 := inserted }
  | .jack2 => { a with jack2 := inserted }

/-- A taken change of a jack (R119). -/
def State.onJack (j : Jack) (inserted : Bool) (s : State) : State :=
  if s.audio.jackLevel j = inserted then s
  else (s.modAudio (fun a => (a.setJack j inserted).judgeJacks)).post .jack

/-- An output frame, in its six steps (R115). -/
def State.onOutputFrame (s : State) : State :=
  let r := s.audio.rampStep.takeFrame
  let s := { s with audio := r.1.sendFrame r.2.1 }
  if r.2.2 then s.post .audioUnderrun else s

/-- The click has sounded its 20 ms (R121). -/
def Audio.endClick (a : Audio) : Audio :=
  match a.click with
  | some c => if a.rate.clickFrames ≤ c.index then { a with click := none } else a
  | none => a

/-- The alert segment has sounded its 500 ms, and the next begins at the other frequency (R122). -/
def Audio.nextSegment (a : Audio) : Audio :=
  match a.alert with
  | some t => if a.rate.alertFrames ≤ t.index then { a with alert := some { high := !t.high, index := 0 } } else a
  | none => a

/-- The beat clock's own beat, and the next beat time one interval after this one (R124). -/
def State.clockBeat (due : Time) (pos : BeatPos) (s : State) : State :=
  let s := s.beat (pos.next s.audio.beatsPerBar)
  s.modAudio (fun a => { a with nextBeat := some (due.after a.beatInterval) })

/-- The time base has reached the next beat time (R124, R125, R154). The entry and the next beat time come before the BEAT record,
which may end the recording at the reserve line (DESIGN CHOICE, assumption 42). -/
def State.onBeatTime (s : State) : State :=
  match s.audio.nextBeat, s.audio.counter with
  | some due, some pos =>
    if reached s.now due then
      let s' := s.clockBeat due pos
      if s.audio.clock = .recording then s'.recordBeat (pos.next s.audio.beatsPerBar) else s'
    else s
  | _, _ => s

/-! ### Recording and playback -/

/-- The take position has reached the GAP expiry (R136). -/
def RecordingContext.gapDue (c : RecordingContext) (now : Time) : Bool :=
  c.started && decide (c.gapPosition ≤ (c.reckon now).1)

/-- A GAP expiry (R136). -/
def State.onGap (s : State) : State :=
  match s.store.recording with
  | some c => if c.gapDue s.now then s.recordWith Store.writeGap else s
  | none => s

/-- The duration limit as a position in µs (R136). -/
def limitPosition : Nat := Config.maxTakeMs * 1000

/-- Take time has reached the duration limit: the recording closes at that moment (R136, R155). -/
def State.onLimit (s : State) : State :=
  match s.store.recording with
  | some c =>
    if c.started ∧ limitPosition ≤ (c.reckon s.now).1 then s.endRecording .limit (c.stampAt limitPosition) else s
  | none => s

/-- The scan has reached the landing record (R164). -/
def State.onSeek (s : State) : State :=
  match s.transport.state, s.transport.seek with
  | .seeking, some k =>
    if scanMicros (landing s.takeTimes k.target) ≤ elapsed s.now k.began then s.completeSeek k else s
  | _, _ => s

/-- A wait that has expired (R158). -/
def Wait.over (w : Wait) (now : Time) : Bool := reached now w.expiry

/-- A wait toward a record expires and the record at the cursor is delivered (R158, R159). -/
def State.onDelivery (s : State) : State :=
  match s.transport.state, s.transport.wait, s.takeRecords[s.transport.cursor]? with
  | .playing, some w, some r =>
    if w.over s.now && !w.towardB then s.deliver s.transport.cursor r w else s
  | _, _, _ => s

/-- A wait toward B expires (R167). -/
def State.onLoopJump (s : State) : State :=
  match s.transport.state, s.transport.wait, s.transport.loop with
  | .playing, some w, some l => if w.over s.now && w.towardB then s.loopJump l else s
  | _, _, _ => s

/-- The waiting count rises by one, saturating (R170). -/
def State.onWaitingMs (s : State) : State :=
  if s.transport.state = .waiting then
    s.modTransport (fun t => { t with waitingCount := t.waitingCount.map (satInc Config.maxCount32) })
  else s

/-! ### Transfers -/

/-- The export idle timer has expired (R185). -/
def State.onExportIdle (s : State) : State :=
  match s.transfer.exporting with
  | some x => if reached s.now x.idle then s.endExport x .timeout else s
  | none => s

/-- The import idle timer has expired (R189). -/
def State.onImportIdle (s : State) : State :=
  match s.transfer.importing with
  | some x => if reached s.now x.idle then s.failTransfer x .timeout else s
  | none => s

/-! ### Starts -/

/-- A power-on: warm with a valid retention marker, cold otherwise (R200). -/
def State.powerOn (now : Time) (pins : Pins) (s : State) : State := s.start s.system.marker .powerOn now pins

/-- The reply to the arranged RESTART stands READY on a link. -/
def LinkIf.holdsRestart (l : LinkIf) : Bool :=
  match l.buffer with
  | .ready r => r.arms
  | .empty => false
  | .handling _ _ => false

/-- The reply to RESTART has been read to its last byte, by a read of its own or by this event (R200). -/
def State.onRestartRead (pins : Pins) (s : State) : State :=
  match s.system.restart with
  | some r => if r.replyRead || (s.link r.link).holdsRestart then s.start true .restart s.now pins else s
  | none => s

/-- A link's RESTART that still waits for its judgement: in HANDLING, or held behind the request that is (R190). -/
def LinkIf.awaitsRestart (l : LinkIf) : Bool :=
  match l.buffer, l.held with
  | .handling kind _, none => decide (kind = .restart)
  | .handling kind _, some (next, _) => decide (kind = .restart) || decide (next = .restart)
  | .empty, _ => false
  | .ready _, _ => false

/-- A RESTART waits on a link, and none is arranged yet. -/
def State.awaitsRestart (l : Link) (s : State) : Bool := s.system.restart.isNone && (s.link l).awaitsRestart

/-- A RESTART that waits on a link is judged, and the request ahead of it first; `deferred` no longer holds it back by the time of
its warm start (R190, R200; assumption 3). -/
def State.settleRestart (l : Link) (s : State) : State :=
  let s := if s.awaitsRestart l then s.settle l else s
  if s.awaitsRestart l then s.settle l else s

/-- 100 ms have passed since an arranged RESTART with no read of its reply ended (R200). -/
def State.restartDue (s : State) : Bool :=
  match s.system.restart with
  | some r => !r.replyRead && decide (Config.restartMicros ≤ elapsed s.now r.requested)
  | none => false

/-- The warm start 100 ms after a RESTART, whose judgement has come by then on the link that sent it (R200). -/
def State.onRestartTimeout (pins : Pins) (s : State) : State :=
  let t := s.settleRestart .t
  let p := s.settleRestart .p
  if t.restartDue then t.start true .restart t.now pins
  else if p.restartDue then p.start true .restart p.now pins
  else s

end Sys2Proof.Machine
end

