-- ==== Sys2Proof/Machine/Headphones.lean ====
section
/-! DEFINITION. The meanings of the commands of Headphone Output and Metronome (R112 to R128). -/

namespace Sys2Proof.Machine

open Sys2Proof

/-- JACK_CHANGE (R119). A conditioned change of a jack detect input updates the jack state and JACK_OUT and posts JACK. -/
def execJackChange (now : Time) (jack : Jack) (inserted : Bool) (s : State) : Host.Outcome State Fault Refusal :=
  proceed (s.event now (State.onJack jack inserted))

/-- INPUT_FRAME (R113). An audio input frame joins the Audio FIFO, or is dropped and counted in OVERRUNS when the FIFO is
full. -/
def execInputFrame (now : Time) (left right : Sample24) (s : State) : Host.Outcome State Fault Refusal :=
  proceed (s.event now (State.modAudio (Audio.arrive { left := left, right := right })))

/-- OUTPUT_FRAME (R115). An output frame steps the gain ramp, takes a tone frame, scales it, adds click and alert,
saturates and sends the result. -/
def execOutputFrame (now : Time) (s : State) : Host.Outcome State Fault Refusal :=
  proceed (s.event now State.onOutputFrame)

/-- CLICK_END (R121). 20 ms after it began, the click generator becomes idle. -/
def execClickEnd (now : Time) (s : State) : Host.Outcome State Fault Refusal :=
  proceed (s.event now (State.modAudio Audio.endClick))

/-- ALERT_SEGMENT_END (R122). After 500 ms of a segment, the alert tone begins the next segment at the other frequency. -/
def execAlertSegmentEnd (now : Time) (s : State) : Host.Outcome State Fault Refusal :=
  proceed (s.event now (State.modAudio Audio.nextSegment))

/-- NEXT_BEAT_TIME (R124). In FREE or RECORDING, the time base reaching the next beat time makes a beat and sets the next
beat time one interval later. -/
def execNextBeatTime (now : Time) (s : State) : Host.Outcome State Fault Refusal :=
  proceed (s.event now State.onBeatTime)

/-- AUDIO_SETUP (R112). Sets the rate, volume, refill level, ramp interval and HP_IN_ACOUSTIC. -/
def execAudioSetup (frame : Frame) (s : State) : Host.Outcome State Fault Refusal :=
  proceed (takeRequest .audioSetup frame s)

/-- AUDIO_MUTE (R120). Sets or clears PANEL_MUTE in the mute-reason set. -/
def execAudioMute (frame : Frame) (s : State) : Host.Outcome State Fault Refusal :=
  proceed (takeRequest .audioMute frame s)

/-- METRO_SET (R126). Sets the tempo, beats per bar, click level and beat copy. -/
def execMetroSet (frame : Frame) (s : State) : Host.Outcome State Fault Refusal :=
  proceed (takeRequest .metroSet frame s)

/-- METRO_RUN (R127). Turns the free metronome on or off. -/
def execMetroRun (frame : Frame) (s : State) : Host.Outcome State Fault Refusal :=
  proceed (takeRequest .metroRun frame s)

/-- AUDIO_REPORT (R128). Reports the Audio Stage state, clearing its counters on request. -/
def execAudioReport (frame : Frame) (s : State) : Host.Outcome State Fault Refusal :=
  proceed (takeRequest .audioReport frame s)

end Sys2Proof.Machine
end

