-- ==== Sys2Proof/Machine/Keys.lean ====
section
/-! DEFINITION. The meanings of the commands of Key Sensing and Calibration and of Strike Timing and Velocity (R1 to R43).
-/

namespace Sys2Proof.Machine

open Sys2Proof

/-- KEY_SAMPLE (R1). A raw reading of one key arrives with its time-base stamp and is handled according to the key's state.
-/
def execKeySample (now : Time) (key raw : Nat) (s : State) : Host.Outcome State Fault Refusal :=
  proceedIf (isKey key && isRaw raw) (s.event now (State.sampleKey key raw))

/-- CAL_WRITE (R12). Replaces the calibration record of one key or pedal and resets the state of that key or pedal. -/
def execCalWrite (frame : Frame) (s : State) : Host.Outcome State Fault Refusal :=
  proceed (takeRequest .calWrite frame s)

/-- CAL_READ (R13). Returns the current calibration record of one key or pedal. -/
def execCalRead (frame : Frame) (s : State) : Host.Outcome State Fault Refusal :=
  proceed (takeRequest .calRead frame s)

/-- CAL_CAPTURE_REST (R14). Starts a rest capture of every key that is not in FAULT. -/
def execCalCaptureRest (frame : Frame) (s : State) : Host.Outcome State Fault Refusal :=
  proceed (takeRequest .calCaptureRest frame s)

/-- REST_CAPTURE_COMPLETE (R15). 64 sample periods after acceptance, the rest capture writes the new rest raw values, moves
its keys out of CAPTURE and posts CAL_DONE. -/
def execRestCaptureComplete (now : Time) (s : State) : Host.Outcome State Fault Refusal :=
  proceed (s.event now State.onRestComplete)

/-- CAL_CAPTURE_BOTTOM (R16). Starts a 2 s bottom capture of one key. -/
def execCalCaptureBottom (frame : Frame) (s : State) : Host.Outcome State Fault Refusal :=
  proceed (takeRequest .calCaptureBottom frame s)

/-- BOTTOM_CAPTURE_COMPLETE (R16). The first sample after the 2 s window completes the bottom capture, writes bottom raw if
the span is at least 64, and posts CAL_DONE. -/
def execBottomCaptureComplete (now : Time) (raw : Nat) (s : State) : Host.Outcome State Fault Refusal :=
  proceedIf (isRaw raw) (s.event now (State.onBottomComplete raw))

/-- KEY_WATCH (R19). Selects the key whose raw signal is collected for the Panel Stream, or turns the watch off. -/
def execKeyWatch (frame : Frame) (s : State) : Host.Outcome State Fault Refusal :=
  proceed (takeRequest .keyWatch frame s)

/-- KEY_REPORT (R21). Reports the state, record, history and counters of one key, clearing the counters on request. -/
def execKeyReport (frame : Frame) (s : State) : Host.Outcome State Fault Refusal :=
  proceed (takeRequest .keyReport frame s)

/-- KEY_LINES (R25). Reads the key lines, or replaces the current key line set so that keys in a stroke keep the previous
set. -/
def execKeyLines (frame : Frame) (s : State) : Host.Outcome State Fault Refusal :=
  proceed (takeRequest .keyLines frame s)

/-- CURVE_WRITE (R40). Replaces one velocity curve slot whole. -/
def execCurveWrite (frame : Frame) (s : State) : Host.Outcome State Fault Refusal :=
  proceed (takeRequest .curveWrite frame s)

/-- CURVE_SELECT (R41). Selects the active velocity curve slot. -/
def execCurveSelect (frame : Frame) (s : State) : Host.Outcome State Fault Refusal :=
  proceed (takeRequest .curveSelect frame s)

/-- CURVE_READ (R42). Returns a curve slot, the active slot and the slow limit. -/
def execCurveRead (frame : Frame) (s : State) : Host.Outcome State Fault Refusal :=
  proceed (takeRequest .curveRead frame s)

/-- STROKE_SLOW_LIMIT (R43). Sets the slow limit, clamped into 100..2000 ms. -/
def execStrokeSlowLimit (frame : Frame) (s : State) : Host.Outcome State Fault Refusal :=
  proceed (takeRequest .strokeSlowLimit frame s)

end Sys2Proof.Machine
end

