-- ==== Sys2Proof/Machine/Links.lean ====
section
/-! DEFINITION. The meanings of the commands of Links, Requests and Status, and the starts (R190 to R201). -/

namespace Sys2Proof.Machine

open Sys2Proof

/-- IDENTIFY (R199). Returns the vendor, the part, the revision, the retention state and the last start cause. -/
def execIdentify (frame : Frame) (s : State) : Host.Outcome State Fault Refusal :=
  proceed (takeRequest .identify frame s)

/-- LINK_REPORT (R199). Reports the sending link's counters, pointer and pending kinds, clearing the counters on request.
-/
def execLinkReport (frame : Frame) (s : State) : Host.Outcome State Fault Refusal :=
  proceed (takeRequest .linkReport frame s)

/-- STATUS_MASK (R196). Sets the sending link's subscription mask, always including START. -/
def execStatusMask (frame : Frame) (s : State) : Host.Outcome State Fault Refusal :=
  proceed (takeRequest .statusMask frame s)

/-- RESTART (R200). Answers OK and arranges a warm start after the reply is read. -/
def execRestart (frame : Frame) (s : State) : Host.Outcome State Fault Refusal :=
  proceed (takeRequest .restart frame s)

/-- RESTART_WARM_START (R200). The reply to RESTART being read to its last byte makes the warm start. -/
def execRestartWarmStart (now : Time) (pins : Pins) (s : State) : Host.Outcome State Fault Refusal :=
  proceed (s.event now (State.onRestartRead pins))

/-- RESTART_TIMEOUT (R200). 100 ms after RESTART with no read of its reply ended, the warm start is made. -/
def execRestartTimeout (now : Time) (pins : Pins) (s : State) : Host.Outcome State Fault Refusal :=
  proceed (s.event now (State.onRestartTimeout pins))

/-- UNKNOWN (R191). A request frame of unknown kind is answered UNKNOWN and counted in MALFORMED. -/
def execUnknown (kind : Byte) (frame : Frame) (s : State) : Host.Outcome State Fault Refusal :=
  proceedIf (decide (kind.toNat ∉ requestCodes)) (s.whileOn (State.takeFrame .unknown kind.toNat frame))

/-- BAD_SELECTOR (R192). A Link T exchange whose selector names no exchange is ignored and counted in MALFORMED. -/
def execBadSelector (now : Time) (s : State) : Host.Outcome State Fault Refusal :=
  proceed (s.event now (fun s => (s.beginExchange .t).countMalformed .t))

/-- REPLY_READ (R190). A REPLY read shifts out the reply or a marker; a read to the last byte empties the buffer. -/
def execReplyRead (now : Time) (link : Addressed Link) (toEnd judged : Bool) (s : State) : Host.Outcome State Fault Refusal :=
  proceed (s.event now (State.addressed link.payload link.address (State.readReply link.payload toEnd judged)))

/-- REPLY_STRETCH_TIMEOUT (R193). On Link P, 1 ms of clock stretch without a reply placed ends the stretch and returns
NOT_READY. -/
def execReplyStretchTimeout (now : Time) (s : State) : Host.Outcome State Fault Refusal :=
  proceed (s.event now State.endStretch)

/-- POINTER_WRITE (R193). A one-byte write on Link P sets the channel pointer, or counts MALFORMED for an unknown value. -/
def execPointerWrite (now : Time) (value : Addressed Byte) (s : State) : Host.Outcome State Fault Refusal :=
  proceed (s.event now (State.addressed .p value.address (fun s => (s.beginExchange .p).writePointer value.payload.toNat)))

/-- STATUS_READ (R195). A status read takes every pending kind off the board at its first byte and returns each with its
current snapshot. -/
def execStatusRead (now : Time) (link : Addressed Link) (s : State) : Host.Outcome State Fault Refusal :=
  proceed (s.event now (State.addressed link.payload link.address (State.readStatus link.payload)))

/-- STATUS_READ_ABANDON (R195). A status read ending before its last byte puts its kinds back on the board. -/
def execStatusReadAbandon (now : Time) (link : Link) (s : State) : Host.Outcome State Fault Refusal :=
  proceed (s.event now (State.abandonStatus link))

/-- STREAM_READ (R197). A Panel Stream read returns the entry count and then whole entries, removing each entry when its
last byte is read. -/
def execStreamRead (now : Time) (bytes : Addressed Nat) (s : State) : Host.Outcome State Fault Refusal :=
  proceed (s.event now (State.addressed .p bytes.address (State.readStream bytes.payload)))

/-- POWER_ON (R200). A power-on makes a cold start if the retention marker is invalid, and a warm start otherwise. -/
def execPowerOn (now : Time) (pins : Pins) (s : State) : Host.Outcome State Fault Refusal :=
  proceed (s.powerOn now pins)

/-- RESET_PIN (R200). Assertion of the RESET pin makes a warm start. -/
def execResetPin (now : Time) (pins : Pins) (s : State) : Host.Outcome State Fault Refusal :=
  proceed (s.event now (fun s => s.start true .resetPin now pins))

/-- MAIN_POWER_LOSS (R200). Main power is lost: main-domain state is gone, the retention domain runs from the standby
supply, encoder pulses are no longer counted, and end-switch changes now set DISTURBED. -/
def execMainPowerLoss (s : State) : Host.Outcome State Fault Refusal :=
  proceed s.losePower

/-- STANDBY_SUPPLY_LOSS (R200). Loss of the standby supply invalidates the retention marker, so the next power-on is a cold
start. -/
def execStandbySupplyLoss (s : State) : Host.Outcome State Fault Refusal :=
  proceed s.loseStandby

end Sys2Proof.Machine
end

