-- ==== Sys2Proof/Machine/Notes.lean ====
section
/-! DEFINITION. The meanings of the commands of Pedals, Sostenuto and the Sounding Table and of The Tone Stream (R46 to
R82). -/

namespace Sys2Proof.Machine

open Sys2Proof

/-- PEDAL_SAMPLE (R46). A raw reading of one pedal arrives and is handled according to the pedal's state. -/
def execPedalSample (now : Time) (pedal : PedalId) (raw : Nat) (s : State) : Host.Outcome State Fault Refusal :=
  proceedIf (isRaw raw) (s.event now (State.samplePedal pedal raw))

/-- NOTE_COPY (R67). Sets the monitor copy of note entries to off, all keys or a key range. -/
def execNoteCopy (frame : Frame) (s : State) : Host.Outcome State Fault Refusal :=
  proceed (takeRequest .noteCopy frame s)

/-- SOUNDING_REPORT (R66). Reports the Sounding Table, the Sostenuto Set, the effective pedals and the Router counters,
clearing the counters on request. -/
def execSoundingReport (frame : Frame) (s : State) : Host.Outcome State Fault Refusal :=
  proceed (takeRequest .soundingReport frame s)

/-- ALL_NOTES_OFF (R65). Silences every key, empties the Sostenuto Set and offers an ALL_OFF entry. -/
def execAllNotesOff (frame : Frame) (s : State) : Host.Outcome State Fault Refusal :=
  proceed (takeRequest .allNotesOff frame s)

/-- TONE_STREAM_SETUP (R81). Sets the ready mode and trigger level, judges READY_T afresh, and clears RESYNCS on request.
-/
def execToneStreamSetup (frame : Frame) (s : State) : Host.Outcome State Fault Refusal :=
  proceed (takeRequest .toneStreamSetup frame s)

/-- FLUSH_TONE (R82). Empties the Tone Queue, places a RESYNC and clears every announced mark. -/
def execFlushTone (frame : Frame) (s : State) : Host.Outcome State Fault Refusal :=
  proceed (takeRequest .flushTone frame s)

/-- DRAIN (R75). A DRAIN exchange on Link T sends the occupancy count byte and then runs drain slots. -/
def execDrain (now : Time) (s : State) : Host.Outcome State Fault Refusal :=
  proceed (s.event now State.beginDrain)

/-- DRAIN_SLOT_START (R75). At a slot's first byte, a copy of the head entry is latched, or a NONE filler is sent when the
queue is empty. -/
def execDrainSlotStart (now : Time) (s : State) : Host.Outcome State Fault Refusal :=
  proceed (s.event now State.startSlot)

/-- DRAIN_SLOT_COMPLETE (R75). The eighth byte of a slot holding an entry completes it, and the head entry is removed
unless the copy is stale. -/
def execDrainSlotComplete (now : Time) (s : State) : Host.Outcome State Fault Refusal :=
  proceed (s.event now State.completeSlot)

/-- DRAIN_SLOT_ABANDON (R77). Chip select ending before a slot's eighth byte abandons the slot, and nothing is removed. -/
def execDrainSlotAbandon (now : Time) (s : State) : Host.Outcome State Fault Refusal :=
  proceed (s.event now State.abandonSlot)

/-- AGE_CONDITION (R80). In BURST mode, the head entry reaching 2,000 µs of age sets the READY_T latch. -/
def execAgeCondition (now : Time) (s : State) : Host.Outcome State Fault Refusal :=
  proceed (s.event now State.onAge)

end Sys2Proof.Machine
end

