-- ==== Sys2Proof/Machine/Railway.lean ====
section
/-! DEFINITION. The meanings of the commands of Hammer-Stop Rail (R84 to R109). -/

namespace Sys2Proof.Machine

open Sys2Proof

/-- RAIL_ENGAGE (R88). Requests a move of the rail toward the engaged end, judged in the rail's state. -/
def execRailEngage (frame : Frame) (s : State) : Host.Outcome State Fault Refusal :=
  proceed (takeRequest .railEngage frame s)

/-- RAIL_RETRACT (R88). Requests a move of the rail toward the retracted end, judged in the rail's state. -/
def execRailRetract (frame : Frame) (s : State) : Host.Outcome State Fault Refusal :=
  proceed (takeRequest .railRetract frame s)

/-- QUIET_WAIT_EXPIRY (R89). The quiet timer expiring returns the rail to its prior state with last move result ABANDONED.
-/
def execQuietWaitExpiry (now : Time) (s : State) : Host.Outcome State Fault Refusal :=
  proceed (s.event now State.onQuietWait)

/-- KICK_END (R91). The kick time ending moves the run to RAMP and starts the stall timer. -/
def execKickEnd (now : Time) (s : State) : Host.Outcome State Fault Refusal :=
  proceed (s.event now State.onKickEnd)

/-- DUTY_STEP (R91). Each duty step time in RAMP moves the duty one step toward the phase target. -/
def execDutyStep (now : Time) (s : State) : Host.Outcome State Fault Refusal :=
  proceed (s.event now State.onDutyStep)

/-- STALL_TIMER_EXPIRY (R97). The stall timer expiring cuts the duty and starts a retry dwell, or fails the run with STALL
when the retries are used up. -/
def execStallTimerExpiry (now : Time) (s : State) : Host.Outcome State Fault Refusal :=
  proceed (s.event now State.onStallTimer)

/-- RETRY_DWELL_END (R97). The 200 ms retry dwell ending starts a fresh kick of the same run. -/
def execRetryDwellEnd (now : Time) (s : State) : Host.Outcome State Fault Refusal :=
  proceed (s.event now State.onRetryDwell)

/-- REVERSAL_DWELL_END (R93). The 50 ms reversal dwell ending starts a fresh run toward the new target. -/
def execReversalDwellEnd (now : Time) (s : State) : Host.Outcome State Fault Refusal :=
  proceed (s.event now State.onReversalDwell)

/-- MOVE_TIMEOUT (R98). The move timer expiring fails the run with TIMEOUT. -/
def execMoveTimeout (now : Time) (s : State) : Host.Outcome State Fault Refusal :=
  proceed (s.event now State.onMoveTimer)

/-- ENCODER_PULSE (R85). An encoder pulse moves the position count and, during a run, restarts the stall timer and is
judged by the no-switch check. -/
def execEncoderPulse (now : Time) (direction : Direction) (s : State) : Host.Outcome State Fault Refusal :=
  proceed (s.event now (State.railPulse direction))

/-- END_SWITCH_CHANGE (R86). A conditioned change of an end switch updates the position count and the rail state. -/
def execEndSwitchChange (now : Time) (switch : EndSwitch) (active : Bool) (s : State) : Host.Outcome State Fault Refusal :=
  proceed (s.event now (State.railSwitch switch active))

/-- CURRENT_SAMPLE (R99). A motor current sample taken every 1 ms while the duty is above 0 is judged for overcurrent and
for the current alert. -/
def execCurrentSample (now : Time) (milliamps : Nat) (s : State) : Host.Outcome State Fault Refusal :=
  proceedIf (isCurrent milliamps) (s.event now (State.railCurrent milliamps))

/-- RAIL_PROFILE (R87). Sets the rail profile settings, clamped, with the hysteresis and trip limit corrected. -/
def execRailProfile (frame : Frame) (s : State) : Host.Outcome State Fault Refusal :=
  proceed (takeRequest .railProfile frame s)

/-- RAIL_STATUS (R108). Reports the whole rail record, clearing STALLS on request. -/
def execRailStatus (frame : Frame) (s : State) : Host.Outcome State Fault Refusal :=
  proceed (takeRequest .railStatus frame s)

/-- RAIL_ACK (R106). Clears the alert requested mark, ending the alert tone. -/
def execRailAck (frame : Frame) (s : State) : Host.Outcome State Fault Refusal :=
  proceed (takeRequest .railAck frame s)

/-- RAIL_CLEAR_DISTURBED (R109). Clears the DISTURBED latch and returns its value before the request. -/
def execRailClearDisturbed (frame : Frame) (s : State) : Host.Outcome State Fault Refusal :=
  proceed (takeRequest .railClearDisturbed frame s)

/-- STANDBY_SWITCH_CHANGE (R109). A change of either end switch seen on the standby supply while main power is off sets the
DISTURBED latch. -/
def execStandbySwitchChange (_switch : EndSwitch) (_active : Bool) (s : State) : Host.Outcome State Fault Refusal :=
  proceed s.standbySwitch

/-- FALLBOARD_CLOSE (R103). A conditioned fallboard close suspends the keys, abandons a capture, closes a recording, makes
the park request and posts FALLBOARD. -/
def execFallboardClose (now : Time) (s : State) : Host.Outcome State Fault Refusal :=
  proceed (s.event now State.onFallboardClose)

/-- FALLBOARD_OPEN (R103). A conditioned fallboard open lets the SUSPENDED keys return to REST and posts FALLBOARD. -/
def execFallboardOpen (now : Time) (s : State) : Host.Outcome State Fault Refusal :=
  proceed (s.event now State.onFallboardOpen)

end Sys2Proof.Machine
end

