-- ==== Sys2Proof/Machine/Takes.lean ====
section
/-! DEFINITION. The meanings of the commands of Take Memory, Recording and Playback and Wait-Mode Practice (R136 to R179).
-/

namespace Sys2Proof.Machine

open Sys2Proof

/-- TAKE_LIST (R144). Lists one Take Directory entry or all sixteen. -/
def execTakeList (frame : Frame) (s : State) : Host.Outcome State Fault Refusal :=
  proceed (takeRequest .takeList frame s)

/-- TAKE_DELETE (R145). Releases a CLOSED take's chain to the Free List and empties its directory entry. -/
def execTakeDelete (frame : Frame) (s : State) : Host.Outcome State Fault Refusal :=
  proceed (takeRequest .takeDelete frame s)

/-- TAKE_NAME (R146). Sets or removes the name of a take. -/
def execTakeName (frame : Frame) (s : State) : Host.Outcome State Fault Refusal :=
  proceed (takeRequest .takeName frame s)

/-- MEMORY_REPORT (R147). Reports the free blocks, the reserve held and the Free List head. -/
def execMemoryReport (frame : Frame) (s : State) : Host.Outcome State Fault Refusal :=
  proceed (takeRequest .memoryReport frame s)

/-- GAP_EXPIRY (R136). 4095 ms of take time after the last record, a GAP record is written. -/
def execGapExpiry (now : Time) (s : State) : Host.Outcome State Fault Refusal :=
  proceed (s.event now State.onGap)

/-- DURATION_LIMIT (R136). Take time reaching 36,000,000 ms closes the recording with cause LIMIT. -/
def execDurationLimit (now : Time) (s : State) : Host.Outcome State Fault Refusal :=
  proceed (s.event now State.onLimit)

/-- TAKE_RECORD (R152). Opens a take for recording, armed on the first note or started at once. -/
def execTakeRecord (frame : Frame) (s : State) : Host.Outcome State Fault Refusal :=
  proceed (takeRequest .takeRecord frame s)

/-- TAKE_PLAY (R157). Starts playback of a CLOSED take, from record 0 or by seeking to a start position. -/
def execTakePlay (frame : Frame) (s : State) : Host.Outcome State Fault Refusal :=
  proceed (takeRequest .takePlay frame s)

/-- TAKE_STOP (R151). Ends a recording, or stops a playback, as the Transport's state requires. -/
def execTakeStop (frame : Frame) (s : State) : Host.Outcome State Fault Refusal :=
  proceed (takeRequest .takeStop frame s)

/-- TAKE_PAUSE (R161). Halts a playback in PAUSED with its notes forced off and its pedals cleared. -/
def execTakePause (frame : Frame) (s : State) : Host.Outcome State Fault Refusal :=
  proceed (takeRequest .takePause frame s)

/-- TAKE_RESUME (R162). Restates the take pedals and continues playback from the cursor. -/
def execTakeResume (frame : Frame) (s : State) : Host.Outcome State Fault Refusal :=
  proceed (takeRequest .takeResume frame s)

/-- TAKE_SPEED (R160). Sets the playback speed, clamped into 50..150. -/
def execTakeSpeed (frame : Frame) (s : State) : Host.Outcome State Fault Refusal :=
  proceed (takeRequest .takeSpeed frame s)

/-- TAKE_SEEK (R164). Starts a seek to a target position in the take. -/
def execTakeSeek (frame : Frame) (s : State) : Host.Outcome State Fault Refusal :=
  proceed (takeRequest .takeSeek frame s)

/-- SEEK_COMPLETE (R164). The scan reaching the landing record sets the cursor and pedals, and then pauses or continues the
playback. -/
def execSeekComplete (now : Time) (s : State) : Host.Outcome State Fault Refusal :=
  proceed (s.event now State.onSeek)

/-- LOOP_SET (R165). Sets the loop marks and repeats. -/
def execLoopSet (frame : Frame) (s : State) : Host.Outcome State Fault Refusal :=
  proceed (takeRequest .loopSet frame s)

/-- LOOP_CLEAR (R165). Removes the loop and its anchor. -/
def execLoopClear (frame : Frame) (s : State) : Host.Outcome State Fault Refusal :=
  proceed (takeRequest .loopClear frame s)

/-- TRANSPORT_REPORT (R168). Reports the Transport record. -/
def execTransportReport (frame : Frame) (s : State) : Host.Outcome State Fault Refusal :=
  proceed (takeRequest .transportReport frame s)

/-- RECORD_DELIVERY (R159). A wait expiring delivers the record at the cursor and computes the wait for the next record. -/
def execRecordDelivery (now : Time) (s : State) : Host.Outcome State Fault Refusal :=
  proceed (s.event now State.onDelivery)

/-- LOOP_JUMP (R167). A wait toward B expiring forces off the take's notes and returns the take to the anchor, or seeks
toward A. -/
def execLoopJump (now : Time) (s : State) : Host.Outcome State Fault Refusal :=
  proceed (s.event now State.onLoopJump)

/-- PRACTICE_SET (R178). Sets the part mask, wait mode and the chord and lead windows. -/
def execPracticeSet (frame : Frame) (s : State) : Host.Outcome State Fault Refusal :=
  proceed (takeRequest .practiceSet frame s)

/-- WAIT_REPORT (R179). Reports the wait score and wait-mode state, clearing the score on request. -/
def execWaitReport (frame : Frame) (s : State) : Host.Outcome State Fault Refusal :=
  proceed (takeRequest .waitReport frame s)

/-- WAITING_COUNT_RISE (R170). While the Transport is WAITING, the waiting count rises by one each millisecond, saturating.
-/
def execWaitingCountRise (now : Time) (s : State) : Host.Outcome State Fault Refusal :=
  proceed (s.event now State.onWaitingMs)

end Sys2Proof.Machine
end

