-- ==== Sys2Proof/Machine/Transfers.lean ====
section
/-! DEFINITION. The meanings of the commands of Take Transfer (R183 to R189). -/

namespace Sys2Proof.Machine

open Sys2Proof

/-- EXPORT_OPEN (R183). Opens an export of a CLOSED take and sets its exporting mark. -/
def execExportOpen (frame : Frame) (s : State) : Host.Outcome State Fault Refusal :=
  proceed (takeRequest .exportOpen frame s)

/-- EXPORT_READ (R184). Returns up to 64 bytes of the export stream from an offset, folding new data bytes into the export
check. -/
def execExportRead (frame : Frame) (s : State) : Host.Outcome State Fault Refusal :=
  proceed (takeRequest .exportRead frame s)

/-- EXPORT_CLOSE (R185). Ends the open export and posts TRANSFER. -/
def execExportClose (frame : Frame) (s : State) : Host.Outcome State Fault Refusal :=
  proceed (takeRequest .exportClose frame s)

/-- EXPORT_IDLE_EXPIRY (R185). 5 s without an EXPORT_READ ends the export with TIMEOUT. -/
def execExportIdleExpiry (now : Time) (s : State) : Host.Outcome State Fault Refusal :=
  proceed (s.event now State.onExportIdle)

/-- IMPORT_OPEN (R186). Opens an EMPTY take for import with a declared length. -/
def execImportOpen (frame : Frame) (s : State) : Host.Outcome State Fault Refusal :=
  proceed (takeRequest .importOpen frame s)

/-- IMPORT_WRITE (R187). Takes bytes at the expected offset, parsing and writing the header and records and folding them
into the import check. -/
def execImportWrite (frame : Frame) (s : State) : Host.Outcome State Fault Refusal :=
  proceed (takeRequest .importWrite frame s)

/-- IMPORT_CLOSE (R188). Ends the import with its closing checks, succeeding to CLOSED or failing. -/
def execImportClose (frame : Frame) (s : State) : Host.Outcome State Fault Refusal :=
  proceed (takeRequest .importClose frame s)

/-- IMPORT_IDLE_EXPIRY (R189). 5 s without an IMPORT_WRITE ends the import with TIMEOUT. -/
def execImportIdleExpiry (now : Time) (s : State) : Host.Outcome State Fault Refusal :=
  proceed (s.event now State.onImportIdle)

end Sys2Proof.Machine
end

