-- ==== Sys2Proof/Machine/Dispatch.lean ====
section
/-! DEFINITION. The dispatch: one arm per command, each one direct call of its meaning. -/

namespace Sys2Proof.Machine

open Sys2Proof

def exec (i : Instr) (s : State) : Host.Outcome State Fault Refusal :=
  match i with
  | .keySample now key raw => Sys2Proof.Machine.execKeySample now key raw s
  | .pedalSample now pedal raw => Sys2Proof.Machine.execPedalSample now pedal raw s
  | .calWrite frame => Sys2Proof.Machine.execCalWrite frame s
  | .calRead frame => Sys2Proof.Machine.execCalRead frame s
  | .calCaptureRest frame => Sys2Proof.Machine.execCalCaptureRest frame s
  | .restCaptureComplete now => Sys2Proof.Machine.execRestCaptureComplete now s
  | .calCaptureBottom frame => Sys2Proof.Machine.execCalCaptureBottom frame s
  | .bottomCaptureComplete now raw => Sys2Proof.Machine.execBottomCaptureComplete now raw s
  | .keyWatch frame => Sys2Proof.Machine.execKeyWatch frame s
  | .keyReport frame => Sys2Proof.Machine.execKeyReport frame s
  | .keyLines frame => Sys2Proof.Machine.execKeyLines frame s
  | .curveWrite frame => Sys2Proof.Machine.execCurveWrite frame s
  | .curveSelect frame => Sys2Proof.Machine.execCurveSelect frame s
  | .curveRead frame => Sys2Proof.Machine.execCurveRead frame s
  | .strokeSlowLimit frame => Sys2Proof.Machine.execStrokeSlowLimit frame s
  | .noteCopy frame => Sys2Proof.Machine.execNoteCopy frame s
  | .soundingReport frame => Sys2Proof.Machine.execSoundingReport frame s
  | .allNotesOff frame => Sys2Proof.Machine.execAllNotesOff frame s
  | .toneStreamSetup frame => Sys2Proof.Machine.execToneStreamSetup frame s
  | .flushTone frame => Sys2Proof.Machine.execFlushTone frame s
  | .drain now => Sys2Proof.Machine.execDrain now s
  | .drainSlotStart now => Sys2Proof.Machine.execDrainSlotStart now s
  | .drainSlotComplete now => Sys2Proof.Machine.execDrainSlotComplete now s
  | .drainSlotAbandon now => Sys2Proof.Machine.execDrainSlotAbandon now s
  | .ageCondition now => Sys2Proof.Machine.execAgeCondition now s
  | .railEngage frame => Sys2Proof.Machine.execRailEngage frame s
  | .railRetract frame => Sys2Proof.Machine.execRailRetract frame s
  | .quietWaitExpiry now => Sys2Proof.Machine.execQuietWaitExpiry now s
  | .kickEnd now => Sys2Proof.Machine.execKickEnd now s
  | .dutyStep now => Sys2Proof.Machine.execDutyStep now s
  | .stallTimerExpiry now => Sys2Proof.Machine.execStallTimerExpiry now s
  | .retryDwellEnd now => Sys2Proof.Machine.execRetryDwellEnd now s
  | .reversalDwellEnd now => Sys2Proof.Machine.execReversalDwellEnd now s
  | .moveTimeout now => Sys2Proof.Machine.execMoveTimeout now s
  | .encoderPulse now direction => Sys2Proof.Machine.execEncoderPulse now direction s
  | .endSwitchChange now switch active => Sys2Proof.Machine.execEndSwitchChange now switch active s
  | .currentSample now milliamps => Sys2Proof.Machine.execCurrentSample now milliamps s
  | .railProfile frame => Sys2Proof.Machine.execRailProfile frame s
  | .railStatus frame => Sys2Proof.Machine.execRailStatus frame s
  | .railAck frame => Sys2Proof.Machine.execRailAck frame s
  | .railClearDisturbed frame => Sys2Proof.Machine.execRailClearDisturbed frame s
  | .standbySwitchChange switch active => Sys2Proof.Machine.execStandbySwitchChange switch active s
  | .fallboardClose now => Sys2Proof.Machine.execFallboardClose now s
  | .fallboardOpen now => Sys2Proof.Machine.execFallboardOpen now s
  | .jackChange now jack inserted => Sys2Proof.Machine.execJackChange now jack inserted s
  | .inputFrame now left right => Sys2Proof.Machine.execInputFrame now left right s
  | .outputFrame now => Sys2Proof.Machine.execOutputFrame now s
  | .clickEnd now => Sys2Proof.Machine.execClickEnd now s
  | .alertSegmentEnd now => Sys2Proof.Machine.execAlertSegmentEnd now s
  | .nextBeatTime now => Sys2Proof.Machine.execNextBeatTime now s
  | .audioSetup frame => Sys2Proof.Machine.execAudioSetup frame s
  | .audioMute frame => Sys2Proof.Machine.execAudioMute frame s
  | .metroSet frame => Sys2Proof.Machine.execMetroSet frame s
  | .metroRun frame => Sys2Proof.Machine.execMetroRun frame s
  | .audioReport frame => Sys2Proof.Machine.execAudioReport frame s
  | .takeList frame => Sys2Proof.Machine.execTakeList frame s
  | .takeDelete frame => Sys2Proof.Machine.execTakeDelete frame s
  | .takeName frame => Sys2Proof.Machine.execTakeName frame s
  | .memoryReport frame => Sys2Proof.Machine.execMemoryReport frame s
  | .gapExpiry now => Sys2Proof.Machine.execGapExpiry now s
  | .durationLimit now => Sys2Proof.Machine.execDurationLimit now s
  | .takeRecord frame => Sys2Proof.Machine.execTakeRecord frame s
  | .takePlay frame => Sys2Proof.Machine.execTakePlay frame s
  | .takeStop frame => Sys2Proof.Machine.execTakeStop frame s
  | .takePause frame => Sys2Proof.Machine.execTakePause frame s
  | .takeResume frame => Sys2Proof.Machine.execTakeResume frame s
  | .takeSpeed frame => Sys2Proof.Machine.execTakeSpeed frame s
  | .takeSeek frame => Sys2Proof.Machine.execTakeSeek frame s
  | .seekComplete now => Sys2Proof.Machine.execSeekComplete now s
  | .loopSet frame => Sys2Proof.Machine.execLoopSet frame s
  | .loopClear frame => Sys2Proof.Machine.execLoopClear frame s
  | .transportReport frame => Sys2Proof.Machine.execTransportReport frame s
  | .recordDelivery now => Sys2Proof.Machine.execRecordDelivery now s
  | .loopJump now => Sys2Proof.Machine.execLoopJump now s
  | .practiceSet frame => Sys2Proof.Machine.execPracticeSet frame s
  | .waitReport frame => Sys2Proof.Machine.execWaitReport frame s
  | .exportOpen frame => Sys2Proof.Machine.execExportOpen frame s
  | .exportRead frame => Sys2Proof.Machine.execExportRead frame s
  | .exportClose frame => Sys2Proof.Machine.execExportClose frame s
  | .exportIdleExpiry now => Sys2Proof.Machine.execExportIdleExpiry now s
  | .importOpen frame => Sys2Proof.Machine.execImportOpen frame s
  | .importWrite frame => Sys2Proof.Machine.execImportWrite frame s
  | .importClose frame => Sys2Proof.Machine.execImportClose frame s
  | .importIdleExpiry now => Sys2Proof.Machine.execImportIdleExpiry now s
  | .identify frame => Sys2Proof.Machine.execIdentify frame s
  | .linkReport frame => Sys2Proof.Machine.execLinkReport frame s
  | .statusMask frame => Sys2Proof.Machine.execStatusMask frame s
  | .restart frame => Sys2Proof.Machine.execRestart frame s
  | .restartWarmStart now pins => Sys2Proof.Machine.execRestartWarmStart now pins s
  | .restartTimeout now pins => Sys2Proof.Machine.execRestartTimeout now pins s
  | .unknown kind frame => Sys2Proof.Machine.execUnknown kind frame s
  | .badSelector now => Sys2Proof.Machine.execBadSelector now s
  | .replyRead now link toEnd judged => Sys2Proof.Machine.execReplyRead now link toEnd judged s
  | .replyStretchTimeout now => Sys2Proof.Machine.execReplyStretchTimeout now s
  | .pointerWrite now value => Sys2Proof.Machine.execPointerWrite now value s
  | .statusRead now link => Sys2Proof.Machine.execStatusRead now link s
  | .statusReadAbandon now link => Sys2Proof.Machine.execStatusReadAbandon now link s
  | .streamRead now bytes => Sys2Proof.Machine.execStreamRead now bytes s
  | .powerOn now pins => Sys2Proof.Machine.execPowerOn now pins s
  | .resetPin now pins => Sys2Proof.Machine.execResetPin now pins s
  | .waitingCountRise now => Sys2Proof.Machine.execWaitingCountRise now s
  | .mainPowerLoss => Sys2Proof.Machine.execMainPowerLoss s
  | .standbySupplyLoss => Sys2Proof.Machine.execStandbySupplyLoss s

end Sys2Proof.Machine
end

