-- ==== Sys2Proof/Safety.lean ====
section
/-! DEFINITION. What claims about the part are stated in: how a request reaches the part and is answered, and what every state of
a safe run keeps, block by block. -/

namespace Sys2Proof.Machine

open Sys2Proof

/-! ### Requests -/

/-- No earlier request of the link is in HANDLING, so that a further one is taken at once (R190). -/
def State.idleLink (l : Link) (s : State) : Prop := ∀ kind begun, (s.link l).buffer ≠ .handling kind begun

/-- Frame `f` brings parameters `p` to a part that can take them at once: main power on, the transaction for the part's own address
(R193), the link's reply buffer EMPTY or READY (R190), the length byte agreeing with the bytes that follow (R191), and the owning block judging the request before the next
command. -/
def State.canTake (f : Frame) (p : List Byte) (s : State) : Prop :=
  s.system.mainOn = true ∧ s.answers f.link f.address = true ∧ s.idleLink f.link ∧ f.deferred = false ∧ p.length ≤ 255 ∧
    f.body = BitVec.ofNat 8 p.length :: p

/-- A reply that stands READY is lost to a further request, and LOST_REPLIES counts it (R190). -/
def LinkIf.loseReady (l : LinkIf) : LinkIf :=
  match l.buffer with
  | .ready _ => { l with lostReplies := min (l.lostReplies + 1) 255 }
  | .empty => l
  | .handling _ _ => l

/-- The state in which the request of frame `f` is judged: the time base at the end of the transaction, the exchange begun, and a
reply that stood READY counted as lost. -/
def State.received (f : Frame) (s : State) : State :=
  ({ s with now := f.now }.beginExchange f.link).modLink f.link LinkIf.loseReady

/-- A request is answered: its effect is `u` and its reply stands READY in the link's buffer (R190). -/
def answered (f : Frame) (reply : Reply) (u : State) : Host.Outcome State Fault Refusal := .next (u.placeReply f.link reply)

/-- A request refused with a status: nothing else changes, and the reply has no data (R202). -/
def refusedWith (f : Frame) (status : Status) (s : State) : Host.Outcome State Fault Refusal :=
  answered f { status := status, data := .none } (s.received f)

/-- A request answered OK with data. -/
def okFor (f : Frame) (data : ReplyData) (u : State) : Host.Outcome State Fault Refusal :=
  answered f { status := .ok, data := data } u

/-- A request answered ACCEPTED with data. -/
def acceptedFor (f : Frame) (data : ReplyData) (u : State) : Host.Outcome State Fault Refusal :=
  answered f { status := .accepted, data := data } u

/-- The number two bytes spell, most significant byte first (R202). -/
def num2 (a b : Byte) : Nat := a.toNat * 256 + b.toNat

/-- The number three bytes spell (R202). -/
def num3 (a b c : Byte) : Nat := num2 a b * 256 + c.toNat

/-- The number four bytes spell (R202). -/
def num4 (a b c d : Byte) : Nat := num3 a b c * 256 + d.toNat

/-- A notice kind stands pending on each board that subscribes to it (R194). -/
def State.announces (k : NoticeKind) (s : State) : Prop :=
  (hasKind s.linkT.mask k = true → hasKind s.linkT.board k = true) ∧
  (hasKind s.linkP.mask k = true → hasKind s.linkP.board k = true)

/-- Key `k` takes a record, and the previous line set goes when no key names it any longer (R26); nothing else changes. -/
def State.keyBecomes (k : Nat) (key : Key) (s : State) : State :=
  let t := s.setKey k key
  { t with strokes := { t.strokes with previous := if t.onPrevious = 0 then none else t.strokes.previous } }

/-- The live value of a pedal as the Transport is given it: the reported level, and 127 or 0 for SOSTENUTO (R53). -/
def PedalUnit.reported (u : PedalUnit) : PedalId → Nat
  | .damper => u.damper.live
  | .soft => u.soft.live
  | .sostenuto => if u.sostenuto.live then 127 else 0

/-! ### Take memory -/

/-- Take memory stands in its canonical form. -/
def State.memoryCanonical (s : State) : Prop := Memory.wf s.store.memory = true

/-- How many records close a recording (R139): a NOTE_OFF for each open note, a PEDAL for each pedal not at 0, and END. -/
def RecordingContext.closings (c : RecordingContext) : Nat :=
  c.openNotes.length + (if c.levels.damper = 0 then 0 else 1) + (if c.levels.sostenuto then 1 else 0)
    + (if c.levels.soft = 0 then 0 else 1) + 1

/-- The position in a recording that a stamp reckons to; a stamp before the last record's counts as no time passed (R136). -/
def RecordingContext.positionAt (c : RecordingContext) (stamp : Time) : Nat :=
  c.position + (if (stamp - c.lastStamp).toNat < 2147483648 then (stamp - c.lastStamp).toNat else 0)

/-- The recording `c` of a take with entry `e` can take a record with a stamp as it comes (R136, R138): its clock has started, no GAP
expiry falls before the stamp, and the last block has a slot or the free blocks exceed the reserve. -/
def State.records (c : RecordingContext) (e : Take) (stamp : Time) (s : State) : Prop :=
  s.memoryCanonical ∧ s.store.recording = some c ∧ c.started = true ∧ 1 ≤ c.take ∧ c.take ≤ 16 ∧
  s.store.entry c.take = some e ∧ c.positionAt stamp ≤ (c.lastTime + 4095) * 1000 ∧
  (e.count ≠ 0 ∧ e.count % 32 = 0 → 3 < s.store.freeList.length)

/-- One record is written into the recording `c` of a take with entry `e` (R130, R131, R136, R137; 12.6): `u` is the store after it,
`st` the store before. The record has a kind and two payload bytes, its delta runs to its position, and it stands in the next slot
of the last block or in slot 0 of the block at the head of the Free List; `notes` are the open notes after it and `levels` the last
pedal levels. -/
def Store.writes (st u : Store) (c : RecordingContext) (e : Take) (kind : Nat) (a b : Byte) (position : Nat) (notes : List Nat)
    (levels : PedalLevels) : Prop :=
  let needsBlock := e.count ≠ 0 ∧ e.count % 32 = 0
  let block := if needsBlock then st.freeList.headD 0 else e.last
  let address := block * 128 + e.count % 32 * 4
  let delta := position / 1000 - c.lastTime
  u.entry c.take = some { e with count := e.count + 1, duration := e.duration + delta, last := block } ∧
  (∀ m, m ≠ c.take → u.entry m = st.entry m) ∧
  Memory.readBytes u.memory address 4 = beBytes 2 (kind * 4096 + delta) ++ [a, b] ∧
  (∀ x, (x < address ∨ address + 4 ≤ x) → Memory.read u.memory x = Memory.read st.memory x) ∧
  u.freeList = (if needsBlock then st.freeList.drop 1 else st.freeList) ∧
  ∃ d, u.recording = some d ∧ d.take = c.take ∧ d.started = true ∧ d.position = position ∧ d.lastTime = position / 1000 ∧
    (∀ j, j ∈ d.openNotes ↔ j ∈ notes) ∧ d.levels = levels

/-- The recording `c` of a take with entry `e` is closed at a position (R139): `u` is the store after it, `st` the store before. The
closing records are counted, the first of them carries the time since the last record and the rest carry 0, the last is END, and
the other takes are as they were. -/
def Store.closesTo (st u : Store) (c : RecordingContext) (e : Take) (flags : TakeFlags) (position : Nat) : Prop :=
  let delta := position / 1000 - c.lastTime
  u.recording = none ∧ (∀ m, m ≠ c.take → u.entry m = st.entry m) ∧
  ∃ last,
    u.entry c.take =
      some { e with state := .closed, flags := flags, count := e.count + c.closings, duration := e.duration + delta,
                    last := last } ∧
    Memory.readBytes u.memory (last * 128 + (e.count + c.closings - 1) % 32 * 4) 4 =
      beBytes 2 (0x6000 + if c.closings = 1 then delta else 0) ++ [0, 0]

/-! ### The rail and the starts -/

/-- A run that failed at `now` with a cause (R95): `t` is the state after it, `s` the state before. -/
def State.failsTo (s t : State) (cause : RailCause) (now : Time) : Prop :=
  t.rail.state = .stalled ∧ t.rail.resting = .unknown ∧ t.rail.run = none ∧ t.rail.target = none ∧
  t.rail.lastMove = some .failed ∧
  t.rail.lastFault = some { cause := cause, target := s.rail.target, count := t.rail.count, time := now } ∧
  t.rail.arm = .below ∧ t.rail.stalls = min (s.rail.stalls + 1) 255 ∧ t.rail.alertRequested = true ∧
  t.announces .railState ∧ t.announces .railFault ∧ t.rail.learned = s.rail.learned ∧ t.rail.profile = s.rail.profile ∧
  t.rail.known = s.rail.known ∧ t.scanner = s.scanner ∧ t.router = s.router ∧ t.store = s.store

/-- The part of the rail that a start places by the end switches (R110): `t` the record after it, `s` the record before. -/
def Rail.startsTo (s t : Rail) (warm : Bool) (now : Time) (pins : Pins) : Prop :=
  let kept := warm = true ∧ s.disturbed = false
  let quiet := t.stalls = 0 ∧ t.alertRequested = false ∧ t.lastFault = none ∧ t.resting = t.state
  t.profile = Profile.default ∧ t.target = none ∧ t.prior = none ∧ t.quietTimer = none ∧ t.run = none ∧ t.lastMove = none ∧ t.lastCurrent = none ∧
  t.arm = .below ∧ t.retractEnd = pins.retractEnd ∧ t.engageEnd = pins.engageEnd ∧ t.fallboardClosed = pins.fallboardClosed ∧
  t.disturbed = (warm && s.disturbed) ∧ t.learned = (if kept then s.learned else 1200) ∧
  (pins.retractEnd = true → pins.engageEnd = true →
    t.state = .switchFault ∧ t.resting = .unknown ∧ t.count = (if kept then s.count else 0) ∧ t.known = false ∧ t.stalls = 1 ∧
    t.alertRequested = true ∧ t.lastFault = some { cause := .bothSwitches, target := none, count := t.count, time := now }) ∧
  (pins.retractEnd = true → pins.engageEnd = false → t.state = .retracted ∧ t.count = 0 ∧ t.known = true ∧ quiet) ∧
  (pins.retractEnd = false → pins.engageEnd = true →
    t.state = .engaged ∧ t.known = true ∧ t.count = (if kept then s.count else 1200) ∧ quiet) ∧
  (pins.retractEnd = false → pins.engageEnd = false →
    t.state = (if kept then s.resting else .unknown) ∧ t.count = (if kept then s.count else 0) ∧
    t.known = decide (t.state ≠ .unknown) ∧
    ((s.resting = .retracted ∨ s.resting = .engaged ∨ s.resting = .unknown) → quiet))

/-- A wait of the rail ends as the keyboard becomes quiet (R34, R89): the run toward the target begins (R90, R91), or ends at once where
the target end's switch is active (R92). `t` is the rail record after it, `r` the record before. -/
def Rail.leavesWait (r t : Rail) (target : Target) (now : Time) : Prop :=
  (r.switchOf target = false →
    ∃ x, t.run = some x ∧
      t = { r with state := target.movingState, resting := .unknown, target := some target, prior := none, quietTimer := none,
                   arm := .below, run := some x } ∧
      x.profile = r.profile ∧ x.duty = r.profile.kickDuty ∧ x.travel = r.learned ∧ x.retriesUsed = 0 ∧ x.blind = !r.known ∧
      x.measured = (decide (r.prior = some .retracted) && decide (target = .engage) && r.known) ∧
      x.moveTimer = now.after (r.profile.moveTimeout * 1000)) ∧
  (r.switchOf target = true →
    t.state = target.endState ∧ t.resting = target.endState ∧ t.run = none ∧ t.target = none ∧ t.prior = none ∧
    t.quietTimer = none ∧ t.lastMove = some .complete)

/-- The Take Store over a warm start (R149): `t` is the state after it, `s` the state before. Every take keeps its entry with the use
marks clear, but for an IMPORTING take, which is failed, and a RECORDING take, which is closed INTERRUPTED at its last record, or
discarded when its clock had not started. -/
def State.finishesTakes (s t : State) : Prop :=
  let unmarked (e : Take) : Take := { e with playing := false, exporting := false }
  t.store.serial = s.store.serial ∧
  t.system.lastStart.finished =
    (match s.store.importing with
      | some i => [(i.take, .importFailed)]
      | none => []) ++
    (match s.store.recording with
      | some c => [(c.take, if c.started then .closed else .discarded)]
      | none => []) ∧
  (∀ n, (∀ i, s.store.importing = some i → i.take ≠ n) → (∀ c, s.store.recording = some c → c.take ≠ n) →
    t.store.entry n = (s.store.entry n).map unmarked) ∧
  (s.store.recording = none → s.store.importing = none →
    t.store.memory = s.store.memory ∧ t.store.blockMap = s.store.blockMap ∧ t.store.freeList = s.store.freeList) ∧
  (∀ i e, s.store.importing = some i → s.store.recording = none → 1 ≤ i.take → i.take ≤ 16 → s.store.entry i.take = some e →
    t.store.entry i.take = none ∧ t.store.freeList = s.store.freeList ++ s.store.chain e ∧ t.store.memory = s.store.memory) ∧
  (∀ c e, s.store.recording = some c → s.store.importing = none → 1 ≤ c.take → c.take ≤ 16 → s.store.entry c.take = some e →
    (c.started = false →
      t.store.entry c.take = none ∧ t.store.freeList = s.store.freeList ++ s.store.chain e ∧
      t.store.memory = s.store.memory) ∧
    (c.started = true → s.memoryCanonical → 3 ≤ s.store.freeList.length → c.closings ≤ 96 →
      s.store.clearMarks.closesTo t.store c (unmarked e) { e.flags with interrupted := true } c.position))

/-- The Audio Stage after a start (R112, R119, R120, R122, R126, R127, R129): `a` the stage, `r` the rail record after the start. -/
def Audio.startsTo (a : Audio) (r : Rail) (pins : Pins) : Prop :=
  a.fifo = [] ∧ a.inUnderrun = true ∧ a.applied = 0 ∧ a.ramp = 0 ∧ a.underruns = 0 ∧ a.overruns = 0 ∧ a.clips = 0 ∧
  a.rate = .hz48000 ∧ a.volume = 40 ∧ a.refill = 32 ∧ a.rampInterval = 8 ∧ a.hpInAcoustic = false ∧ a.panelMute = false ∧
  a.metro = { tempo := 120, beats := 4, clickLevel := 8, beatCopy := false, run := false } ∧ a.clock = .stopped ∧
  a.counter = none ∧ a.nextBeat = none ∧ a.playSpeed = none ∧ a.recordClick = false ∧ a.playClick = false ∧ a.click = none ∧
  a.jack1 = pins.jack1 ∧ a.jack2 = pins.jack2 ∧ a.moving = r.state.moving ∧ a.engaged = decide (r.state = .engaged) ∧
  a.alertRequested = r.alertRequested ∧ a.alert = (if r.alertRequested = true then some { high := false, index := 0 } else none) ∧
  a.mute =
    { jackOut := !pins.jack1 && !pins.jack2, railNotEngaged := decide (r.state ≠ .engaged), railMoving := r.state.moving,
      underrun := true, panelMute := false }

/-- A start of either kind (R22, R39, R54, R83, R110, R129, R148, R149, R169, R200, R201): `t` is the state after it, `s` the state
before. -/
def State.startsTo (s t : State) (warm : Bool) (cause : StartCause) (now : Time) (pins : Pins) : Prop :=
  t.now = now ∧ t.pending = s.pending ∧ t.system.mainOn = true ∧ (t.system.marker = if warm then s.system.marker else true) ∧
  t.system.restart = none ∧ t.system.strap = pins.strap ∧ t.system.lastStart.warm = warm ∧
  t.system.lastStart.cause = (if warm then some cause else none) ∧ t.system.lastStart.disturbed = (warm && s.rail.disturbed) ∧
  (∀ k, 1 ≤ k → k ≤ 88 →
    let c : KeyCal := if warm then (s.key k).cal else { restRaw := 0, bottomRaw := 0, trim := 0, enabled := false }
    t.key k = { Key.initial with cal := c, state := if c.valid then .suspended else .uncalibrated }) ∧
  t.scanner.capture = none ∧ t.scanner.lastCapture = none ∧ t.scanner.watch = none ∧
  t.strokes = { Strokes.initial with curves := if warm then s.strokes.curves else defaultCurves } ∧
  (∀ p,
    let c : PedalCal := if warm then (s.pedals.sense p).cal else { restRaw := 0, fullRaw := 0, enabled := false }
    t.pedals.sense p = { cal := c, state := if c.valid then .active else .invalid, glitchRun := 0, recoveryRun := 0 }) ∧
  t.pedals.damper.live = 0 ∧ t.pedals.damper.playback = 0 ∧ t.pedals.damper.effective = 0 ∧
  t.pedals.soft.live = 0 ∧ t.pedals.soft.playback = 0 ∧ t.pedals.soft.effective = 0 ∧
  t.pedals.sostenuto.live = false ∧ t.pedals.sostenuto.playback = false ∧ t.pedals.sostenuto.effective = false ∧
  t.router = Router.initial ∧ t.tone = Tone.initial ∧ s.rail.startsTo t.rail warm now pins ∧
  t.audio.startsTo t.rail pins ∧
  (warm = false → t.store = Store.initial ∧ t.system.lastStart.finished = []) ∧
  (warm = true → s.finishesTakes t) ∧
  t.store.recording = none ∧ t.store.importing = none ∧ t.transport = Transport.initial ∧ t.transfer = Transfer.initial ∧
  t.linkT.buffer = .empty ∧ t.linkP.buffer = .empty ∧ t.linkT.mask = 0x0139#16 ∧ t.linkP.mask = 0x1FFF#16 ∧
  t.linkT.malformed = 0 ∧ t.linkP.malformed = 0 ∧ t.linkT.lostReplies = 0 ∧ t.linkP.lostReplies = 0 ∧
  t.linkT.board = (if t.rail.state = .switchFault then 0x0021#16 else 0x0001#16) ∧
  t.linkP.board = (if t.rail.state = .switchFault then 0x0021#16 else 0x0001#16) ∧
  t.linkT.held = none ∧ t.linkP.held = none ∧ t.linkT.statusRead = none ∧ t.linkP.statusRead = none ∧
  t.panel = { stream := [], drops := 0, pointer := .reply, stretch := none }

/-! ### Keys -/

/-- A key outside the stroke states has no stroke record: no timing start, no slow mark, the current line set, and no last
plausible sample (R1, R10, R26). -/
def Key.recordKept (k : Key) : Prop :=
  k.state.isStroke = false →
    k.timing = none ∧ k.slowMark = false ∧ k.previousLines = false ∧ k.lastPlausible = none

/-- Every key keeps its stroke record as its state allows. -/
def State.recordsKept (s : State) : Prop := ∀ k, (s.key k).recordKept

/-- The key line sets the Analyzer holds are well-formed (R24, R25). -/
def Strokes.linesKept (st : Strokes) : Prop :=
  st.current.wellFormed = true ∧ ∀ l, st.previous = some l → l.wellFormed = true

/-! ### Sounding Table and Sostenuto Set -/

/-- The Sostenuto Set holds only SOUNDING keys and is empty while effective sostenuto is off, and only a member's released mark is
set (R56). -/
def State.sostenutoKept (s : State) : Prop :=
  (∀ k, k ∈ s.router.sostenutoSet → (s.sound k).owner.isSome = true) ∧
  (s.pedals.sostenuto.effective = false → s.router.sostenutoSet = []) ∧
  (∀ k, (s.sound k).released = true → k ∈ s.router.sostenutoSet)

/-- A key SOUNDING with owner LIVE is in STRUCK or REARMED, or a released member of the Sostenuto Set (R62). -/
def State.liveHeld (s : State) : Prop :=
  ∀ k, (s.sound k).owner = some .live →
    ((s.key k).state = .struck ∨ (s.key k).state = .rearmed) ∨
      (k ∈ s.router.sostenutoSet ∧ (s.sound k).released = true)

/-! ### Tone Stream -/

/-- The Tone Queue stays within its two limits (R70), the BURST latch is set only over a nonempty queue (R79), and in BURST mode a
queue whose head is an ALL_OFF or a RESYNC has its latch set (R80). -/
def Tone.withinLimits (t : Tone) : Prop :=
  t.queue.length ≤ 192 ∧ t.noteOns ≤ 168 ∧ (t.latch = true → t.queue ≠ []) ∧
  (t.mode = .burst → t.headMustNotWait = true → t.latch = true)

/-! ### Rail -/

/-- The states a wait may return to (R88, R89). -/
def RailState.mayWaitFrom : RailState → Bool
  | .unknown => true
  | .retracted => true
  | .engaged => true
  | .stalled => true
  | .waitQuiet => false
  | .engaging => false
  | .retracting => false
  | .switchFault => false

/-- The rail record is of one piece: a run exactly while the rail moves, a target exactly while it moves or waits, a prior state and
a quiet timer exactly while it waits, and the numbers within their ranges (R84, R85, R89, R91, R92). -/
def Rail.consistent (r : Rail) : Prop :=
  (r.run.isSome = true ↔ r.state.moving = true) ∧
  (r.state = .engaging → r.target = some .engage) ∧
  (r.state = .retracting → r.target = some .retract) ∧
  (r.target.isSome = true ↔ r.state.moving = true ∨ r.state = .waitQuiet) ∧
  (r.prior.isSome = true ↔ r.state = .waitQuiet) ∧
  (r.quietTimer.isSome = true ↔ r.state = .waitQuiet) ∧
  (∀ x, r.prior = some x → x.mayWaitFrom = true) ∧
  (r.resting = .retracted ∨ r.resting = .engaged ∨ r.resting = .unknown) ∧
  400 ≤ r.learned ∧ r.learned ≤ 4000 ∧ -32768 ≤ r.count ∧ r.count ≤ 32767

/-! ### Audio Stage -/

/-- The Audio Stage holds the rail conditions and the alert requested mark as they stand (R105), and each mark of the mute-reason
set stands exactly while its reason does (R118). -/
def State.mutesKept (s : State) : Prop :=
  s.audio.moving = s.rail.state.moving ∧
  s.audio.engaged = decide (s.rail.state = .engaged) ∧
  s.audio.alertRequested = s.rail.alertRequested ∧
  s.audio.mute =
    { jackOut := !s.audio.jack1 && !s.audio.jack2, railNotEngaged := !s.audio.engaged && !s.audio.hpInAcoustic,
      railMoving := s.audio.moving, underrun := s.audio.inUnderrun, panelMute := s.audio.panelMute }

/-- Fill, indexes and settings of the Audio Stage lie in their ranges (R112, R113, R117, R126). -/
def Audio.inRange (a : Audio) : Prop :=
  a.fifo.length ≤ 64 ∧ a.applied ≤ 63 ∧ a.volume ≤ 63 ∧ 8 ≤ a.refill ∧ a.refill ≤ 56 ∧ a.rampInterval ≤ 64 ∧
  a.ramp < a.rampInterval ∧ 30 ≤ a.metro.tempo ∧ a.metro.tempo ≤ 300 ∧ 1 ≤ a.metro.beats ∧ a.metro.beats ≤ 12 ∧
  a.metro.clickLevel ≤ 15

/-! ### Transport -/

/-- A take continues (R162, R164): `v` is PLAYING with its wait just computed, and `t` stands after the same command. A wait of length
0 toward a record has its RECORD_DELIVERY within the command (R177); any other wait stands. -/
def State.continuesTo (v t : State) : Prop :=
  ∀ w, v.transport.wait = some w →
    (w.length = 0 ∧ w.towardB = false → exec (.recordDelivery v.now) v = .next t) ∧
    (w.length ≠ 0 ∨ w.towardB = true → t = v)

/-- The anchor test on the record that is at the cursor now (R166): `u` is the Transport after it, `t` the Transport before, and `times`
are the times of the take's records. -/
def Transport.anchorsTo (t u : Transport) (times : List Nat) : Prop :=
  u.loop = t.loop ∧
  (∀ l time, t.loop = some l → t.anchor = none → times[u.cursor]? = some time → l.a ≤ time →
    (u.cursor = 0 ∨ times.getD (u.cursor - 1) 0 < l.a) →
    u.anchor = some { record := u.cursor, time := time, levels := u.levels }) ∧
  ((t.anchor ≠ none ∨
      ∀ l time, t.loop = some l → times[u.cursor]? = some time →
        time < l.a ∨ (u.cursor ≠ 0 ∧ l.a ≤ times.getD (u.cursor - 1) 0)) →
    u.anchor = t.anchor)

/-- The Expected Set holds at most 16 keys, none twice, and is empty unless the Transport is WAITING (R170). -/
def Transport.expectedKept (t : Transport) : Prop :=
  t.expected.length ≤ 16 ∧ t.expected.Nodup ∧ (t.state ≠ .waiting → t.expected = [])

/-! ### Links -/

/-- Items that may be absent, behind a byte that says whether they are present; they are 0 while absent (12.4). -/
def ifPresent {α : Type} (x : Option α) (width : Nat) (bytes : α → List Byte) : List Byte :=
  match x with
  | some a => 1 :: bytes a
  | none => List.replicate (width + 1) 0

/-- The snapshot of each notice kind by its code, as 12.4 lays it out (R195). -/
def State.snapshots (s : State) : List (Nat × List Byte) :=
  let byte (n : Nat) : Byte := BitVec.ofNat 8 n
  let two (n : Nat) : List Byte := [byte (n / 256), byte n]
  let three (n : Nat) : List Byte := byte (n / 65536) :: two n
  let four (n : Nat) : List Byte := two (n / 65536) ++ two n
  let signed (n : Int) : List Byte := two (BitVec.ofInt 16 n).toNat
  let yes (b : Bool) : Byte := if b then 1 else 0
  let start := s.system.lastStart
  let faulted := keyNumbers.filter (fun k => decide ((s.key k).state = .fault))
  let pedal (p : PedalId) : Nat := if (s.pedals.sense p).state = .fault then 1 else 0
  let rail := s.rail
  let target (t : Option Target) : Byte := match t with
    | none => 0
    | some .engage => 1
    | some .retract => 2
  let fallboard : Byte := if rail.fallboardClosed then 1 else 2
  let audio := s.audio
  let transport := s.transportReport.snapshot
  let moved (x : Option LastTransfer) : List Byte :=
    ifPresent x 5 (fun r =>
      byte r.take ::
        (match r.result with
        | .complete => 0
        | .closedEarly => 0x0D
        | .length => 0x0A
        | .check => 0x07
        | .format => 0x08
        | .noSpace => 0x05
        | .timeout => 0x0C) :: three r.bytes)
  let cause (c : EndCause) : Byte := match c with
    | .stop => 1
    | .ending => 2
    | .fallboard => 3
    | .reserve => 4
    | .limit => 5
  [ (1, [if start.warm then 2 else 1,
         match start.cause with
         | none => 0
         | some .resetPin => 1
         | some .powerOn => 2
         | some .restart => 3,
         yes start.disturbed, byte start.finished.length] ++
        start.finished.flatMap (fun x => [byte x.1, byte x.2.code])),
    (2, [byte faulted.length, byte (faulted.headD 0), byte (pedal .damper + 2 * pedal .sostenuto + 4 * pedal .soft)]),
    (3, ifPresent s.scanner.lastCapture 5 (fun r =>
          [byte r.kind.code, byte (r.key.getD 0), byte r.outcome.code, byte r.failed, byte (r.lowestFailed.getD 0)])),
    (4, byte s.tone.resyncs :: ifPresent s.tone.lastOverflow 4 (fun t => four t.toNat) ++ [byte s.tone.queue.length]),
    (5, [byte rail.state.code, target rail.target] ++ signed rail.count ++
        [byte ((rail.lastMove.map MoveResult.code).getD 0), fallboard]),
    (6, byte rail.state.code ::
        ifPresent rail.lastFault 8 (fun x =>
          [match x.cause with
           | .noSwitch => 1
           | .stall => 2
           | .timeout => 3
           | .overcurrent => 4
           | .bothSwitches => 5, target x.target] ++ signed x.count ++ four x.time.toNat) ++
        [byte rail.stalls, yes rail.alertRequested]),
    (7, byte rail.profile.alertMode.code :: two rail.profile.alertLimit ++ two rail.profile.hysteresis ++
        [byte rail.arm.code] ++ two (rail.lastCurrent.getD 0xFFFF)),
    (8, [fallboard]),
    (9, [yes audio.jack1 + 2 * yes audio.jack2 + 4 * yes audio.mute.jackOut]),
    (10, two audio.underruns ++ [yes audio.inUnderrun, byte audio.fifo.length, byte audio.refill]),
    (11, [byte transport.state.code, byte (transport.take.getD 0)] ++ four transport.cursorTime ++
         [byte (transport.speed.getD 0)] ++
         ifPresent transport.loop 9 (fun l => four l.a ++ four l.b ++ [byte l.left]) ++
         [(transport.lastEnd.map cause).getD 0]),
    (12, ifPresent s.transport.lastClose 11 (fun c =>
           [byte c.take, byte c.outcome.code,
            yes c.flags.truncated + 2 * yes c.flags.interrupted + 4 * yes c.flags.imported] ++
           three c.count ++ four c.duration ++ [cause c.cause])),
    (13, moved s.transfer.lastExport ++ moved s.transfer.lastImport ++
         [yes s.transfer.exporting.isSome, byte ((s.transfer.exporting.map Export.take).getD 0),
          yes s.transfer.importing.isSome, byte ((s.transfer.importing.map Import.take).getD 0)]) ]

/-- A link's mask holds START and no reserved bit, only subscribed kinds are pending or in a status read, a request in handling or
held came over the same link, and one is held only behind one in handling (R190, R194 to R196). -/
def LinkIf.consistent (me : Link) (l : LinkIf) : Prop :=
  l.mask &&& 1#16 = 1#16 ∧ l.mask &&& ~~~kindBits = 0#16 ∧ l.board &&& ~~~l.mask = 0#16 ∧
  (∀ kinds, l.statusRead = some kinds → kinds &&& ~~~l.mask = 0#16) ∧
  (∀ kind frame, l.buffer = .handling kind frame → frame.link = me) ∧
  (∀ kind frame, l.held = some (kind, frame) → frame.link = me ∧ ∃ first begun, l.buffer = .handling first begun)

/-- Both links, and the Panel Stream at no more than 64 entries (R197). -/
def State.linksKept (s : State) : Prop :=
  s.linkT.consistent .t ∧ s.linkP.consistent .p ∧ s.panel.stream.length ≤ 64

end Sys2Proof.Machine
end

