-- ==== Sys2Proof/Certificates/Slice0/Obligations.lean ====
section
/-! DEFINITION. The statements for the provers, chapter by chapter. A statement of what a command does gives the next state whole,
as an equation, or says which blocks it leaves alone. Requests are stated on frames that the part can take at once
(`State.canTake`), with the parameter bytes spelled out and any bytes beyond them in `rest` (R203). -/

open Sys2Proof Sys2Proof.Machine

/-! ### The block as a whole -/

/-- One step runs the front command with the rest of the queue. That the block idles on an empty queue is the model's choice
(assumption 12). -/
def Obligations.StepRunsTheFrontCommand : Prop :=
  (∀ (c : Instr) (rest : List Instr) (s : State), step { s with pending := c :: rest } = exec c { s with pending := rest }) ∧
  (∀ s : State, s.pending = [] → step s = .next s)

/-- The commands that wait are the same after every command. The queue is the model's own field, and that every command, the
starts included, keeps it is the model's choice (assumption 30). -/
def Obligations.CommandsLeaveTheQueueAlone : Prop :=
  ∀ (c : Instr) (s t : State), exec c s = .next t → t.pending = s.pending

/-- A well-formed command always leads to a next state, and a command that no event of the part spells is refused by name
(assumption 4). -/
def Obligations.WellFormedCommandsGoOn : Prop :=
  ∀ (c : Instr) (s : State),
    (c.wellFormed = true → ∃ t, exec c s = .next t) ∧ (c.wellFormed = false → exec c s = .refused .illFormed)

/-- With main power off only the supplies and the standby switch input act (R109, R200; assumption 13). -/
def Obligations.MainPowerOffHoldsTheState : Prop :=
  ∀ (c : Instr) (s : State), s.system.mainOn = false → c.wellFormed = true →
    (∀ now pins, c ≠ .powerOn now pins) → (∀ w active, c ≠ .standbySwitchChange w active) → c ≠ .mainPowerLoss →
    c ≠ .standbySupplyLoss → exec c s = .next s

/-- Kind byte and frame name a request and are named by it, whole and in both directions (12.2). -/
def Obligations.RequestFramesRoundTrip : Prop :=
  (∀ (i : Instr) (code : Byte) (f : Frame), i.wellFormed = true → encodeRequest i = some (code, f) → decodeRequest code f = i) ∧
  (∀ (code : Byte) (f : Frame),
    (decodeRequest code f).wellFormed = true ∧ encodeRequest (decodeRequest code f) = some (code, f))

/-- A frame whose length byte disagrees with the bytes that follow, or that is too short for its kind or for the items it marks,
is answered LENGTH, and so is a frame of Link T with no length byte; an unknown kind is answered UNKNOWN. Neither is handed on, and
MALFORMED rises by one (R191, R203). The link answers both at once, whether or not their owning block would judge the request later
(assumption 3), but behind a request in HANDLING it holds such a frame, or loses it, like any other (R190). On Link P a write of the
kind byte alone is a pointer write, and a transaction for another address leaves all but the time base as it was (R193; assumption
48). -/
def Obligations.MalformedFramesAreAnsweredByTheLink : Prop :=
  ∀ (i : Instr) (code : Byte) (f : Frame) (s : State),
    i.wellFormed = true → encodeRequest i = some (code, f) → s.system.mainOn = true →
    let kind := reqOfCode code.toNat
    let refused (status : Status) : Host.Outcome State Fault Refusal :=
      answered f { status := status, data := .none }
        ((s.received f).modLink f.link (fun l => { l with malformed := min (l.malformed + 1) 255 }))
    (f.link = .p → f.address ≠ 0x5C#7 + s.system.strap.setWidth 7 → exec i s = .next { s with now := f.now }) ∧
    (s.answers f.link f.address = true → f.link = .p → f.body = [] →
      exec i s = exec (.pointerWrite f.now ⟨f.address, code⟩) s) ∧
    (s.answers f.link f.address = true → (f.link = .t ∨ f.body ≠ []) →
      (s.idleLink f.link → kind = .unknown → exec i s = refused .unknown) ∧
      (s.idleLink f.link → kind ≠ .unknown → f.body = [] → exec i s = refused .length) ∧
      (∀ n p, s.idleLink f.link → kind ≠ .unknown → f.body = n :: p →
        (n.toNat ≠ p.length ∨ p.length < reqMinLength kind ∨ paramsFit kind p = false) → exec i s = refused .length) ∧
      (∀ first begun, (s.link f.link).buffer = .handling first begun → (s.link f.link).held = none →
        exec i s = .next ((s.received f).modLink f.link (fun l => { l with held := some (kind, f) }))) ∧
      (∀ first begun waiting, (s.link f.link).buffer = .handling first begun → (s.link f.link).held = some waiting →
        exec i s = .next ((s.received f).modLink f.link (fun l => { l with lostReplies := min (l.lostReplies + 1) 255 }))))

/-- A request that its block has not judged by the next command leaves the buffer HANDLING (assumption 3); a request that finds
the buffer HANDLING is held, and a further one is discarded unjudged and counted in LOST_REPLIES (R190). -/
def Obligations.RequestsWaitForTheOneInHandling : Prop :=
  ∀ (i : Instr) (code : Byte) (p : List Byte) (f : Frame) (s : State),
    i.wellFormed = true → encodeRequest i = some (code, f) → f.body = BitVec.ofNat 8 p.length :: p → p.length ≤ 255 →
    reqMinLength (reqOfCode code.toNat) ≤ p.length → paramsFit (reqOfCode code.toNat) p = true →
    reqOfCode code.toNat ≠ .unknown → s.system.mainOn = true → s.answers f.link f.address = true →
    (s.idleLink f.link → f.deferred = true →
      exec i s = .next ((s.received f).modLink f.link
        (fun l => { l with buffer := .handling (reqOfCode code.toNat) f }))) ∧
    (∀ first begun, (s.link f.link).buffer = .handling first begun → (s.link f.link).held = none →
      exec i s = .next ((s.received f).modLink f.link (fun l => { l with held := some (reqOfCode code.toNat, f) }))) ∧
    (∀ first begun waiting, (s.link f.link).buffer = .handling first begun → (s.link f.link).held = some waiting →
      exec i s = .next ((s.received f).modLink f.link (fun l => { l with lostReplies := min (l.lostReplies + 1) 255 })))

/-! ### What every step keeps -/

/-- Everything the invariants below say holds right after reset. The input levels that reset finds are the
model's choice (assumption 8). -/
def Obligations.ResetMeetsTheInvariants : Prop :=
  State.reset.memoryCanonical ∧ State.reset.recordsKept ∧ State.reset.strokes.linesKept ∧ State.reset.sostenutoKept ∧
  State.reset.liveHeld ∧ State.reset.tone.withinLimits ∧ State.reset.rail.consistent ∧ State.reset.mutesKept ∧ State.reset.audio.inRange ∧
  State.reset.transport.expectedKept ∧ State.reset.linksKept

/-- Take memory stays in its canonical form. The form, with 0 as the byte
of an unlisted address, is the model's choice (assumption 6). -/
def Obligations.StepKeepsTakeMemoryCanonical : Prop :=
  ∀ s t : State, s.memoryCanonical → step s = .next t → t.memoryCanonical

/-- A key outside the stroke states keeps no stroke record (R1, R10, R23, R26), and the current key line set and the previous one,
where present, stay well-formed (R24, R25). -/
def Obligations.StepKeepsStrokeRecords : Prop :=
  (∀ s t : State, s.recordsKept → step s = .next t → t.recordsKept) ∧
  (∀ s t : State, s.strokes.linesKept → step s = .next t → t.strokes.linesKept)

/-- The Sostenuto Set and the released marks stay as R56 says. -/
def Obligations.StepKeepsTheSostenutoSet : Prop :=
  ∀ s t : State, s.sostenutoKept → step s = .next t → t.sostenutoKept

/-- A key SOUNDING with owner LIVE stays held by its key or by the sostenuto pedal (R62). -/
def Obligations.StepKeepsLiveNotesHeld : Prop :=
  ∀ s t : State, s.liveHeld → step s = .next t → t.liveHeld

/-- The Tone Queue stays within its capacity and its NOTE_ON limit, the latch of READY_T is set only over a nonempty queue, and in
BURST mode it is set while the head is an ALL_OFF or a RESYNC (R70, R79, R80). That one admitted in SINGLE mode sets it only on coming
to the head in BURST mode is the model's reading (assumption 9). -/
def Obligations.StepKeepsTheToneQueueLimits : Prop :=
  ∀ s t : State, s.tone.withinLimits → step s = .next t → t.tone.withinLimits

/-- The rail record stays of one piece, and with it the duty is nonzero only in ENGAGING or RETRACTING (R84, R89, R91). -/
def Obligations.StepKeepsTheRailRecord : Prop :=
  ∀ s t : State, s.rail.consistent → step s = .next t →
    t.rail.consistent ∧ (t.rail.duty ≠ 0 → t.rail.state = .engaging ∨ t.rail.state = .retracting)

/-- Each mark of the mute-reason set stands exactly while its reason does, the Audio Stage holds the rail's conditions (R105,
R118), and fill, indexes and settings stay in their ranges (R111, R112, R126). -/
def Obligations.StepKeepsTheAudioStage : Prop :=
  (∀ s t : State, s.mutesKept → step s = .next t → t.mutesKept) ∧
  (∀ s t : State, s.audio.inRange → step s = .next t → t.audio.inRange)

/-- The Expected Set holds at most 16 keys, none twice, and is empty unless the Transport is WAITING (R170). -/
def Obligations.StepKeepsTheExpectedSet : Prop :=
  ∀ s t : State, s.transport.expectedKept → step s = .next t → t.transport.expectedKept

/-- START stays in both masks, only subscribed kinds stay pending, and the Panel Stream stays within 64 entries (R194, R196,
R197). -/
def Obligations.StepKeepsTheBoards : Prop :=
  ∀ s t : State, s.linksKept → step s = .next t → t.linksKept

/-! ### Key sensing and calibration (R1 to R22) -/

/-- CAL_READ (R13). -/
def Obligations.CalReadReturnsTheRecord : Prop :=
  ∀ (f : Frame) (target : Byte) (rest : List Byte) (s : State), s.canTake f (target :: rest) →
    exec (.calRead f) s =
      if 1 ≤ target.toNat ∧ target.toNat ≤ 88 then okFor f (.keyCal (s.key target.toNat).cal) (s.received f)
      else if target = 0x81 then okFor f (.pedalCal s.pedals.damper.sense.cal) (s.received f)
      else if target = 0x82 then okFor f (.pedalCal s.pedals.sostenuto.sense.cal) (s.received f)
      else if target = 0x83 then okFor f (.pedalCal s.pedals.soft.sense.cal) (s.received f)
      else refusedWith f .range s

/-- CAL_WRITE to a key (R12): the record, the Scanner state by its validity, the stroke record discarded, a sounding live note
forced off, and KEY_FAULT posted where the write ends a fault. A key in CAPTURE leaves the capture (R17): a rest capture goes on
with the other keys, and a bottom capture of it ends as abandoned. The byte layout of the record and RANGE
for an enabled byte above 1 are the model's reading of R202 and R203 (assumption 14). -/
def Obligations.CalWriteReplacesAKeyRecord : Prop :=
  ∀ (f : Frame) (k r1 r0 b1 b0 trim enabled : Byte) (rest : List Byte) (s : State),
    s.canTake f (k :: r1 :: r0 :: b1 :: b0 :: trim :: enabled :: rest) → 1 ≤ k.toNat → k.toNat ≤ 88 →
    ((1023 < num2 r1 r0 ∨ 1023 < num2 b1 b0 ∨ 1 < enabled.toNat ∨ trim.toInt < -16 ∨ 15 < trim.toInt) →
      exec (.calWrite f) s = refusedWith f .range s) ∧
    (num2 r1 r0 ≤ 1023 → num2 b1 b0 ≤ 1023 → enabled.toNat ≤ 1 → -16 ≤ trim.toInt → trim.toInt ≤ 15 →
      let c : KeyCal :=
        { restRaw := num2 r1 r0, bottomRaw := num2 b1 b0, trim := trim.toInt, enabled := decide (enabled.toNat = 1) }
      ∃ u, exec (.calWrite f) s = okFor f .none u ∧
        u.key k.toNat =
          { s.key k.toNat with cal := c, state := if c.valid then .suspended else .uncalibrated, lastPlausible := none,
                               glitchRun := 0, recoveryRun := 0, previousLines := false, timing := none, slowMark := false } ∧
        (∀ j, j ≠ k.toNat → u.key j = s.key j ∧ (u.sound j).owner = (s.sound j).owner) ∧
        ((s.key k.toNat).state.isStroke = true → (u.sound k.toNat).owner ≠ some .live) ∧
        ((s.key k.toNat).state.isStroke = false → u.router = s.router ∧ u.tone = (s.received f).tone ∧ u.store = s.store) ∧
        ((s.key k.toNat).state = .fault → u.announces .keyFault) ∧ u.pedals = s.pedals ∧
        ((s.key k.toNat).state ≠ .capture →
          u.scanner.capture = s.scanner.capture ∧ u.scanner.lastCapture = s.scanner.lastCapture) ∧
        (∀ accepted tallies, (s.key k.toNat).state = .capture → s.scanner.capture = some (.rest accepted tallies) →
          u.scanner.capture = some (.rest accepted (tallies.filter (fun x => decide (x.key ≠ k.toNat)))) ∧
          u.scanner.lastCapture = s.scanner.lastCapture) ∧
        (∀ accepted restRaw best, (s.key k.toNat).state = .capture →
          s.scanner.capture = some (.bottom accepted k.toNat restRaw best) →
          u.scanner.capture = none ∧
          u.scanner.lastCapture =
            some { kind := .bottom, key := some k.toNat, outcome := .abandoned, failed := 0, lowestFailed := none } ∧
          u.announces .calDone))

/-- A sample of a key in UNCALIBRATED, SUSPENDED or FAULT (R6, R8, R9, R20) or in CAPTURE, where it joins the tally of a rest
capture or is held against the farthest reading of a bottom capture (R15, R16), and implausible samples in a row: an earlier one
is counted and ignored, and the fourth takes the key into FAULT, with the stroke record discarded, the forced off made, both runs 0
and KEY_FAULT posted (R4, R5, R10, R20). Ahead of all this the key watch has heard the sample (R19); what it then collects is
stated under KEY_WATCH. -/
def Obligations.SamplesAreJudgedByKeyState : Prop :=
  (∀ (now : Time) (k raw : Nat) (s : State),
    s.system.mainOn = true → 1 ≤ k → k ≤ 88 → raw ≤ 1023 →
    let heard := State.watchSample k raw { s with now := now }
    let key := { s.key k with lastRaw := some raw }
    let depth := depthOf raw key.cal.restRaw key.cal.bottomRaw
    let captures (c : Capture) : State :=
      { heard.setKey k key with scanner := { (heard.setKey k key).scanner with capture := some c } }
    (key.state = .uncalibrated → exec (.keySample now k raw) s = .next (heard.setKey k key)) ∧
    (∀ accepted tallies, key.state = .capture → s.scanner.capture = some (.rest accepted tallies) →
      exec (.keySample now k raw) s =
        .next (captures (.rest accepted (tallies.map (fun x =>
          if x.key = k ∧ x.count < 64 then
            { x with count := x.count + 1, sum := x.sum + raw, low := if x.count = 0 then raw else min x.low raw,
                     high := max x.high raw, implausible := x.implausible || decide (raw < 8 ∨ 1015 < raw) }
          else x))))) ∧
    (∀ accepted restRaw best, key.state = .capture → s.scanner.capture = some (.bottom accepted k restRaw best) →
      (now - accepted).toNat < 2000000 →
      let distance := max raw restRaw - min raw restRaw
      exec (.keySample now k raw) s =
        .next (captures (.bottom accepted k restRaw
          (if 8 ≤ raw ∧ raw ≤ 1015 ∧ (∀ b, best = some b → b.distance < distance) then
            some { distance := distance, raw := raw }
          else best)))) ∧
    (key.state = .suspended → 8 ≤ raw → raw ≤ 1015 →
      exec (.keySample now k raw) s =
        .next (heard.setKey k
          (if depth < s.strokes.current.start ∧ s.rail.fallboardClosed = false then
            { key with state := .rest, glitchRun := 0, lastPlausible := some { raw := raw, depth := depth, stamp := now },
                       previousLines := false, timing := none, slowMark := false }
          else { key with glitchRun := 0 }))) ∧
    (key.state = .fault → 8 ≤ raw → raw ≤ 1015 →
      exec (.keySample now k raw) s =
        if key.recoveryRun < 63 then
          .next (heard.setKey k { key with recoveryRun := key.recoveryRun + 1 })
        else
          .next ((heard.setKey k
            { key with state := .suspended, recoveryRun := 0, glitchRun := 0 }).post .keyFault)) ∧
    (key.state = .fault → (raw < 8 ∨ 1015 < raw) →
      exec (.keySample now k raw) s =
        .next (heard.setKey k { key with recoveryRun := 0, glitches := min (key.glitches + 1) 65535 }))) ∧
  (∀ (now : Time) (k raw : Nat) (s : State),
    s.system.mainOn = true → 1 ≤ k → k ≤ 88 → raw ≤ 1023 → (raw < 8 ∨ 1015 < raw) →
    ((s.key k).state.isStroke = true ∨ (s.key k).state = .suspended) →
    let heard := State.watchSample k raw { s with now := now }
    let key :=
      { s.key k with
        lastRaw := some raw
        glitches := if (s.key k).state.isStroke then min ((s.key k).glitches + 1) 65535 else (s.key k).glitches }
    ((s.key k).glitchRun < 3 →
      exec (.keySample now k raw) s = .next (heard.setKey k { key with glitchRun := key.glitchRun + 1 })) ∧
    (3 ≤ (s.key k).glitchRun →
      ∃ t, exec (.keySample now k raw) s = .next t ∧
        t.key k =
          { key with state := .fault, lastPlausible := none, glitchRun := 0, recoveryRun := 0, previousLines := false,
                     timing := none, slowMark := false } ∧
        ((s.key k).state.isStroke = true → (t.sound k).owner ≠ some .live) ∧
        (∀ j, j ≠ k → t.key j = s.key j ∧ (t.sound j).owner = (s.sound j).owner) ∧
        t.announces .keyFault ∧ t.pedals = s.pedals ∧
        ((s.transport.state ≠ .recording ∨ (s.key k).state = .suspended) → t.store = s.store) ∧
        (∀ c e, s.transport.state = .recording → (s.key k).state.isStroke = true → s.records c e now → k ∈ c.openNotes →
          s.store.writes t.store c e 2 (BitVec.ofNat 8 k) 64 (c.positionAt now) (c.openNotes.filter (fun j => j ≠ k))
            c.levels) ∧
        (∀ c e, s.transport.state = .recording → s.records c e now → k ∉ c.openNotes → t.store = s.store)))

/-- CAL_CAPTURE_REST (R14): BUSY, STATE, or a capture of every key that is not in FAULT. REST_CAPTURE_COMPLETE (R15): with its 64
samples in, each included key that did not fail takes the average as rest raw, and every included key leaves CAPTURE by the
validity of its record; a capture with no keys ends 6.4 ms after its acceptance with a failed count of 0 (R14). The model's choices
are that BUSY comes before STATE (assumption 34), that the event which completes a capture with no keys is REST_CAPTURE_COMPLETE
(assumption 21), and that an event that comes before its time leaves all but the time base as it was (assumption 11). -/
def Obligations.RestCaptureMeasuresRest : Prop :=
  (∀ (f : Frame) (p : List Byte) (s : State), s.canTake f p →
    (s.scanner.capture.isSome = true → exec (.calCaptureRest f) s = refusedWith f .busy s) ∧
    (s.scanner.capture = none → s.rail.fallboardClosed = true → exec (.calCaptureRest f) s = refusedWith f .state s) ∧
    (s.scanner.capture = none → s.rail.fallboardClosed = false →
      ∃ u, exec (.calCaptureRest f) s = acceptedFor f .none u ∧
        (∀ k, 1 ≤ k → k ≤ 88 →
          u.key k =
            if (s.key k).state = .fault then s.key k
            else { s.key k with state := .capture, lastPlausible := none, glitchRun := 0, recoveryRun := 0,
                                previousLines := false, timing := none, slowMark := false }) ∧
        (∀ k, (s.key k).state.isStroke = true → (u.sound k).owner ≠ some .live) ∧
        u.scanner.capture =
          some (.rest f.now ((keyNumbers.filter (fun k => decide ((s.key k).state ≠ .fault))).map
            (fun k => { key := k, count := 0, sum := 0, low := 0, high := 0, implausible := false }))) ∧
        u.pedals = s.pedals)) ∧
  (∀ (now accepted : Time) (tallies : List RestTally) (s : State),
    s.system.mainOn = true → s.scanner.capture = some (.rest accepted tallies) → tallies ≠ [] →
    (tallies.map RestTally.key).Pairwise (· < ·) →
    (∀ x ∈ tallies, 1 ≤ x.key ∧ x.key ≤ 88 ∧ (s.key x.key).state = .capture ∧ 64 ≤ x.count) →
    let failed : RestTally → Bool := fun x => x.implausible || decide (12 < x.high - x.low)
    ∃ t, exec (.restCaptureComplete now) s = .next t ∧
      (∀ x ∈ tallies,
        let c : KeyCal :=
          if failed x then (s.key x.key).cal else { (s.key x.key).cal with restRaw := (x.sum + 32) / 64 }
        (t.key x.key).cal = c ∧ (t.key x.key).state = if c.valid then .suspended else .uncalibrated) ∧
      (∀ k, k ∉ tallies.map RestTally.key → t.key k = s.key k) ∧
      t.scanner.capture = none ∧
      t.scanner.lastCapture =
        some { kind := .rest, key := none, outcome := .complete, failed := tallies.countP failed,
               lowestFailed := (tallies.find? failed).map RestTally.key } ∧
      t.announces .calDone ∧ t.router = s.router ∧ t.tone = s.tone ∧ t.pedals = s.pedals ∧ t.store = s.store) ∧
  (∀ (now accepted : Time) (tallies : List RestTally) (s : State),
    s.system.mainOn = true → s.scanner.capture = some (.rest accepted tallies) →
    (∀ x ∈ tallies, x.count < 64 → exec (.restCaptureComplete now) s = .next { s with now := now }) ∧
    (tallies = [] → (now - accepted).toNat < 6400 → exec (.restCaptureComplete now) s = .next { s with now := now }) ∧
    (tallies = [] → 6400 ≤ (now - accepted).toNat →
      exec (.restCaptureComplete now) s =
        .next (State.post .calDone { s with
          now := now
          scanner := { s.scanner with
            capture := none
            lastCapture := some { kind := .rest, key := none, outcome := .complete, failed := 0, lowestFailed := none } } })))

/-- CAL_CAPTURE_BOTTOM and BOTTOM_CAPTURE_COMPLETE (R16): the refusals, the start, and the two outcomes at the first sample after
the 2 s window, which the key watch too has heard (R19) and which KEY_SAMPLE brings as well. That RANGE for a key outside 1..88 comes
before BUSY, and BUSY before STATE, is the model's choice (assumption 34). -/
def Obligations.BottomCapture : Prop :=
  (∀ (f : Frame) (k : Byte) (rest : List Byte) (s : State), s.canTake f (k :: rest) →
    ((k.toNat = 0 ∨ 88 < k.toNat) → exec (.calCaptureBottom f) s = refusedWith f .range s) ∧
    (1 ≤ k.toNat → k.toNat ≤ 88 →
      (s.scanner.capture.isSome = true → exec (.calCaptureBottom f) s = refusedWith f .busy s) ∧
      (s.scanner.capture = none → (s.rail.fallboardClosed = true ∨ (s.key k.toNat).state = .fault) →
        exec (.calCaptureBottom f) s = refusedWith f .state s) ∧
      (s.scanner.capture = none → s.rail.fallboardClosed = false → (s.key k.toNat).state ≠ .fault →
        ∃ u, exec (.calCaptureBottom f) s = acceptedFor f .none u ∧
          u.key k.toNat =
            { s.key k.toNat with state := .capture, lastPlausible := none, glitchRun := 0, recoveryRun := 0,
                                 previousLines := false, timing := none, slowMark := false } ∧
          (∀ j, j ≠ k.toNat → u.key j = s.key j) ∧
          ((s.key k.toNat).state.isStroke = true → (u.sound k.toNat).owner ≠ some .live) ∧
          u.scanner.capture = some (.bottom f.now k.toNat (s.key k.toNat).cal.restRaw none) ∧ u.pedals = s.pedals))) ∧
  (∀ (now accepted : Time) (k raw restRaw : Nat) (best : Option Farthest) (s : State),
    s.system.mainOn = true → s.scanner.capture = some (.bottom accepted k restRaw best) → 1 ≤ k → k ≤ 88 →
    (s.key k).state = .capture → raw ≤ 1023 → 2000000 ≤ (now - accepted).toNat →
    let heard := State.watchSample k raw { s with now := now }
    let reading : Option Nat := best.bind (fun b => if 64 ≤ b.distance then some b.raw else none)
    let c : KeyCal := { (s.key k).cal with bottomRaw := reading.getD (s.key k).cal.bottomRaw }
    exec (.keySample now k raw) s = exec (.bottomCaptureComplete now raw) s ∧
    exec (.bottomCaptureComplete now raw) s =
      .next (({ heard with
        scanner := { heard.scanner with
          capture := none
          lastCapture := some
            { kind := .bottom, key := some k, outcome := .complete, failed := if reading.isSome then 0 else 1,
              lowestFailed := if reading.isSome then none else some k } } }.setKey k
        { s.key k with cal := c, lastRaw := some raw, state := if c.valid then .suspended else .uncalibrated,
                       lastPlausible := none, glitchRun := 0, recoveryRun := 0, previousLines := false, timing := none,
                       slowMark := false }).post .calDone))

/-- KEY_WATCH, what the watch collects from the samples of its key, and KEY_REPORT (R19, R21): the first sample and then every
tenth give one pair each, the eighth pair fills the group, and a KEY_WATCH entry is offered to the Panel Stream. The codes of the
one-byte options, and RANGE for a byte with no code, are the model's reading of R202 and R203 (assumption 14). -/
def Obligations.KeyWatchAndKeyReport : Prop :=
  (∀ (f : Frame) (k : Byte) (rest : List Byte) (s : State), s.canTake f (k :: rest) →
    exec (.keyWatch f) s =
      if k.toNat = 0 then
        okFor f .none { s.received f with scanner := { s.scanner with watch := none } }
      else if k.toNat ≤ 88 then
        okFor f .none { s.received f with
          scanner := { s.scanner with watch := some { key := k.toNat, skip := 0, firstStamp := f.now, group := [] } } }
      else refusedWith f .range s) ∧
  (∀ (now : Time) (k raw : Nat) (w : Watch) (s : State), s.system.mainOn = true → 1 ≤ k → k ≤ 88 → raw ≤ 1023 →
    s.scanner.watch = some w →
    let heard := State.watchSample k raw { s with now := now }
    let watches (x : Watch) : State := { s with now := now, scanner := { s.scanner with watch := some x } }
    let c := (s.key k).cal
    let pair : WatchPair :=
      { raw := raw,
        depth := if c.valid = true ∧ 8 ≤ raw ∧ raw ≤ 1015 then some (depthOf raw c.restRaw c.bottomRaw) else none }
    let first := if w.group = [] then now else w.firstStamp
    let emptied := watches { w with skip := 9, firstStamp := first, group := [] }
    (∃ t, exec (.keySample now k raw) s = .next t ∧ t.scanner.watch = heard.scanner.watch) ∧
    (w.key ≠ k → heard = { s with now := now }) ∧
    (w.key = k → w.skip ≠ 0 → heard = watches { w with skip := w.skip - 1 }) ∧
    (w.key = k → w.skip = 0 → w.group.length < 7 →
      heard = watches { w with skip := 9, firstStamp := first, group := w.group ++ [pair] }) ∧
    (w.key = k → w.skip = 0 → 7 ≤ w.group.length → s.panel.stream.length < 64 →
      heard =
        { emptied with
          panel := { s.panel with stream := s.panel.stream ++ [.keyWatch k first (w.group ++ [pair])] } }) ∧
    (w.key = k → w.skip = 0 → 7 ≤ w.group.length → 64 ≤ s.panel.stream.length →
      heard = { emptied with panel := { s.panel with drops := min (s.panel.drops + 1) 255 } })) ∧
  (∀ (f : Frame) (k clear : Byte) (rest : List Byte) (s : State), s.canTake f (k :: clear :: rest) →
    exec (.keyReport f) s =
      if 1 ≤ k.toNat ∧ k.toNat ≤ 88 ∧ clear.toNat ≤ 1 then
        let key := s.key k.toNat
        okFor f
          (.keyReport
            { state := key.state, cal := key.cal, lastRaw := key.lastRaw, depth := key.lastPlausible.map Plausible.depth,
              glitchRun := key.glitchRun, recoveryRun := key.recoveryRun, previousLines := key.previousLines,
              strikes := key.strikes, partials := key.partials, glitches := key.glitches,
              inCapture := Capture.includes s.scanner.capture k.toNat })
          (if clear.toNat = 1 then (s.received f).setKey k.toNat { key with strikes := 0, partials := 0, glitches := 0 }
          else s.received f)
      else refusedWith f .range s)

/-! ### Strike timing and velocity (R23 to R45) -/

/-- KEY_LINES (R25, R203): a read, a frame of 1 to 7 bytes, and the three outcomes of a change. That a change carries its set as four
fields of 2 bytes in the order START, DAMP, REARM, STRIKE is the model's reading (assumption 14). -/
def Obligations.KeyLinesChangeForKeysAtRest : Prop :=
  (∀ (f : Frame) (s : State), s.canTake f [] →
    exec (.keyLines f) s = okFor f (.keyLines s.strokes.current s.onPrevious) (s.received f)) ∧
  (∀ (f : Frame) (p : List Byte) (s : State), s.canTake f p → 1 ≤ p.length → p.length ≤ 7 →
    exec (.keyLines f) s = answered f { status := .length, data := .none }
      ((s.received f).modLink f.link (fun l => { l with malformed := min (l.malformed + 1) 255 }))) ∧
  (∀ (f : Frame) (s1 s0 d1 d0 r1 r0 k1 k0 : Byte) (rest : List Byte) (s : State),
    s.canTake f (s1 :: s0 :: d1 :: d0 :: r1 :: r0 :: k1 :: k0 :: rest) →
    let l : LineSet := { start := num2 s1 s0, damp := num2 d1 d0, rearm := num2 r1 r0, strike := num2 k1 k0 }
    let wellFormed := 50 ≤ l.start ∧ l.start + 20 ≤ l.damp ∧ l.damp + 20 ≤ l.rearm ∧ l.rearm + 20 ≤ l.strike ∧ l.strike ≤ 950
    (¬wellFormed →
      exec (.keyLines f) s =
        answered f { status := .range, data := .keyLines s.strokes.current s.onPrevious } (s.received f)) ∧
    (wellFormed → s.onPrevious ≠ 0 →
      exec (.keyLines f) s =
        answered f { status := .busy, data := .keyLines s.strokes.current s.onPrevious } (s.received f)) ∧
    (wellFormed → s.onPrevious = 0 →
      ∃ u, exec (.keyLines f) s = okFor f (.keyLines l s.strokeCount) u ∧
        u.strokes =
          { s.strokes with current := l, previous := if s.strokeCount = 0 then none else some s.strokes.current } ∧
        (∀ k, u.key k = if (s.key k).state.inFlight then { s.key k with previousLines := true } else s.key k) ∧
        u.router = s.router ∧ u.tone = (s.received f).tone ∧ u.pedals = s.pedals ∧ u.rail = s.rail))

/-- CURVE_WRITE (R39, R40): 16 breakpoints of 3 bytes of s and 1 byte of v replace the slot whole, or RANGE changes nothing. -/
def Obligations.CurveWriteReplacesASlotWhole : Prop :=
  ∀ (f : Frame) (slot : Byte) (points : List (Byte × Byte × Byte × Byte)) (rest : List Byte) (s : State),
    points.length = 16 → s.canTake f (slot :: (points.flatMap (fun q => [q.1, q.2.1, q.2.2.1, q.2.2.2]) ++ rest)) →
    let c : Curve := points.map (fun q => { speed := num3 q.1 q.2.1 q.2.2.1, velocity := q.2.2.2.toNat })
    let good := slot.toNat < 4 ∧ (∀ b ∈ c, b.speed ≤ 1048575 ∧ 1 ≤ b.velocity ∧ b.velocity ≤ 127) ∧
      c.Pairwise (fun a b => a.speed < b.speed) ∧ c.Pairwise (fun a b => a.velocity ≤ b.velocity)
    (good →
      exec (.curveWrite f) s =
        okFor f .none { s.received f with strokes := { s.strokes with curves := s.strokes.curves.set slot.toNat c } }) ∧
    (¬good → exec (.curveWrite f) s = refusedWith f .range s)

/-- CURVE_SELECT, CURVE_READ and STROKE_SLOW_LIMIT (R41 to R43). -/
def Obligations.CurveSelectReadAndSlowLimit : Prop :=
  (∀ (f : Frame) (slot : Byte) (rest : List Byte) (s : State), s.canTake f (slot :: rest) →
    exec (.curveSelect f) s =
      (if slot.toNat < 4 then okFor f .none { s.received f with strokes := { s.strokes with active := slot.toNat } }
      else refusedWith f .range s) ∧
    exec (.curveRead f) s =
      (if slot.toNat < 4 then
        okFor f (.curve (s.strokes.curves.getD slot.toNat []) s.strokes.active s.strokes.slowLimit) (s.received f)
      else refusedWith f .range s)) ∧
  (∀ (f : Frame) (a b : Byte) (rest : List Byte) (s : State), s.canTake f (a :: b :: rest) →
    exec (.strokeSlowLimit f) s =
      okFor f (.slowLimit (max 100 (min (num2 a b) 2000)))
        { s.received f with strokes := { s.strokes with slowLimit := max 100 (min (num2 a b) 2000) } })

/-- The curve value of a speed (R36): v0 up to s0, v15 from s15 on, the straight line between two breakpoints rounded half up, and
always within 1..127. -/
def Obligations.CurveValueFollowsTheBreakpoints : Prop :=
  ∀ (curve : Curve) (s : Nat), curve.length = 16 → (∀ b ∈ curve, 1 ≤ b.velocity ∧ b.velocity ≤ 127) →
    curve.Pairwise (fun a b => a.speed < b.speed) → curve.Pairwise (fun a b => a.velocity ≤ b.velocity) →
    (∀ b, curve[0]? = some b → s ≤ b.speed → curveValue s curve = b.velocity) ∧
    (∀ b, curve[15]? = some b → b.speed ≤ s → curveValue s curve = b.velocity) ∧
    (∀ i a b, curve[i]? = some a → curve[i + 1]? = some b → a.speed ≤ s → s < b.speed →
      curveValue s curve =
        a.velocity + ((s - a.speed) * (b.velocity - a.velocity) + (b.speed - a.speed) / 2) / (b.speed - a.speed)) ∧
    1 ≤ curveValue s curve ∧ curveValue s curve ≤ 127

/-- A plausible sample of a key on its way down (R27 to R30, R33): in REST it begins no stroke, a stroke, or a stroke and its
strike at once; in DESCENDING it strikes, turns back or goes on; in REARMED it begins a restrike, completes one, or does both at
once. The line set that judges the key is well-formed, which R24 and R25 keep. A strike has its interpolated crossings, speed and
velocity (R35, R37) and reaches the Note Router and then the Transport (R44). At the Router a SILENT key sounds, or its NOTE_ON is
refused (R58), and a key SOUNDING with owner LIVE is struck again (R59), each with its monitor copy (R67). A key that turns back as
the last in a stroke ends the rail's wait for quiet (R34, R89). The key watch has heard the sample first (R19), and the intents come
before the quiet report, which is the model's reading (assumption 26). -/
def Obligations.StrikeSoundsTheKey : Prop :=
  ∀ (now : Time) (k raw : Nat) (p : Plausible) (s : State),
    s.system.mainOn = true → 1 ≤ k → k ≤ 88 → 8 ≤ raw → raw ≤ 1015 → (s.key k).lastPlausible = some p →
    (s.strokes.lines (s.key k)).wellFormed = true →
    let heard := State.watchSample k raw { s with now := now }
    let l := s.strokes.lines (s.key k)
    let depth := depthOf raw (s.key k).cal.restRaw (s.key k).cal.bottomRaw
    let key :=
      { s.key k with
        lastRaw := some raw, lastPlausible := some { raw := raw, depth := depth, stamp := now }, glitchRun := 0 }
    let rises (x : Nat) : Prop := p.depth < x ∧ x ≤ depth
    let falls (x : Nat) : Prop := x ≤ p.depth ∧ depth < x
    let crossed (x : Nat) : Time :=
      p.stamp + BitVec.ofNat 32 ((x - p.depth) * (now - p.stamp).toNat / (depth - p.depth))
    let slow (start : Time) : Bool := key.slowMark || decide (s.strokes.slowLimit * 1000 < (now - start).toNat)
    let velocity (marked : Bool) (distance : Nat) (start : Time) : Nat :=
      let speed := min (distance * 1000000 / max 1 (crossed l.strike - start).toNat) 1048575
      if marked then 1 else (max 1 (min ((curveValue speed s.strokes.activeCurve : Int) + key.cal.trim) 127)).toNat
    let transit := decide (s.rail.state = .engaging ∨ s.rail.state = .retracting)
    let becomes (key : Key) : Prop := exec (.keySample now k raw) s = .next (heard.keyBecomes k key)
    let struck := { key with state := .struck, timing := none, slowMark := false, strikes := min (key.strikes + 1) 65535 }
    let strikes (velocity : Nat) : Prop :=
      let before := heard.keyBecomes k struck
      let u := before.onIntent k velocity .live transit (crossed l.strike)
      let on : ToneEntry := .noteOn k velocity .live { transit := transit } (crossed l.strike)
      let off : ToneEntry := .noteOff k 64 .live { restrike := true } (crossed l.strike)
      let again : ToneEntry := .noteOn k velocity .live { restrike := true, transit := transit } (crossed l.strike)
      let sounds : Prop :=
        u.sound k = { owner := some .live, lastVelocity := some velocity, released := false, announced := true } ∧
        (∀ j, j ≠ k → u.sound j = s.sound j) ∧ u.router.sostenutoSet = s.router.sostenutoSet
      let copies (entries : List PanelEntry) : Prop :=
        (s.router.copy = .off → u.panel = heard.panel) ∧
        (s.router.copy.covers k = true → heard.panel.stream.length + entries.length ≤ 64 →
          u.panel.stream = heard.panel.stream ++ entries)
      exec (.keySample now k raw) s = .next (u.liveStrike k velocity (crossed l.strike)) ∧
      (s.transport.state = .idle → exec (.keySample now k raw) s = .next u) ∧
      u.scanner = before.scanner ∧ u.strokes = before.strokes ∧ u.pedals = s.pedals ∧ u.rail = s.rail ∧ u.store = s.store ∧
      u.transport = s.transport ∧
      ((s.sound k).owner = none → s.tone.queue.length < 168 →
        sounds ∧ u.tone.queue = s.tone.queue ++ [{ entry := on, admitted := now }] ∧
        copies [.noteCopy on none .admitted]) ∧
      ((s.sound k).owner = none → 168 ≤ s.tone.queue.length →
        u.router = { s.router with droppedOn := min (s.router.droppedOn + 1) 65535 } ∧ u.tone = s.tone ∧
        copies [.noteCopy on none .refused]) ∧
      ((s.sound k).owner = some .live → (s.sound k).announced = true → s.tone.queue.length < 167 →
        sounds ∧
        u.tone.queue = s.tone.queue ++ [{ entry := off, admitted := now }, { entry := again, admitted := now }] ∧
        copies [.noteCopy off none .admitted, .noteCopy again none .admitted])
    (key.state = .rest →
      (¬rises l.start → becomes key) ∧
      (rises l.start → depth < l.strike →
        becomes { key with state := .descending, timing := some { kind := .start, time := crossed l.start },
                           slowMark := false }) ∧
      (rises l.start → l.strike ≤ depth → strikes (velocity false (l.strike - l.start) (crossed l.start)))) ∧
    (∀ start, key.state = .descending → key.timing = some { kind := .start, time := start } →
      (rises l.strike → strikes (velocity (slow start) (l.strike - l.start) start)) ∧
      (falls l.start →
        let back := { key with state := .rest, timing := none, slowMark := false, previousLines := false,
                               partials := min (key.partials + 1) 65535 }
        (s.rail.state ≠ .waitQuiet ∨ s.strokeCount ≠ 1 → becomes back) ∧
        (∀ target, s.rail.state = .waitQuiet → s.strokeCount = 1 → s.rail.target = some target →
          ∃ t, exec (.keySample now k raw) s = .next t ∧ t.scanner = (heard.keyBecomes k back).scanner ∧
            t.strokes = (heard.keyBecomes k back).strokes ∧ s.rail.leavesWait t.rail target now ∧
            t.announces .railState ∧ t.router = s.router ∧ t.tone = s.tone ∧ t.pedals = s.pedals ∧ t.store = s.store ∧
            t.transport = s.transport ∧ t.panel = heard.panel)) ∧
      (¬rises l.strike → ¬falls l.start → becomes { key with slowMark := slow start })) ∧
    (∀ start, key.state = .rearmed → key.timing = some { kind := .rearmDown, time := start } → rises l.rearm →
      (depth < l.strike →
        becomes { key with timing := some { kind := .rearmUp, time := crossed l.rearm }, slowMark := false }) ∧
      (l.strike ≤ depth → strikes (velocity false (l.strike - l.rearm) (crossed l.rearm)))) ∧
    (∀ start, key.state = .rearmed → key.timing = some { kind := .rearmUp, time := start } → rises l.strike →
      strikes (velocity (slow start) (l.strike - l.rearm) start))

/-- A plausible sample of a key on its way up (R27, R31 to R33): in STRUCK it stays, enters REARMED at the falling crossing of
REARM, or is released by the same sample; in REARMED the timing is restarted at a falling crossing of REARM, and the falling
crossing of DAMP releases the key. The line set that judges the key is well-formed, which R24 and R25 keep. A release has its
interpolated crossings, speed and velocity (R35, R38) and reaches the Note Router and then the Transport (R45). At the Router a
key SOUNDING with owner LIVE and announced, not held by sostenuto, is silenced with one NOTE_OFF (R60) and its monitor copy (R67).
The last key in a stroke ends the rail's wait for quiet (R34, R89). The key watch has heard the sample first (R19), and the intents
come before the quiet report, which is the model's reading (assumption 26). -/
def Obligations.ReleaseSilencesTheKey : Prop :=
  ∀ (now : Time) (k raw : Nat) (p : Plausible) (s : State),
    s.system.mainOn = true → 1 ≤ k → k ≤ 88 → 8 ≤ raw → raw ≤ 1015 → (s.key k).lastPlausible = some p →
    (s.strokes.lines (s.key k)).wellFormed = true →
    let heard := State.watchSample k raw { s with now := now }
    let l := s.strokes.lines (s.key k)
    let depth := depthOf raw (s.key k).cal.restRaw (s.key k).cal.bottomRaw
    let key :=
      { s.key k with
        lastRaw := some raw, lastPlausible := some { raw := raw, depth := depth, stamp := now }, glitchRun := 0 }
    let rises (x : Nat) : Prop := p.depth < x ∧ x ≤ depth
    let falls (x : Nat) : Prop := x ≤ p.depth ∧ depth < x
    let crossed (x : Nat) : Time :=
      p.stamp + BitVec.ofNat 32 ((p.depth - x) * (now - p.stamp).toNat / (p.depth - depth))
    let slow (start : Time) : Bool := key.slowMark || decide (s.strokes.slowLimit * 1000 < (now - start).toNat)
    let becomes (key : Key) : Prop := exec (.keySample now k raw) s = .next (heard.keyBecomes k key)
    let restarted := { key with state := .rearmed, timing := some { kind := .rearmDown, time := crossed l.rearm },
                                slowMark := false }
    let rested := { key with state := .rest, timing := none, slowMark := false, previousLines := false }
    let releases (marked : Bool) (start : Time) : Prop :=
      let speed := min ((l.rearm - l.damp) * 1000000 / max 1 (crossed l.damp - start).toNat) 1048575
      let velocity := if marked then 64 else curveValue speed s.strokes.activeCurve
      let before := heard.keyBecomes k rested
      let u := before.offIntent k velocity .live (crossed l.damp)
      let v := u.liveRelease k velocity (crossed l.damp)
      let off : ToneEntry := .noteOff k velocity .live {} (crossed l.damp)
      (s.rail.state ≠ .waitQuiet ∨ s.strokeCount ≠ 1 → exec (.keySample now k raw) s = .next v) ∧
      (∀ target, s.rail.state = .waitQuiet → s.strokeCount = 1 → s.rail.target = some target →
        ∃ t, exec (.keySample now k raw) s = .next t ∧ t.scanner = before.scanner ∧ t.strokes = before.strokes ∧
          s.rail.leavesWait t.rail target now ∧ t.announces .railState ∧ t.router = u.router ∧ t.tone = u.tone ∧
          t.pedals = s.pedals ∧ t.store = v.store ∧ t.transport = v.transport ∧ t.panel = v.panel) ∧
      (s.transport.state ≠ .recording → v = u) ∧
      u.scanner = before.scanner ∧ u.strokes = before.strokes ∧ u.pedals = s.pedals ∧ u.rail = s.rail ∧ u.store = s.store ∧
      u.transport = s.transport ∧
      ((s.sound k).owner = some .live → (s.sound k).announced = true →
        (k ∉ s.router.sostenutoSet ∨ s.pedals.sostenuto.effective = false) → s.tone.queue.length < 192 →
        u.sound k = { s.sound k with owner := none, released := false, announced := false } ∧
        (∀ j, j ≠ k → u.sound j = s.sound j) ∧ u.router.sostenutoSet = s.router.sostenutoSet ∧
        u.tone.queue = s.tone.queue ++ [{ entry := off, admitted := now }] ∧
        (s.router.copy = .off → u.panel = heard.panel) ∧
        (s.router.copy.covers k = true → heard.panel.stream.length < 64 →
          u.panel.stream = heard.panel.stream ++ [.noteCopy off none .admitted]))
    (key.state = .struck →
      (¬falls l.rearm → becomes key) ∧
      (falls l.rearm → l.damp ≤ depth → becomes restarted) ∧
      (falls l.rearm → depth < l.damp → releases false (crossed l.rearm))) ∧
    (∀ start, key.state = .rearmed → key.timing = some { kind := .rearmDown, time := start } →
      (falls l.damp → releases (slow start) start) ∧
      (¬falls l.damp → ¬rises l.rearm → becomes { key with slowMark := slow start })) ∧
    (∀ start, key.state = .rearmed → key.timing = some { kind := .rearmUp, time := start } →
      (falls l.rearm → l.damp ≤ depth → becomes restarted) ∧
      (falls l.rearm → depth < l.damp → releases false (crossed l.rearm)) ∧
      (¬falls l.rearm → ¬rises l.strike → becomes { key with slowMark := slow start }))

/-! ### Pedals, the Note Router and the Tone Stream (R46 to R82) -/

/-- What a pedal sample does on the sensing side, by the pedal's state (R46, R47), and CAL_WRITE to a pedal (R48). The sample that
completes a recovery is judged as one of an ACTIVE pedal (R47), as is stated of ACTIVE pedals below. The byte layout of the record and
RANGE for an enabled byte above 1 are the model's reading of R202 and R203 (assumption 14). -/
def Obligations.PedalSensing : Prop :=
  (∀ (now : Time) (p : PedalId) (raw : Nat) (s : State), s.system.mainOn = true → raw ≤ 1023 →
    let x := s.pedals.sense p
    ((x.state = .invalid → exec (.pedalSample now p raw) s = .next { s with now := now }) ∧
    (x.state = .active → (raw < 8 ∨ 1015 < raw) → x.glitchRun < 3 →
      exec (.pedalSample now p raw) s = .next ({ s with now := now }.setSense p { x with glitchRun := x.glitchRun + 1 })) ∧
    (x.state = .active → (raw < 8 ∨ 1015 < raw) → 3 ≤ x.glitchRun →
      ∃ t, exec (.pedalSample now p raw) s = .next t ∧
        t.pedals.sense p = { x with state := .fault, glitchRun := 0, recoveryRun := 0 } ∧
        t.pedals.reported p = 0 ∧ t.announces .keyFault ∧ t.scanner = s.scanner ∧ t.rail = s.rail) ∧
    (x.state = .fault → (raw < 8 ∨ 1015 < raw) →
      exec (.pedalSample now p raw) s = .next ({ s with now := now }.setSense p { x with recoveryRun := 0 })) ∧
    (x.state = .fault → 8 ≤ raw → raw ≤ 1015 → x.recoveryRun < 63 →
      exec (.pedalSample now p raw) s =
        .next ({ s with now := now }.setSense p { x with recoveryRun := x.recoveryRun + 1 })) ∧
    (x.state = .fault → 8 ≤ raw → raw ≤ 1015 → 63 ≤ x.recoveryRun →
      ∃ t, exec (.pedalSample now p raw) s = .next t ∧
        t.pedals.sense p = { x with state := .active, glitchRun := 0, recoveryRun := 0 } ∧
        t.announces .keyFault ∧ t.scanner = s.scanner ∧ t.rail = s.rail ∧
        ∃ u, exec (.pedalSample now p raw)
            (s.setSense p { x with state := .active, glitchRun := 0, recoveryRun := 0 }) = .next u ∧
          t.pedals = u.pedals ∧ t.tone = u.tone ∧ t.router = u.router ∧ t.store = u.store ∧ t.transport = u.transport))) ∧
  (∀ (f : Frame) (p : PedalId) (r1 r0 b1 b0 trim enabled : Byte) (rest : List Byte) (s : State),
    s.canTake f (BitVec.ofNat 8 (128 + pedalCode p) :: r1 :: r0 :: b1 :: b0 :: trim :: enabled :: rest) →
    ((1023 < num2 r1 r0 ∨ 1023 < num2 b1 b0 ∨ 1 < enabled.toNat) → exec (.calWrite f) s = refusedWith f .range s) ∧
    (num2 r1 r0 ≤ 1023 → num2 b1 b0 ≤ 1023 → enabled.toNat ≤ 1 →
      let c : PedalCal :=
        { restRaw := num2 r1 r0, fullRaw := num2 b1 b0, enabled := decide (enabled.toNat = 1) }
      ∃ u, exec (.calWrite f) s = okFor f .none u ∧
        u.pedals.sense p =
          { cal := c, state := if c.valid then .active else .invalid, glitchRun := 0, recoveryRun := 0 } ∧
        u.pedals.reported p = (if c.valid then s.pedals.reported p else 0) ∧
        (c.valid = true → (s.pedals.sense p).state = .fault → u.announces .keyFault) ∧
        (∀ q, q ≠ p → u.pedals.sense q = s.pedals.sense q ∧ u.pedals.reported q = s.pedals.reported q) ∧
        u.scanner = s.scanner ∧ u.rail = s.rail)) ∧
  (∀ (f : Frame) (target r1 r0 b1 b0 trim enabled : Byte) (rest : List Byte) (s : State),
    s.canTake f (target :: r1 :: r0 :: b1 :: b0 :: trim :: enabled :: rest) →
    (target.toNat = 0 ∨ 88 < target.toNat) → (target.toNat < 0x81 ∨ 0x83 < target.toNat) →
    exec (.calWrite f) s = refusedWith f .range s)

/-- A plausible sample of an ACTIVE pedal: the reported level with its deadband and ends (R49), the switch with its hysteresis (R50),
the effective value, the PEDAL entry and the sostenuto edge (R52, R63, R64), and, in RECORDING, the PEDAL record of each live change
(R53, R137, R154), with room for it and no GAP expiry ahead of it. -/
def Obligations.PedalDepthsMoveLevelsAndSwitch : Prop :=
  (∀ (now : Time) (p : LevelId) (raw : Nat) (s : State), s.system.mainOn = true → 8 ≤ raw → raw ≤ 1015 →
    s.tone.queue.length < 192 → (s.pedals.level p).sense.state = .active →
    let x := s.pedals.level p
    let computed := (depthOf raw x.sense.cal.restRaw x.sense.cal.fullRaw * 127 + 500) / 1000
    let replaces := 2 ≤ max computed x.live - min computed x.live ∨ ((computed = 0 ∨ computed = 127) ∧ computed ≠ x.live)
    let live := if replaces then computed else x.live
    let level := if replaces then max computed x.playback else x.effective
    ∃ t, exec (.pedalSample now p.pedal raw) s = .next t ∧
      t.pedals =
        s.pedals.setLevel p { x with sense := { x.sense with glitchRun := 0 }, live := live, effective := level } ∧
      t.tone.queue =
        s.tone.queue ++
          (if level = x.effective then []
          else
            [{ entry := .pedal p level (if x.playback ≤ live then .live else .playback) now, admitted := now }]) ∧
      t.router = s.router ∧ t.scanner = s.scanner ∧ t.rail = s.rail ∧
      ((s.transport.state ≠ .recording ∨ live = x.live) → t.store = s.store ∧ t.transport = s.transport) ∧
      (∀ c e, s.transport.state = .recording → live ≠ x.live → s.records c e now →
        t.transport = s.transport ∧
        s.store.writes t.store c e 3 (BitVec.ofNat 8 (pedalCode p.pedal)) (BitVec.ofNat 8 live) (c.positionAt now) c.openNotes
          (match p with
          | .damper => { c.levels with damper := live }
          | .soft => { c.levels with soft := live }))) ∧
  (∀ (now : Time) (raw : Nat) (s : State), s.system.mainOn = true → 8 ≤ raw → raw ≤ 1015 →
    s.pedals.sostenuto.sense.state = .active →
    let x := s.pedals.sostenuto
    let depth := depthOf raw x.sense.cal.restRaw x.sense.cal.fullRaw
    let live := if 550 ≤ depth then true else if depth < 450 then false else x.live
    let on := if live = x.live then x.effective else live || x.playback
    ∃ t, exec (.pedalSample now .sostenuto raw) s = .next t ∧
      t.pedals =
        { s.pedals with
          sostenuto := { x with sense := { x.sense with glitchRun := 0 }, live := live, effective := on } } ∧
      (on = true → x.effective = false →
        t.router = { s.router with sostenutoSet := keyNumbers.filter (fun k => (s.sound k).owner.isSome) } ∧
        t.tone = s.tone) ∧
      (on = false → x.effective = true →
        t.router.sostenutoSet = [] ∧
        ∀ k, (t.sound k).owner =
          if k ∈ s.router.sostenutoSet ∧ (s.sound k).released = true then none else (s.sound k).owner) ∧
      (on = x.effective → t.router = s.router ∧ t.tone = s.tone) ∧ t.scanner = s.scanner ∧ t.rail = s.rail ∧
      ((s.transport.state ≠ .recording ∨ live = x.live) → t.store = s.store ∧ t.transport = s.transport) ∧
      (∀ c e, s.transport.state = .recording → live ≠ x.live → s.records c e now →
        t.transport = s.transport ∧
        s.store.writes t.store c e 3 2 (if live then 127 else 0) (c.positionAt now) c.openNotes
          { c.levels with sostenuto := live }))

/-- NOTE_COPY and SOUNDING_REPORT (R66, R67). The setting byte of NOTE_COPY (1 off, 2 all keys, 3 the range) and the clear
byte (0 or 1) are the model's choice (assumption 14). -/
def Obligations.NoteCopyAndSoundingReport : Prop :=
  (∀ (f : Frame) (setting lo hi : Byte) (rest : List Byte) (s : State), s.canTake f (setting :: lo :: hi :: rest) →
    exec (.noteCopy f) s =
      if setting = 1 then okFor f .none { s.received f with router := { s.router with copy := .off } }
      else if setting = 2 then okFor f .none { s.received f with router := { s.router with copy := .all } }
      else if setting = 3 ∧ 1 ≤ lo.toNat ∧ lo.toNat ≤ hi.toNat ∧ hi.toNat ≤ 88 then
        okFor f .none { s.received f with router := { s.router with copy := .range lo.toNat hi.toNat } }
      else refusedWith f .range s) ∧
  (∀ (f : Frame) (clear : Byte) (rest : List Byte) (s : State), s.canTake f (clear :: rest) →
    let report : SoundingReport :=
      { table := s.router.table, sostenutoSet := s.router.sostenutoSet, damper := s.pedals.damper.effective,
        soft := s.pedals.soft.effective, sostenuto := s.pedals.sostenuto.effective, strayOff := s.router.strayOff,
        foreignOff := s.router.foreignOff, droppedOn := s.router.droppedOn }
    exec (.soundingReport f) s =
      if clear = 0 then okFor f (.sounding report) (s.received f)
      else if clear = 1 then
        okFor f (.sounding report)
          { s.received f with router := { s.router with strayOff := 0, foreignOff := 0, droppedOn := 0 } }
      else refusedWith f .range s)

/-- ALL_NOTES_OFF (R65): every key SILENT, the Sostenuto Set empty, one ALL_OFF offered, and nothing else of the notes, pedals or
counters changed. -/
def Obligations.AllNotesOffSilencesEverything : Prop :=
  ∀ (f : Frame) (p : List Byte) (s : State), s.canTake f p →
    ∃ u, exec (.allNotesOff f) s = okFor f .none u ∧
      (∀ k, u.sound k = { s.sound k with owner := none, released := false, announced := false }) ∧
      u.router = { s.router with table := u.router.table, sostenutoSet := [] } ∧
      (s.tone.queue.length < 192 →
        u.tone.queue = s.tone.queue ++ [{ entry := .allOff f.now, admitted := f.now }]) ∧
      (192 ≤ s.tone.queue.length → u.tone.queue = [{ entry := .allOff f.now, admitted := f.now }]) ∧
      u.tone.resyncs = s.tone.resyncs ∧ u.tone.lastOverflow = s.tone.lastOverflow ∧
      (s.router.copy ≠ .off → s.panel.stream.length < 64 →
        u.panel.stream = s.panel.stream ++ [.noteCopy (.allOff f.now) (some .panic) .admitted]) ∧
      u.pedals = s.pedals ∧ u.scanner = s.scanner ∧ u.rail = s.rail ∧ u.store = s.store ∧ u.transport = s.transport ∧
      u.linkT = (s.received f).linkT ∧ u.linkP = (s.received f).linkP

/-- What an intent does to a key that sounds: a restrike ON intent with its NOTE_OFF and NOTE_ON judged in turn (R59), the four
cases of an OFF intent (R60), and a FORCE_OFF for one key or for all (R61). -/
def Obligations.IntentsOnSoundingKeys : Prop :=
  (∀ (k velocity : Nat) (owner source : Source) (transit : Bool) (time : Time) (s : State), 1 ≤ k → k ≤ 88 →
    (s.sound k).owner = some owner →
    let u := s.onIntent k velocity source transit time
    let queued (e : ToneEntry) : Queued := { entry := e, admitted := s.now }
    let off := queued (.noteOff k 64 owner { restrike := true } time)
    let on := queued (.noteOn k velocity source { restrike := true, transit := transit } time)
    let announced := (s.sound k).announced
    let room := if announced then 167 else 168
    let sounds := u.sound k = { owner := some source, lastVelocity := some velocity, released := false, announced := true } ∧
      u.router.sostenutoSet = s.router.sostenutoSet ∧ u.router.droppedOn = s.router.droppedOn
    (s.tone.queue.length < room →
      sounds ∧ u.tone.queue = s.tone.queue ++ ((if announced then [off] else []) ++ [on]) ∧
      ∀ j, j ≠ k → u.sound j = s.sound j) ∧
    (room ≤ s.tone.queue.length → (announced = true → s.tone.queue.length < 192) →
      u.sound k = { s.sound k with owner := none, released := false, announced := false } ∧
      (∀ j, j ∈ u.router.sostenutoSet ↔ j ∈ s.router.sostenutoSet ∧ j ≠ k) ∧
      u.router.droppedOn = min (s.router.droppedOn + 1) 65535 ∧
      u.tone.queue = s.tone.queue ++ (if announced then [off] else []) ∧ ∀ j, j ≠ k → u.sound j = s.sound j) ∧
    (announced = true → 192 ≤ s.tone.queue.length →
      sounds ∧ u.tone.queue = [queued (.resync s.now), on] ∧
      (∀ j, j ≠ k → u.sound j = { s.sound j with announced := false }) ∧ u.announces .queueResync) ∧
    u.router.strayOff = s.router.strayOff ∧ u.router.foreignOff = s.router.foreignOff ∧ u.scanner = s.scanner ∧
    u.pedals = s.pedals ∧ u.rail = s.rail ∧ u.store = s.store ∧ u.transport = s.transport) ∧
  (∀ (k velocity : Nat) (source : Source) (time : Time) (s : State), 1 ≤ k → k ≤ 88 →
    ((s.sound k).owner = none →
      s.offIntent k velocity source time =
        { s with router := { s.router with strayOff := min (s.router.strayOff + 1) 65535 } }) ∧
    (∀ other, (s.sound k).owner = some other → other ≠ source →
      s.offIntent k velocity source time =
        { s with router := { s.router with foreignOff := min (s.router.foreignOff + 1) 65535 } }) ∧
    ((s.sound k).owner = some source → k ∈ s.router.sostenutoSet → s.pedals.sostenuto.effective = true →
      s.offIntent k velocity source time = s.setSound k { s.sound k with released := true }) ∧
    ((s.sound k).owner = some source → (k ∉ s.router.sostenutoSet ∨ s.pedals.sostenuto.effective = false) →
      let silent := { s.sound k with owner := none, released := false, announced := false }
      ((s.sound k).announced = false → s.offIntent k velocity source time = s.setSound k silent) ∧
      ((s.sound k).announced = true →
        s.offIntent k velocity source time =
          ((s.setSound k silent).offerNote (.noteOff k velocity source {} time) k none).1))) ∧
  (∀ (k : Nat) (cause : Cause) (required : Option Source) (time : Time) (s : State), 1 ≤ k → k ≤ 88 →
    let u := s.forceOff cause required time k
    let entry (owner : Source) : ToneEntry := .noteOff k 64 owner { forced := true } time
    ((s.sound k).owner = none → u = s) ∧
    (∀ owner other, (s.sound k).owner = some owner → required = some other → other ≠ owner → u = s) ∧
    (∀ owner, (s.sound k).owner = some owner → (required = none ∨ required = some owner) →
      u.sound k = { s.sound k with owner := none, released := false, announced := false } ∧
      (∀ j, j ∈ u.router.sostenutoSet ↔ j ∈ s.router.sostenutoSet ∧ j ≠ k) ∧
      u.router = { s.router with table := u.router.table, sostenutoSet := u.router.sostenutoSet } ∧
      (∀ j, j ≠ k → (u.sound j).owner = (s.sound j).owner ∧ (u.sound j).released = (s.sound j).released) ∧
      ((s.sound k).announced = false → u = { s with router := u.router }) ∧
      ((s.sound k).announced = true → s.tone.queue.length < 192 →
        u.tone.queue = s.tone.queue ++ [{ entry := entry owner, admitted := s.now }] ∧
        (∀ j, j ≠ k → u.sound j = s.sound j) ∧
        (s.router.copy = .all → s.panel.stream.length < 64 →
          u.panel.stream = s.panel.stream ++ [.noteCopy (entry owner) (some cause) .admitted])) ∧
      ((s.sound k).announced = true → 192 ≤ s.tone.queue.length →
        u.tone.queue = [{ entry := .resync s.now, admitted := s.now }] ∧ u.announces .queueResync) ∧
      u.scanner = s.scanner ∧ u.pedals = s.pedals ∧ u.rail = s.rail ∧ u.store = s.store ∧ u.transport = s.transport)) ∧
  (∀ (cause : Cause) (required : Option Source) (time : Time) (s : State),
    let u := s.forceOffAll cause required time
    let hit := keyNumbers.filter (fun k =>
      (s.sound k).announced && (s.sound k).owner.any (fun x => decide (required = none ∨ required = some x)))
    (∀ k, 1 ≤ k → k ≤ 88 →
      (u.sound k).owner =
        if required = none ∨ required = (s.sound k).owner then none else (s.sound k).owner) ∧
    (s.tone.queue.length + hit.length ≤ 192 →
      u.tone.queue = s.tone.queue ++ hit.map (fun k =>
        { entry := .noteOff k 64 ((s.sound k).owner.getD .live) { forced := true } time, admitted := s.now })) ∧
    u.router.strayOff = s.router.strayOff ∧ u.router.foreignOff = s.router.foreignOff ∧
    u.router.droppedOn = s.router.droppedOn ∧ u.scanner = s.scanner ∧ u.pedals = s.pedals ∧ u.store = s.store ∧
    u.transport = s.transport)

/-- An offer is judged on occupancy alone: NOTE_ON below 168, NOTE_OFF and PEDAL below 192 and an overflow at 192, ALL_OFF always
(R70 to R73). A slot in flight turns stale when the queue is emptied (R77). In BURST mode the latch of READY_T is set by an admission
that brings the occupancy to the trigger level, by an ALL_OFF and by a RESYNC (R79). That in SINGLE mode none of them sets it, and that
it stays there as it stood, is the model's reading (assumption 9). -/
def Obligations.OffersAreJudgedOnOccupancy : Prop :=
  ∀ (e : ToneEntry) (s : State),
    let queued : Queued := { entry := e, admitted := s.now }
    let burst := decide (s.tone.mode = .burst)
    let reaches := burst && decide (s.tone.trigger ≤ s.tone.queue.length + 1)
    let joins (sets : Bool) : Prop :=
      s.offerTone e =
        ({ s with tone := { s.tone with queue := s.tone.queue ++ [queued], latch := s.tone.latch || sets } }, .admitted)
    let emptied (placed : Queued) : Tone :=
      { s.tone with
        queue := [placed]
        latch := s.tone.latch || burst
        drain := s.tone.drain.map (fun slot => match slot with
          | .entry copy _ => .entry copy true
          | .idle => .idle) }
    (e.isNoteOn = true → s.tone.queue.length < 168 → joins reaches) ∧
    (e.isNoteOn = true → 168 ≤ s.tone.queue.length → s.offerTone e = (s, .refused)) ∧
    ((∃ k v source flags time, e = .noteOff k v source flags time) ∨ (∃ p level source time, e = .pedal p level source time) →
      (s.tone.queue.length < 192 → joins reaches) ∧
      (192 ≤ s.tone.queue.length →
        (s.offerTone e).2 = .discarded ∧
        (s.offerTone e).1.tone =
          { emptied { entry := .resync s.now, admitted := s.now } with
            resyncs := min (s.tone.resyncs + 1) 255, lastOverflow := some s.now } ∧
        (∀ k, (s.offerTone e).1.sound k = { s.sound k with announced := false }) ∧
        (s.offerTone e).1.announces .queueResync ∧ (s.offerTone e).1.pedals = s.pedals)) ∧
    (∀ time, e = .allOff time →
      (s.tone.queue.length < 192 → joins burst) ∧
      (192 ≤ s.tone.queue.length → s.offerTone e = ({ s with tone := emptied queued }, .admitted)))

/-- TONE_STREAM_SETUP, with any of its items carried, and FLUSH_TONE (R81, R82). The codes of the ready modes, of the trigger
level and of the clear option are the model's choice (assumption 14), as is the last overflow of the reply, which is the one
before the clear (assumption 36). That a latch set in BURST mode stands through SINGLE mode, where the line follows the queue alone,
is its reading (assumption 9). -/
def Obligations.ToneStreamSetupAndFlush : Prop :=
  (∀ (f : Frame) (marks : Byte) (p : List Byte) (l : List (Option Nat)) (s : State), s.canTake f (marks :: p) →
    readItems [1, 1, 1] marks.toNat p = some l →
    let good := marks.toNat < 8 ∧ (∀ m, item l 0 = some m → m = 1 ∨ m = 2) ∧
      (∀ n, item l 1 = some n → n = 1 ∨ n = 8 ∨ n = 32 ∨ n = 96) ∧ (∀ c, item l 2 = some c → c ≤ 1)
    let mode : ReadyMode := if item l 0 = some 1 then .single else if item l 0 = some 2 then .burst else s.tone.mode
    let trigger := (item l 1).getD s.tone.trigger
    (¬good → exec (.toneStreamSetup f) s = refusedWith f .range s) ∧
    (good →
      ∃ u, exec (.toneStreamSetup f) s =
          okFor f
            (.toneSetup
              { mode := mode, trigger := trigger, occupancy := s.tone.queue.length, noteOns := s.tone.noteOns,
                resyncs := s.tone.resyncs, lastOverflow := s.tone.lastOverflow }) u ∧
        u = { s.received f with tone := u.tone } ∧
        u.tone.queue = s.tone.queue ∧ u.tone.mode = mode ∧ u.tone.trigger = trigger ∧
        u.tone.resyncs = (if item l 2 = some 1 then 0 else s.tone.resyncs) ∧
        u.tone.lastOverflow = (if item l 2 = some 1 then none else s.tone.lastOverflow) ∧
        (mode = .single → u.tone.ready = !s.tone.queue.isEmpty ∧ u.tone.latch = s.tone.latch) ∧
        (mode = .burst →
          u.tone.ready =
            (!s.tone.queue.isEmpty &&
              (s.tone.latch || decide (trigger ≤ s.tone.queue.length) || s.tone.headAged f.now || s.tone.headMustNotWait))))) ∧
  (∀ (f : Frame) (p : List Byte) (s : State), s.canTake f p →
    ∃ u, exec (.flushTone f) s = okFor f (.flushed s.tone.queue.length) u ∧
      u.tone.queue = [{ entry := .resync f.now, admitted := f.now }] ∧ u.tone.ready = true ∧
      u.tone.resyncs = s.tone.resyncs ∧ u.tone.lastOverflow = s.tone.lastOverflow ∧
      (∀ k, u.sound k = { s.sound k with announced := false }) ∧ u.router.sostenutoSet = s.router.sostenutoSet ∧
      u.linkT = (s.received f).linkT ∧ u.linkP = (s.received f).linkP ∧ u.pedals = s.pedals ∧ u.scanner = s.scanner)

/-- A DRAIN exchange (R75 to R77) and the age condition (R80): the count byte, the latched copy, the removal at the eighth byte
unless the copy is stale, the NONE filler of a slot over an empty queue, and a slot that is abandoned. A removal that leaves the queue
empty clears the latch of READY_T (R79), and the new head of one that does not is judged at once in BURST mode: an aged head sets the
latch (R80), and so does an ALL_OFF or a RESYNC, which may have been admitted in SINGLE mode (assumption 9). That the filler goes out
whole at its slot's start, which no completion follows, is the model's choice (assumption 37), and so is that an event that comes
before its time leaves all but the time base as it was (assumption 11). -/
def Obligations.DrainSlotsDeliverTheHead : Prop :=
  ∀ (now : Time) (s : State), s.system.mainOn = true →
    (∃ t, exec (.drain now) s = .next t ∧ t.tone = { s.tone with drain := some .idle } ∧
      t.linkT.out = .bytes [BitVec.ofNat 8 s.tone.queue.length] ∧ t.linkT.board = s.linkT.board ∧
      t.linkT.buffer = s.linkT.buffer ∧ t.router = s.router ∧ t.linkP = s.linkP) ∧
    (∀ q rest, s.tone.drain = some .idle → s.tone.queue = q :: rest →
      exec (.drainSlotStart now) s =
        .next { s with now := now, tone := { s.tone with drain := some (.entry q.entry false) } }) ∧
    (s.tone.drain = some .idle → s.tone.queue = [] →
      exec (.drainSlotStart now) s =
        .next { s with
          now := now
          linkT := { s.linkT with out := .bytes (s.linkT.out.sofar ++ ([0, 0, 0, 0] ++ timeBytes now)) } }) ∧
    (∀ copy stale, s.tone.drain = some (.entry copy stale) →
      ∃ t, exec (.drainSlotComplete now) s = .next t ∧
        t.tone.queue = (if stale = true then s.tone.queue else s.tone.queue.drop 1) ∧ t.tone.drain = some .idle ∧
        (stale = true → t.tone.latch = s.tone.latch) ∧
        (stale = false → t.tone.queue = [] → t.tone.latch = false) ∧
        (∀ q rest, t.tone.queue = q :: rest → stale = false →
          (t.tone.latch = true ↔
            s.tone.latch = true ∨
              (s.tone.mode = .burst ∧
                (2000 ≤ (now - q.admitted).toNat ∨ ∃ time, q.entry = .allOff time ∨ q.entry = .resync time)))) ∧
        t.tone = { s.tone with queue := t.tone.queue, latch := t.tone.latch, drain := t.tone.drain } ∧
        t.linkT.out = .bytes (s.linkT.out.sofar ++ copy.bytes) ∧ t.router = s.router ∧ t.linkP = s.linkP) ∧
    (s.tone.drain = some .idle → exec (.drainSlotComplete now) s = .next { s with now := now }) ∧
    exec (.drainSlotAbandon now) s = .next { s with now := now, tone := { s.tone with drain := none } } ∧
    (∀ head rest, s.tone.queue = head :: rest →
      exec (.ageCondition now) s =
        if s.tone.mode = .burst ∧ 2000 ≤ (now - head.admitted).toNat then
          .next { s with now := now, tone := { s.tone with latch := true } }
        else .next { s with now := now }) ∧
    (s.tone.queue = [] → exec (.ageCondition now) s = .next { s with now := now })

/-! ### The Rail Drive (R84 to R110) -/

/-- A move request, by the rail's state (R88): already there, the same target again, a wait ended or turned round, a reversal
(R93), a wait entered (R89) or, on a quiet keyboard, the run begun at once (R90) or ended at once by the target end's switch
(R92). Both move requests read the same table. That a reversal takes its move timer from the profile that stands, keeps the run's
profile and blind mark and sets its blind pulses to 0 is the model's choice (assumption 19). -/
def Obligations.MoveRequestsFollowTheRailState : Prop :=
  ∀ (target : Target) (c : Instr) (f : Frame) (p : List Byte) (s : State), s.canTake f p →
    c = (match target with
      | .engage => .railEngage f
      | .retract => .railRetract f) →
    let r := s.rail
    let alert := if r.state = .stalled then false else r.alertRequested
    let mayLeave := r.state = .unknown ∨ r.state = .stalled ∨ ∃ other : Target, other ≠ target ∧ r.state = other.endState
    (∃ t, exec c s = .next t ∧ t.scanner = s.scanner ∧ t.router = s.router ∧ t.tone.queue = s.tone.queue ∧
      t.pedals = s.pedals ∧ t.store = s.store ∧ t.transport = s.transport) ∧
    (r.state = target.endState → exec c s = okFor f (.railMove true r.state r.target) (s.received f)) ∧
    ((r.state = target.movingState ∨ (r.state = .waitQuiet ∧ r.target = some target)) →
      exec c s = okFor f (.railMove false r.state r.target) (s.received f)) ∧
    (r.state = .switchFault →
      exec c s = answered f { status := .state, data := .railMove false .switchFault r.target } (s.received f)) ∧
    (r.state = .waitQuiet → r.target ≠ some target → r.prior = some target.endState →
      ∃ u, exec c s = okFor f (.railMove true target.endState none) u ∧
        u.rail =
          { r with state := target.endState, resting := target.endState, target := none, prior := none, quietTimer := none,
                   lastMove := some .abandoned } ∧
        u.announces .railState) ∧
    (r.state = .waitQuiet → r.target ≠ some target → r.prior ≠ some target.endState →
      exec c s =
        acceptedFor f (.railMove false .waitQuiet (some target))
          { s.received f with
            rail := { r with target := some target, quietTimer := some (f.now.after (r.profile.quietWait * 1000)) } }) ∧
    (∀ x other, r.state = Target.movingState other → other ≠ target → r.run = some x →
      ∃ u, exec c s = acceptedFor f (.railMove false target.movingState (some target)) u ∧
        u.rail =
          { r with
            state := target.movingState
            resting := .unknown
            target := some target
            lastMove := some .reversed
            arm := .below
            run := some
              { x with phase := .reversalDwell, phaseEnd := f.now.after 50000, duty := 0, retriesUsed := 0,
                       moveTimer := f.now.after (r.profile.moveTimeout * 1000), stallTimer := none, blindPulses := 0 } } ∧
        u.announces .railState) ∧
    (mayLeave → s.quiet = false →
      ∃ u, exec c s = acceptedFor f (.railMove false .waitQuiet (some target)) u ∧
        u.rail =
          { r with state := .waitQuiet, target := some target, prior := some r.state, alertRequested := alert,
                   quietTimer := some (f.now.after (r.profile.quietWait * 1000)) } ∧
        u.announces .railState) ∧
    (mayLeave → s.quiet = true → r.switchOf target = false →
      ∃ u, exec c s = acceptedFor f (.railMove false target.movingState (some target)) u ∧
        ∃ x, u.rail.run = some x ∧
        u.rail =
          { r with state := target.movingState, resting := .unknown, target := some target, prior := none, quietTimer := none,
                   alertRequested := alert, arm := .below, run := some x } ∧
        x.profile = r.profile ∧ x.duty = r.profile.kickDuty ∧ x.travel = r.learned ∧ x.retriesUsed = 0 ∧ x.blind = !r.known ∧
        x.measured = (decide (r.state = .retracted) && decide (target = .engage) && r.known) ∧
        x.moveTimer = f.now.after (r.profile.moveTimeout * 1000) ∧
        (r.profile.kickTime ≠ 0 →
          x.phase = .kick ∧ x.phaseEnd = f.now.after (r.profile.kickTime * 1000) ∧ x.stallTimer = none) ∧
        (r.profile.kickTime = 0 →
          x.phase = .ramp ∧ x.stallTimer = some (f.now.after (r.profile.stallTime * 1000))) ∧
        u.announces .railState) ∧
    (mayLeave → s.quiet = true → r.switchOf target = true →
      ∃ u, exec c s = acceptedFor f (.railMove false target.endState none) u ∧ u.rail.state = target.endState ∧
        u.rail.resting = target.endState ∧ u.rail.run = none ∧ u.rail.target = none ∧
        u.rail.lastMove = some .complete ∧ u.rail.alertRequested = alert ∧ u.announces .railState)

/-- The timers of the rail: the quiet wait (R89), the end of the kick and the duty steps (R91), the stall timer with its retry
dwell (R97), the reversal dwell (R93) and the move timer (R98). The remaining pulses are those left of the learned travel the run
reckons with (R87, R91). The model's choices here are that a timer acts when its event comes at or after its time (assumption 11),
that the stall timer stops at duty 0 and runs in full again above it (assumption 20), and what a fresh run after a reversal dwell
takes over (assumption 19). -/
def Obligations.RailTimersAct : Prop :=
  (∀ (now due : Time) (prior : RailState) (s : State), s.system.mainOn = true → s.rail.quietTimer = some due →
    reached now due = true → s.rail.prior = some prior → prior.mayWaitFrom = true →
    ∃ t, exec (.quietWaitExpiry now) s = .next t ∧
      t.rail = { s.rail with state := prior, resting := t.rail.resting, target := none, prior := none, quietTimer := none,
                             lastMove := some .abandoned } ∧
      t.announces .railState ∧ t.scanner = s.scanner ∧ t.router = s.router ∧ t.store = s.store) ∧
  (∀ (now : Time) (x : Run) (s : State), s.system.mainOn = true → s.rail.run = some x →
    let with_ (y : Run) : Host.Outcome State Fault Refusal := .next { s with now := now, rail := { s.rail with run := some y } }
    let remaining : Int := match s.rail.target with
      | some .engage => x.travel - s.rail.count
      | some .retract => s.rail.count
      | none => 0
    let goal :=
      if x.blind = false ∧ (x.profile.approachZone : Int) < remaining then x.profile.cruiseDuty else x.profile.approachDuty
    let duty := if x.duty < goal then x.duty + 1 else if goal < x.duty then x.duty - 1 else x.duty
    (x.phase = .kick → reached now x.phaseEnd = true →
      exec (.kickEnd now) s =
        with_ { x with phase := .ramp, nextStep := now.after (x.profile.stepTime * 1000),
                       stallTimer := some (now.after (x.profile.stallTime * 1000)) }) ∧
    (x.phase = .ramp → reached now x.nextStep = true →
      ∃ stall, exec (.dutyStep now) s =
          with_ { x with duty := duty, nextStep := x.nextStep.after (x.profile.stepTime * 1000), stallTimer := stall } ∧
        (duty ≠ 0 → stall = some (x.stallTimer.getD (now.after (x.profile.stallTime * 1000)))) ∧
        (duty = 0 → x.duty ≠ 0 → stall = none)) ∧
    (∀ due, x.stallTimer = some due → reached now due = true → x.retriesUsed < x.profile.retries →
      exec (.stallTimerExpiry now) s =
        with_ { x with duty := 0, retriesUsed := x.retriesUsed + 1, phase := .retryDwell, phaseEnd := now.after 200000,
                       stallTimer := none }) ∧
    (∀ due, x.stallTimer = some due → reached now due = true → x.profile.retries ≤ x.retriesUsed →
      ∃ t, exec (.stallTimerExpiry now) s = .next t ∧ s.failsTo t .stall now) ∧
    (x.phase = .retryDwell → reached now x.phaseEnd = true → x.profile.kickTime ≠ 0 →
      exec (.retryDwellEnd now) s =
        with_ { x with phase := .kick, phaseEnd := now.after (x.profile.kickTime * 1000), duty := x.profile.kickDuty,
                       stallTimer := none }) ∧
    (x.phase = .retryDwell → reached now x.phaseEnd = true → x.profile.kickTime = 0 →
      ∃ ended, exec (.retryDwellEnd now) s =
        with_ { x with phase := .ramp, phaseEnd := ended, duty := x.profile.kickDuty,
                       nextStep := now.after (x.profile.stepTime * 1000),
                       stallTimer := some (now.after (x.profile.stallTime * 1000)) }) ∧
    (reached now x.moveTimer = true → ∃ t, exec (.moveTimeout now) s = .next t ∧ s.failsTo t .timeout now) ∧
    (∀ target, x.phase = .reversalDwell → reached now x.phaseEnd = true → s.rail.target = some target →
      (s.rail.switchOf target = false →
        ∃ y, exec (.reversalDwellEnd now) s = with_ y ∧ y.profile = s.rail.profile ∧ y.duty = s.rail.profile.kickDuty ∧
          y.travel = s.rail.learned ∧ y.retriesUsed = 0 ∧ y.blind = !s.rail.known ∧ y.measured = false ∧
          y.moveTimer = x.moveTimer) ∧
      (s.rail.switchOf target = true →
        ∃ t, exec (.reversalDwellEnd now) s = .next t ∧ t.rail.state = target.endState ∧ t.rail.run = none ∧
          t.rail.target = none ∧ t.rail.lastMove = some .complete ∧ t.announces .railState)))

/-- Encoder pulses with the no-switch check (R85, R96) and current samples with the current alert and the trip (R99, R101). A
pulse that serves the run makes it reckon with the learned travel now held (R87); one against the move's direction is counted and
does no more (R85; assumption 39). That a current sample at duty 0 leaves all but the time base as it was is the model's choice
(assumption 11). -/
def Obligations.PulsesAndCurrentAreJudged : Prop :=
  (∀ (now : Time) (d : Direction) (s : State), s.system.mainOn = true →
    let count := match d with
      | .towardEngaged => min (s.rail.count + 1) 32767
      | .towardRetracted => max (s.rail.count - 1) (-32768)
    let counted : State := { s with now := now, rail := { s.rail with count := count } }
    let serves (target : Target) : Prop := (d = .towardEngaged ↔ target = .engage)
    let limit : Nat := s.rail.learned + s.rail.learned / 10
    (s.rail.run = none → exec (.encoderPulse now d) s = .next counted) ∧
    (∀ x target, s.rail.run = some x → s.rail.target = some target → ¬serves target →
      exec (.encoderPulse now d) s = .next counted) ∧
    (∀ x target, s.rail.run = some x → s.rail.target = some target → serves target →
      let past :=
        if x.blind = true then limit < x.blindPulses + 1
        else match target with
          | .engage => (limit : Int) < count
          | .retract => count < -((s.rail.learned / 10 : Nat) : Int)
      (¬past →
        exec (.encoderPulse now d) s =
          .next { counted with
            rail :=
              { counted.rail with
                run := some
                  { x with stallTimer := x.stallTimer.map (fun _ => now.after (x.profile.stallTime * 1000)),
                           travel := s.rail.learned, blindPulses := x.blindPulses + 1 } } }) ∧
      (past → ∃ t, exec (.encoderPulse now d) s = .next t ∧ s.failsTo t .noSwitch now ∧ t.rail.count = count))) ∧
  (∀ (now : Time) (mA : Nat) (s : State), s.system.mainOn = true → mA ≤ 2040 → mA % 8 = 0 →
    let p := s.rail.profile
    let rises := p.alertLimit ≤ mA
    let falls := mA < p.hysteresis
    let posts := match p.alertMode with
      | .comparator => rises
      | .oneShot => rises ∧ s.rail.arm = .below
      | .twoWay => (rises ∧ s.rail.arm = .below) ∨ (falls ∧ s.rail.arm = .above)
    let judged : State :=
      { s with
        now := now
        rail :=
          { s.rail with
            lastCurrent := some mA
            arm := if rises then .above else if falls then .below else s.rail.arm } }
    (s.rail.duty = 0 → exec (.currentSample now mA) s = .next { s with now := now }) ∧
    (s.rail.duty ≠ 0 → mA < p.tripLimit →
      (posts → exec (.currentSample now mA) s = .next (judged.post .railLoad)) ∧
      (¬posts → exec (.currentSample now mA) s = .next judged)) ∧
    (s.rail.duty ≠ 0 → p.tripLimit ≤ mA →
      ∃ t, exec (.currentSample now mA) s = .next t ∧ s.failsTo t .overcurrent now ∧ t.rail.lastCurrent = some mA ∧
        (posts → t.announces .railLoad)))

/-- A taken change of an end switch, by the rail's state (R86, R92, R100); a switch that becomes active at either end's rest state
places the count alone. That a change to the level already taken changes nothing (assumption 11), that the last fault of a
SWITCH_FAULT records the updated count (assumption 26), and that position known becomes no with a prior state whose own switch
releases (assumption 47) are the model's choices. -/
def Obligations.EndSwitchesPlaceTheRail : Prop :=
  ∀ (now : Time) (w : EndSwitch) (active : Bool) (s : State), s.system.mainOn = true →
    let r := s.rail
    let own := switchTarget w
    let other := match w with
      | .retractEnd => r.engageEnd
      | .engageEnd => r.retractEnd
    let count := if active = true then (match w with
      | .retractEnd => 0
      | .engageEnd => if r.known = true then r.count else r.learned) else r.count
    (r.switchLevel w = active → exec (.endSwitchChange now w active) s = .next { s with now := now }) ∧
    (r.switchLevel w ≠ active →
      ∃ t, exec (.endSwitchChange now w active) s = .next t ∧ t.rail.switchLevel w = active ∧
        t.scanner = s.scanner ∧ t.router = s.router ∧ t.store = s.store ∧ t.pedals = s.pedals ∧
        ((active = true ∧ other = true) →
          t.rail.state = .switchFault ∧ t.rail.resting = .unknown ∧ t.rail.run = none ∧ t.rail.target = none ∧
          t.rail.prior = none ∧ t.rail.quietTimer = none ∧ t.rail.count = count ∧
          t.rail.lastMove = (if r.run.isSome = true then some .failed else r.lastMove) ∧
          t.rail.lastFault = some { cause := .bothSwitches, target := r.target, count := count, time := now } ∧
          t.rail.stalls = min (r.stalls + 1) 255 ∧ t.rail.alertRequested = true ∧ t.rail.arm = .below ∧
          t.announces .railState ∧ t.announces .railFault) ∧
        (¬(active = true ∧ other = true) →
          (r.state = .unknown → active = true →
            t.rail.state = own.endState ∧ t.rail.resting = own.endState ∧ t.rail.known = true ∧ t.rail.count = count ∧
            t.announces .railState) ∧
          (r.state = own.endState → active = false →
            t.rail.state = .unknown ∧ t.rail.known = false ∧ t.rail.count = r.count ∧ t.announces .railState) ∧
          ((r.state = .retracted ∨ r.state = .engaged) → (active = true ∨ r.state ≠ own.endState) →
            t.rail.state = r.state ∧ t.rail.resting = r.resting ∧ t.rail.count = count ∧
            t.rail.known = (r.known || active) ∧ t.linkT = s.linkT ∧ t.linkP = s.linkP) ∧
          (r.state = .unknown → active = false →
            t.rail.state = .unknown ∧ t.rail.count = r.count ∧ t.rail.known = r.known) ∧
          (r.state = own.movingState → active = true →
            t.rail.state = own.endState ∧ t.rail.resting = own.endState ∧ t.rail.run = none ∧ t.rail.target = none ∧
            t.rail.lastMove = some .complete ∧ t.rail.arm = .below ∧ t.rail.known = true ∧ t.rail.count = count ∧
            (∀ x, r.run = some x →
              t.rail.learned =
                if own = .engage ∧ x.measured = true then (max 400 (min count 4000)).toNat else r.learned) ∧
            t.announces .railState) ∧
          (r.state.moving = true → (active = false ∨ r.state ≠ own.movingState) →
            t.rail.state = r.state ∧ t.rail.run = r.run ∧ t.rail.count = count) ∧
          (r.state = .stalled →
            t.rail.state = .stalled ∧ t.rail.count = count ∧ t.rail.known = (r.known || active)) ∧
          (r.state = .waitQuiet →
            t.rail.state = .waitQuiet ∧ t.rail.target = r.target ∧ t.rail.count = count ∧
            t.rail.known =
              (if active = true then true else if r.prior = some own.endState then false else r.known) ∧
            t.rail.prior =
              (if active = true ∧ r.prior = some .unknown then some own.endState
              else if active = false ∧ r.prior = some own.endState then some .unknown
              else r.prior)) ∧
          (r.state = .switchFault → active = false → other = true →
            t.rail.state = (if w = .retractEnd then .engaged else .retracted) ∧ t.rail.known = true ∧
            t.rail.alertRequested = false ∧
            t.rail.count = (if w = .retractEnd then (if r.known = true then r.count else r.learned) else 0) ∧
            t.announces .railState)))

/-- RAIL_PROFILE with any of its items carried (R87), RAIL_STATUS, RAIL_ACK and RAIL_CLEAR_DISTURBED (R106, R108, R109). The codes of its one-byte options, and
RANGE for a byte with no code, are the model's reading of R202 and R203 (assumption 14). -/
def Obligations.RailRequestsReportAndSet : Prop :=
  (∀ (f : Frame) (a b c : Byte) (p : List Byte) (l : List (Option Nat)) (s : State), s.canTake f (a :: b :: c :: p) →
    readItems profileWidths (num3 a b c) p = some l →
    let good := num3 a b c < 65536 ∧ (∀ m, item l 14 = some m → 1 ≤ m ∧ m ≤ 3) ∧ (∀ m, item l 15 = some m → m ≤ 1)
    let h := s.rail.profile
    let carried : Profile :=
      { kickDuty := (item l 0).getD h.kickDuty
        kickTime := ((item l 1).map (fun n => min n 500)).getD h.kickTime
        cruiseDuty := (item l 2).getD h.cruiseDuty
        approachDuty := (item l 3).getD h.approachDuty
        stepTime := ((item l 4).map (fun n => max 1 (min n 50))).getD h.stepTime
        approachZone := ((item l 5).map (fun n => min n 1000)).getD h.approachZone
        programmedTravel := ((item l 6).map (fun n => max 400 (min n 4000))).getD h.programmedTravel
        stallTime := ((item l 7).map (fun n => max 20 (min n 500))).getD h.stallTime
        retries := ((item l 8).map (fun n => min n 5)).getD h.retries
        moveTimeout := ((item l 9).map (fun n => max 500 (min n 10000))).getD h.moveTimeout
        quietWait := ((item l 10).map (fun n => max 100 (min n 10000))).getD h.quietWait
        tripLimit := ((item l 11).map (fun n => min n 2040 / 8 * 8)).getD h.tripLimit
        alertLimit := ((item l 12).map (fun n => min n 2040 / 8 * 8)).getD h.alertLimit
        hysteresis := ((item l 13).map (fun n => min n 2040 / 8 * 8)).getD h.hysteresis
        alertMode :=
          if item l 14 = some 1 then .comparator
          else if item l 14 = some 2 then .oneShot
          else if item l 14 = some 3 then .twoWay
          else h.alertMode
        park := ((item l 15).map (fun n => decide (n = 1))).getD h.park }
    let applied : Profile :=
      { carried with
        hysteresis := if carried.alertLimit ≤ carried.hysteresis then carried.alertLimit - 8 else carried.hysteresis
        tripLimit := max carried.tripLimit carried.alertLimit }
    (¬good → exec (.railProfile f) s = refusedWith f .range s) ∧
    (good →
      exec (.railProfile f) s =
        okFor f (.profile applied)
          { s.received f with
            rail :=
              { s.rail with
                profile := applied
                learned := if (item l 6).isSome = true then applied.programmedTravel else s.rail.learned } })) ∧
  (∀ (f : Frame) (clear : Byte) (rest : List Byte) (s : State), s.canTake f (clear :: rest) →
    exec (.railStatus f) s =
      if clear = 0 then okFor f (.railStatus s.rail.report) (s.received f)
      else if clear = 1 then
        okFor f (.railStatus s.rail.report) { s.received f with rail := { s.rail with stalls := 0 } }
      else refusedWith f .range s) ∧
  (∀ (f : Frame) (p : List Byte) (s : State), s.canTake f p →
    (s.rail.alertRequested = false → exec (.railAck f) s = okFor f .none (s.received f)) ∧
    (s.rail.alertRequested = true →
      ∃ u, exec (.railAck f) s = okFor f .none u ∧ u.rail = { s.rail with alertRequested := false } ∧
        u.audio.alertRequested = false ∧ u.audio.alert = none ∧ u.linkT = (s.received f).linkT ∧
        u.linkP = (s.received f).linkP ∧ u.scanner = s.scanner ∧ u.router = s.router) ∧
    exec (.railClearDisturbed f) s =
      okFor f (.disturbed s.rail.disturbed) { s.received f with rail := { s.rail with disturbed := false } })

/-- A taken change of the fallboard switch, with the keys suspended (R11), a capture in flight abandoned (R17), a recording ended
(R155) and the park move (R104), and a change of an end switch on the standby supply (R109). A recording ends with cause FALLBOARD, or
with cause RESERVE where a forced off or an overdue GAP expiry meets the reserve line first; a park finds the keyboard quiet, and a
waiting move begun by that quiet is turned round. The model's choices are that the close reaches the Sensor Scanner first, then the
Transport and the park (assumption 15), that an overdue GAP expiry is taken first (assumption 2), that a change to the level already
taken changes nothing (assumption 11), and that a change on the standby supply sets DISTURBED only while the retention marker is valid
and nothing with main power on (assumption 13). -/
def Obligations.FallboardAndStandbySwitches : Prop :=
  (∀ (now : Time) (s : State), s.system.mainOn = true →
    (s.rail.fallboardClosed = true → exec (.fallboardClose now) s = .next { s with now := now }) ∧
    (s.rail.fallboardClosed = false →
      ∃ t, exec (.fallboardClose now) s = .next t ∧ t.rail.fallboardClosed = true ∧
        (∀ k, 1 ≤ k → k ≤ 88 → (s.key k).state.isStroke = true →
          (t.key k).state = .suspended ∧ (t.sound k).owner ≠ some .live) ∧
        (∀ k, (s.key k).state.isStroke = false → (s.scanner.capture = none ∨ (s.key k).state ≠ .capture) →
          t.key k = s.key k) ∧
        t.scanner.capture = none ∧
        (s.scanner.capture = none → t.scanner.lastCapture = s.scanner.lastCapture) ∧
        (∀ c, s.scanner.capture = some c →
          t.scanner.lastCapture =
            some (match c with
              | .rest _ _ => { kind := .rest, key := none, outcome := .abandoned, failed := 0, lowestFailed := none }
              | .bottom _ k _ _ =>
                { kind := .bottom, key := some k, outcome := .abandoned, failed := 0, lowestFailed := none }) ∧
          t.announces .calDone ∧
          ∀ k, 1 ≤ k → k ≤ 88 → (s.key k).state = .capture →
            t.key k =
              { s.key k with
                state := if (s.key k).cal.valid then .suspended else .uncalibrated, lastPlausible := none, glitchRun := 0,
                recoveryRun := 0, previousLines := false, timing := none, slowMark := false }) ∧
        (s.transport.state = .armed ∨ s.transport.state = .recording →
          t.transport.state = .idle ∧ t.transport.take = none ∧ t.store.recording = none ∧ t.announces .takeClosed ∧
          t.announces .transport ∧
          (t.transport.lastEnd = some .fallboard ∨ t.transport.lastEnd = some .reserve) ∧
          ∃ r, t.transport.lastClose = some r ∧ r.take = s.transport.take.getD 0 ∧ t.transport.lastEnd = some r.cause) ∧
        (∀ c e, s.store.recording = some c → s.transport.take = some c.take → 1 ≤ c.take → c.take ≤ 16 →
          s.store.entry c.take = some e →
          (s.transport.state = .armed → c.started = false →
            t.store.entry c.take = none ∧ t.store.freeList = s.store.freeList ++ s.store.chain e ∧
            t.transport.lastEnd = some .fallboard ∧
            t.transport.lastClose =
              some { take := c.take, outcome := .discarded, flags := {}, count := 0, duration := 0, cause := .fallboard }) ∧
          (s.transport.state = .recording → c.started = true → s.memoryCanonical →
            c.positionAt now ≤ (c.lastTime + 4095) * 1000 → 3 ≤ s.store.freeList.length → c.closings ≤ 96 →
            (∀ k ∈ c.openNotes, (s.key k).state.isStroke = false) →
            s.store.closesTo t.store c e e.flags (c.positionAt now) ∧ t.transport.lastEnd = some .fallboard ∧
            t.transport.lastClose =
              some { take := c.take, outcome := .closed, flags := e.flags, count := e.count + c.closings,
                     duration := e.duration + (c.positionAt now / 1000 - c.lastTime), cause := .fallboard })) ∧
        (s.transport.state ≠ .armed → s.transport.state ≠ .recording → t.transport = s.transport) ∧
        (let r := { s.rail with fallboardClosed := true }
        let retracts := t.rail.state = .retracting ∧ t.rail.target = some .retract ∧ t.rail.run.isSome = true ∧
          t.announces .railState
        let arrives := t.rail.state = .retracted ∧ t.rail.target = none ∧ t.rail.run = none ∧
          t.rail.lastMove = some .complete ∧ t.announces .railState
        (r.profile.park = true → (r.state = .engaged ∨ r.state = .unknown ∨ r.state = .stalled) →
          (r.retractEnd = false → retracts) ∧ (r.retractEnd = true → arrives) ∧
          (r.state = .stalled → t.rail.alertRequested = false)) ∧
        (∀ x, r.profile.park = true → r.state = .engaging → r.run = some x →
          retracts ∧
          t.rail =
            { r with
              state := .retracting, resting := .unknown, target := some .retract, lastMove := some .reversed, arm := .below
              run := some
                { x with phase := .reversalDwell, phaseEnd := now.after 50000, duty := 0, retriesUsed := 0,
                         moveTimer := now.after (r.profile.moveTimeout * 1000), stallTimer := none, blindPulses := 0 } }) ∧
        (∀ target, r.profile.park = true → r.state = .waitQuiet → 0 < s.strokeCount → r.target = some target →
          ((r.retractEnd = false ∨ (target = .engage ∧ r.engageEnd = false)) → retracts) ∧
          (r.retractEnd = true → (target = .retract ∨ r.engageEnd = true) → arrives)) ∧
        (∀ target, r.profile.park = false → r.state = .waitQuiet → 0 < s.strokeCount → r.target = some target →
          r.leavesWait t.rail target now) ∧
        ((r.profile.park = true → r.state = .retracted ∨ r.state = .retracting ∨ r.state = .switchFault) →
          r.state ≠ .waitQuiet → t.rail = r)) ∧
        t.announces .fallboard ∧ t.pedals = s.pedals) ∧
    (s.rail.fallboardClosed = false → exec (.fallboardOpen now) s = .next { s with now := now }) ∧
    (s.rail.fallboardClosed = true →
      exec (.fallboardOpen now) s =
        .next (State.post .fallboard { s with now := now, rail := { s.rail with fallboardClosed := false } }))) ∧
  (∀ (w : EndSwitch) (active : Bool) (s : State),
    exec (.standbySwitchChange w active) s =
      if s.system.mainOn = false ∧ s.system.marker = true then .next { s with rail := { s.rail with disturbed := true } }
      else .next s)

/-! ### The Audio Stage (R111 to R129) -/

/-- Frames in and out: the Audio FIFO and its underrun (R113, R114), the ramp (R117), the output frame (R115) with its click and
alert samples (R121, R122), and the ends of a click and of an alert segment. The model's choices are that the alert tone runs on at
its frequency until ALERT_SEGMENT_END comes, and a click until CLICK_END (assumption 24), and that an event that comes before its
time leaves all but the time base as it was (assumption 11). -/
def Obligations.AudioFramesFlow : Prop :=
  ∀ (now : Time) (s : State), s.system.mainOn = true →
    let a := s.audio
    (∀ left right : Sample24,
      (a.fifo.length < 64 →
        exec (.inputFrame now left right) s =
          .next { s with
            now := now
            audio :=
              if a.inUnderrun = true ∧ a.refill ≤ a.fifo.length + 1 then
                { a with fifo := a.fifo ++ [{ left := left, right := right }], inUnderrun := false,
                         mute := { a.mute with underrun := false } }
              else { a with fifo := a.fifo ++ [{ left := left, right := right }] } }) ∧
      (64 ≤ a.fifo.length →
        exec (.inputFrame now left right) s =
          .next { s with now := now, audio := { a with overruns := min (a.overruns + 1) 65535 } })) ∧
    (let due := a.rampInterval ≤ a.ramp + 1
    let applied :=
      if due then (if a.applied < a.targetIndex then a.applied + 1 else if a.targetIndex < a.applied then a.applied - 1
        else a.applied)
      else a.applied
    let enters := a.inUnderrun = false ∧ a.fifo = []
    let frame : StereoFrame := if a.inUnderrun = true then { left := 0, right := 0 } else a.fifo.headD { left := 0, right := 0 }
    let frames := match a.rate with
      | .hz44100 => 882
      | .hz48000 => 960
    let hertz := match a.rate with
      | .hz44100 => 44100
      | .hz48000 => 48000
    let wave (f amp n : Nat) : Int := if 2 * f * n / hertz % 2 = 0 then (amp : Int) else -(amp : Int)
    let click : Int := match a.click with
      | none => 0
      | some c =>
        if a.mute.jackOut = true ∨ a.mute.panelMute = true ∨ frames ≤ c.index then 0
        else wave (if c.first then 1600 else 800) (c.amplitude.getD (a.metro.clickLevel * 262144)) c.index
    let alert : Int := match a.alert with
      | none => 0
      | some x => if a.mute.jackOut = true then 0 else wave (if x.high then 1200 else 600) 2097152 x.index
    let left := frame.left.toInt * gain applied / 32768 + (click + alert)
    let right := frame.right.toInt * gain applied / 32768 + (click + alert)
    let clipped := left < -8388607 ∨ 8388607 < left ∨ right < -8388607 ∨ 8388607 < right
    ∃ t, exec (.outputFrame now) s = .next t ∧
      t.audio.sent =
        some { left := max (-8388607) (min left 8388607), right := max (-8388607) (min right 8388607) } ∧
      t.audio.clips = (if clipped then min (a.clips + 1) 65535 else a.clips) ∧
      t.audio.applied = applied ∧ t.audio.ramp = (if due then 0 else a.ramp + 1) ∧
      t.audio.fifo = (if a.inUnderrun = true then a.fifo else a.fifo.drop 1) ∧
      t.audio.inUnderrun = (a.inUnderrun || a.fifo.isEmpty) ∧
      t.audio.underruns = (if enters then min (a.underruns + 1) 65535 else a.underruns) ∧
      t.audio.mute = (if enters then { a.mute with underrun := true } else a.mute) ∧
      t.audio.click =
        a.click.map (fun c =>
          { c with amplitude := some (c.amplitude.getD (a.metro.clickLevel * 262144)),
                   index := if c.index < frames then c.index + 1 else c.index }) ∧
      t.audio.alert = a.alert.map (fun x => { x with index := x.index + 1 }) ∧
      (enters → t.announces .audioUnderrun) ∧
      (¬enters → t = { s with now := now, audio := t.audio }) ∧
      t.scanner = s.scanner ∧ t.router = s.router ∧ t.tone = s.tone ∧ t.rail = s.rail ∧ t.store = s.store ∧
      t.transport = s.transport) ∧
    (∀ c, a.click = some c →
      exec (.clickEnd now) s =
        if a.rate.clickFrames ≤ c.index then .next { s with now := now, audio := { a with click := none } }
        else .next { s with now := now }) ∧
    (∀ x, a.alert = some x →
      exec (.alertSegmentEnd now) s =
        if a.rate.alertFrames ≤ x.index then
          .next { s with now := now, audio := { a with alert := some { high := !x.high, index := 0 } } }
        else .next { s with now := now })

/-- A taken change of a jack (R119), AUDIO_MUTE (R120), AUDIO_REPORT (R128) and AUDIO_SETUP with any of its items carried
(R112). The codes of on and off, of the rates and of the clear option are the model's choice (assumption 14), and so is that a
jack change to the level already taken changes nothing (assumption 11). -/
def Obligations.JacksMuteAndSettings : Prop :=
  (∀ (now : Time) (jack : Jack) (inserted : Bool) (s : State), s.system.mainOn = true →
    let a := s.audio
    let j1 := if jack = .jack1 then inserted else a.jack1
    let j2 := if jack = .jack2 then inserted else a.jack2
    (a.jackLevel jack = inserted → exec (.jackChange now jack inserted) s = .next { s with now := now }) ∧
    (a.jackLevel jack ≠ inserted →
      exec (.jackChange now jack inserted) s =
        .next (State.post .jack
          { s with now := now, audio := { a with jack1 := j1, jack2 := j2, mute := { a.mute with jackOut := !j1 && !j2 } } }))) ∧
  (∀ (f : Frame) (b : Byte) (rest : List Byte) (s : State), s.canTake f (b :: rest) →
    let muted (on : Bool) : Audio := { s.audio with panelMute := on, mute := { s.audio.mute with panelMute := on } }
    exec (.audioMute f) s =
      (if b = 0 then okFor f (.muteSet (muted false).mute) { s.received f with audio := muted false }
      else if b = 1 then okFor f (.muteSet (muted true).mute) { s.received f with audio := muted true }
      else refusedWith f .range s) ∧
    exec (.audioReport f) s =
      (if b = 0 then okFor f (.audioReport s.audio.report) (s.received f)
      else if b = 1 then
        okFor f (.audioReport s.audio.report)
          { s.received f with audio := { s.audio with underruns := 0, overruns := 0, clips := 0 } }
      else refusedWith f .range s)) ∧
  (∀ (f : Frame) (marks : Byte) (p : List Byte) (l : List (Option Nat)) (s : State), s.canTake f (marks :: p) →
    readItems [1, 1, 1, 1, 1] marks.toNat p = some l →
    let a := s.audio
    let good := marks.toNat < 32 ∧ (∀ r, item l 0 = some r → r = 1 ∨ r = 2) ∧ (∀ h, item l 4 = some h → h ≤ 1)
    let rate : Rate := if item l 0 = some 1 then .hz44100 else if item l 0 = some 2 then .hz48000 else a.rate
    let volume := ((item l 1).map (fun n => min n 63)).getD a.volume
    let refill := ((item l 2).map (fun n => max 8 (min n 56))).getD a.refill
    let interval := ((item l 3).map (fun n => max 1 (min n 64))).getD a.rampInterval
    let hp := ((item l 4).map (fun n => decide (n = 1))).getD a.hpInAcoustic
    let ends := a.inUnderrun = true ∧ refill ≤ a.fifo.length
    (¬good → exec (.audioSetup f) s = refusedWith f .range s) ∧
    (good →
      ∃ u, exec (.audioSetup f) s =
          okFor f
            (.audioSettings
              { rate := rate, volume := volume, refill := refill, rampInterval := interval, hpInAcoustic := hp }) u ∧
        u = { s.received f with audio := u.audio } ∧
        u.audio.rate = rate ∧ u.audio.volume = volume ∧ u.audio.refill = refill ∧ u.audio.rampInterval = interval ∧
        u.audio.hpInAcoustic = hp ∧ u.audio.applied = a.applied ∧ u.audio.underruns = a.underruns ∧
        u.audio.mute.railNotEngaged =
          (if (item l 4).isSome = true then !a.engaged && !hp else a.mute.railNotEngaged) ∧
        (rate = a.rate →
          u.audio.fifo = a.fifo ∧ u.audio.inUnderrun = (if ends then false else a.inUnderrun) ∧
          u.audio.mute.underrun = (if ends then false else a.mute.underrun) ∧
          u.audio.ramp = (if (item l 3).isSome = true then 0 else a.ramp) ∧ u.audio.click = a.click ∧
          u.audio.alert = a.alert) ∧
        (rate ≠ a.rate →
          u.audio.fifo = [] ∧ u.audio.inUnderrun = true ∧ u.audio.mute.underrun = true ∧ u.audio.ramp = 0 ∧
          u.audio.click = none ∧ u.audio.alert = a.alert.map (fun _ => { high := false, index := 0 }))))

/-- METRO_SET and METRO_RUN (R126, R127), and a beat of the beat clock at its own time (R123 to R125). The codes of the one-byte
options, and RANGE for a byte with no code, are the model's reading of R202 and R203 (assumption 14). That a beat taken late is
stamped with the time of its event while the next beat is counted from the scheduled time is the model's choice (assumptions 11 and
23). -/
def Obligations.MetronomeKeepsTheBeat : Prop :=
  (∀ (f : Frame) (marks : Byte) (p : List Byte) (l : List (Option Nat)) (s : State), s.canTake f (marks :: p) →
    readItems [2, 1, 1, 1] marks.toNat p = some l →
    let a := s.audio
    let good := marks.toNat < 16 ∧ (∀ c, item l 3 = some c → c ≤ 1) ∧ (∀ b, item l 1 = some b → 1 ≤ b ∧ b ≤ 12)
    let busy := a.clock = .recording ∧ ((item l 0).isSome = true ∨ (item l 1).isSome = true)
    let m : Metro :=
      { tempo := ((item l 0).map (fun n => max 30 (min n 300))).getD a.metro.tempo
        beats := (item l 1).getD a.metro.beats
        clickLevel := ((item l 2).map (fun n => min n 15)).getD a.metro.clickLevel
        beatCopy := ((item l 3).map (fun n => decide (n = 1))).getD a.metro.beatCopy
        run := a.metro.run }
    (¬good →
      exec (.metroSet f) s = answered f { status := .range, data := .metro a.metro a.clock a.counter } (s.received f)) ∧
    (good → busy →
      exec (.metroSet f) s = answered f { status := .busy, data := .metro a.metro a.clock a.counter } (s.received f)) ∧
    (good → ¬busy →
      exec (.metroSet f) s = okFor f (.metro m a.clock a.counter) { s.received f with audio := { a with metro := m } })) ∧
  (∀ (f : Frame) (b : Byte) (rest : List Byte) (s : State), s.canTake f (b :: rest) →
    let a := s.audio
    let on := decide (b = 1)
    let free := a.recordClick = false ∧ a.playClick = false
    let interval := match a.playSpeed with
      | some p => 60000000 / a.metro.tempo * 100 / p
      | none => 60000000 / a.metro.tempo
    (1 < b.toNat → exec (.metroRun f) s = refusedWith f .range s) ∧
    (b.toNat ≤ 1 →
      ((a.clock = .recording ∧ a.recordClick = true) ∨ (a.clock = .following ∧ a.recordClick = false ∧ a.playClick = true) ∨
        (free ∧ a.clock = if on then .free else .stopped) →
        exec (.metroRun f) s =
          okFor f (.metroRun on a.clock) { s.received f with audio := { a with metro := { a.metro with run := on } } }) ∧
      (free → a.clock = .stopped → on = true →
        ∃ u, exec (.metroRun f) s = okFor f (.metroRun true .free) u ∧
          u.audio =
            { a with metro := { a.metro with run := true }, clock := .free, counter := some { bar := 1, beat := 1 },
                     nextBeat := some (f.now.after interval), click := some { first := true, amplitude := none, index := 0 } } ∧
          u.panel.stream =
            s.panel.stream ++
              (if a.metro.beatCopy = true ∧ s.panel.stream.length < 64 then
                [.beat { bar := 1, beat := 1 } f.now .free] else [])) ∧
      (free → a.clock = .free → on = false →
        exec (.metroRun f) s =
          okFor f (.metroRun false .stopped)
            { s.received f with
              audio := { a with metro := { a.metro with run := false }, clock := .stopped, nextBeat := none } }))) ∧
  (∀ (now due : Time) (pos : BeatPos) (s : State), s.system.mainOn = true → s.audio.nextBeat = some due →
    s.audio.counter = some pos → reached now due = true →
    let a := s.audio
    let beats := if a.clock = .recording then a.entryBeats else a.metro.beats
    let next : BeatPos :=
      if beats ≤ pos.beat then { bar := if pos.bar = 4095 then 1 else pos.bar + 1, beat := 1 }
      else { pos with beat := pos.beat + 1 }
    let click : Click := { first := decide (next.beat = 1), amplitude := none, index := 0 }
    (a.clock = .free →
      let interval := match a.playSpeed with
        | some p => 60000000 / a.metro.tempo * 100 / p
        | none => 60000000 / a.metro.tempo
      ∃ t, exec (.nextBeatTime now) s = .next t ∧
        t.audio = { a with counter := some next, click := some click, nextBeat := some (due.after interval) } ∧
        t.panel.stream =
          s.panel.stream ++
            (if a.metro.beatCopy = true ∧ s.panel.stream.length < 64 then [.beat next now .free] else []) ∧
        t.store = s.store ∧ t.transport = s.transport ∧ t.tone = s.tone ∧ t.rail = s.rail) ∧
    (a.clock = .recording → s.transport.state = .recording →
      (s.store.record (.beat next.bar next.beat) now).2 = false →
      ∃ t, exec (.nextBeatTime now) s = .next t ∧
        t.audio =
          { a with counter := some next, click := some click,
                   nextBeat := some (due.after (60000000 / a.entryTempo)) } ∧
        t.store = (s.store.record (.beat next.bar next.beat) now).1 ∧ t.transport = s.transport ∧ t.rail = s.rail))

/-! ### The Take Store (R130 to R149) -/

/-- TAKE_LIST, TAKE_DELETE, TAKE_NAME and MEMORY_REPORT (R132, R144 to R147): the refusals in their order, the released chain at
the tail of the Free List, and no byte of take memory changed. -/
def Obligations.TakeDirectoryRequests : Prop :=
  (∀ (f : Frame) (n : Byte) (name : List Byte) (s : State), s.canTake f (n :: name) →
    let st := s.store
    exec (.takeList f) s =
      (if n = 0 then okFor f (.takes (takeNumbers.map st.line) st.serial) (s.received f)
      else if n.toNat ≤ 16 then okFor f (.takes [st.line n.toNat] st.serial) (s.received f)
      else refusedWith f .range s) ∧
    ((n.toNat = 0 ∨ 16 < n.toNat) →
      exec (.takeDelete f) s = refusedWith f .range s ∧ exec (.takeName f) s = refusedWith f .range s) ∧
    (1 ≤ n.toNat → n.toNat ≤ 16 →
      (st.entry n.toNat = none → exec (.takeDelete f) s = refusedWith f .notFound s) ∧
      (∀ e, st.entry n.toNat = some e →
        (e.state ≠ .closed ∨ e.playing = true ∨ e.exporting = true → exec (.takeDelete f) s = refusedWith f .busy s) ∧
        (e.state = .closed → e.playing = false → e.exporting = false →
          ∃ u, exec (.takeDelete f) s = okFor f (.blocksFreed (st.chain e).length) u ∧
            u = { s.received f with store := u.store } ∧ u.store.entry n.toNat = none ∧
            (∀ m, m ≠ n.toNat → u.store.entry m = st.entry m) ∧
            u.store.freeList = st.freeList ++ st.chain e ∧
            (∀ b, u.store.blockEntry b = if b ∈ st.chain e then .free else st.blockEntry b) ∧
            u.store.memory = st.memory ∧ u.store.serial = st.serial ∧ u.store.recording = st.recording ∧
            u.store.importing = st.importing)) ∧
      let bad := 16 < name.length ∨ ∃ b ∈ name, b.toNat < 0x20 ∨ 0x7E < b.toNat
      (bad → exec (.takeName f) s = refusedWith f .range s) ∧
      (¬bad → st.entry n.toNat = none → exec (.takeName f) s = refusedWith f .notFound s) ∧
      (∀ e, st.entry n.toNat = some e → ¬bad →
        (e.state ≠ .closed → exec (.takeName f) s = refusedWith f .state s) ∧
        (e.state = .closed → e.exporting = true → exec (.takeName f) s = refusedWith f .busy s) ∧
        (e.state = .closed → e.exporting = false →
          exec (.takeName f) s =
            okFor f .none
              { s.received f with
                store := st.setEntry n.toNat (some { e with name := if name = [] then none else some name }) })))) ∧
  (∀ (f : Frame) (p : List Byte) (s : State), s.canTake f p →
    let st := s.store
    let reserve := if st.recording.isSome = true then 3 else 0
    exec (.memoryReport f) s =
      okFor f
        (.memory
          { free := st.freeList.length, reserve := reserve, available := st.freeList.length - reserve,
            used := 2048 - st.freeList.length, takes := st.directory.toList.countP Option.isSome,
            head := st.freeList.head?, serial := st.serial })
        (s.received f))

/-- A GAP expiry writes one GAP record in the next slot and no other byte of take memory (R136 to R138, 12.6). A record that needs
a block with 3 free blocks or fewer truncates the take, closes it at that record and ends the recording with cause RESERVE (R138,
R139, R155), and the duration limit closes the take and returns the Transport to IDLE (R136, R139, R155). The model's choices are
that a GAP expiry overdue at the duration limit is taken first (assumption 2), and that an event that comes before its time leaves
all but the time base as it was (assumption 11). -/
def Obligations.RecordingClockWritesGapsAndStops : Prop :=
  ∀ (now : Time) (c : RecordingContext) (e : Take) (s : State), s.system.mainOn = true → s.memoryCanonical →
    s.store.recording = some c → c.started = true → 1 ≤ c.take → c.take ≤ 16 → s.store.entry c.take = some e →
    let passed := (now - c.lastStamp).toNat
    let position := c.position + (if passed < 2147483648 then passed else 0)
    let gapAt := (c.lastTime + 4095) * 1000
    let needsBlock := e.count ≠ 0 ∧ e.count % 32 = 0
    (position < gapAt → exec (.gapExpiry now) s = .next { s with now := now }) ∧
    (gapAt ≤ position → (needsBlock → 3 < s.store.freeList.length) →
      let block := if needsBlock then s.store.freeList.headD 0 else e.last
      let address := block * 128 + e.count % 32 * 4
      ∃ t, exec (.gapExpiry now) s = .next t ∧ t = { s with now := now, store := t.store } ∧
        t.store.entry c.take = some { e with count := e.count + 1, duration := e.duration + 4095, last := block } ∧
        (∀ m, m ≠ c.take → t.store.entry m = s.store.entry m) ∧
        Memory.readBytes t.store.memory address 4 = [0x5F, 0xFF, 0, 0] ∧
        (∀ a, (a < address ∨ address + 4 ≤ a) → Memory.read t.store.memory a = Memory.read s.store.memory a) ∧
        t.store.freeList = (if needsBlock then s.store.freeList.drop 1 else s.store.freeList) ∧
        t.store.recording =
          some { c with position := gapAt, lastTime := c.lastTime + 4095,
                        lastStamp := c.lastStamp.after (gapAt - c.position) }) ∧
    let stamp := c.stampAt 36000000000
    let ends (t : State) (cause : EndCause) : Prop :=
      t.store.recording = none ∧ (∃ closed, t.store.entry c.take = some closed ∧ closed.state = .closed) ∧
      t.transport.state = .idle ∧ t.transport.take = none ∧ t.transport.lastEnd = some cause ∧
      (∃ r, t.transport.lastClose = some r ∧ r.take = s.transport.take.getD 0 ∧ r.cause = cause) ∧
      t.announces .takeClosed ∧ t.announces .transport ∧ t.scanner = s.scanner ∧ t.router = s.router ∧ t.rail = s.rail
    let truncated : TakeFlags := { e.flags with truncated := true }
    (gapAt ≤ position → needsBlock → s.store.freeList.length ≤ 3 →
      ∃ t, exec (.gapExpiry now) s = .next t ∧ ends t .reserve ∧
        (∃ closed, t.store.entry c.take = some closed ∧ closed.flags = truncated) ∧
        (s.store.freeList.length = 3 → c.closings ≤ 96 → s.store.closesTo t.store c e truncated gapAt)) ∧
    (∀ payload, needsBlock → s.store.freeList.length ≤ 3 → position / 1000 ≤ c.lastTime + 4095 →
      (s.store.record payload now).2 = true ∧
      (s.store.freeList.length = 3 → c.closings ≤ 96 →
        s.store.closesTo (s.store.record payload now).1 c e truncated position)) ∧
    (s.transport.state.records = true → 36000000000 ≤ position →
      ((Store.writeOverdue stamp s.store).2 = false → ∃ t, exec (.durationLimit now) s = .next t ∧ ends t .limit) ∧
      ((Store.writeOverdue stamp s.store).2 = true → ∃ t, exec (.durationLimit now) s = .next t ∧ ends t .reserve) ∧
      (c.position ≤ 36000000000 → 35995905 ≤ c.lastTime → 3 ≤ s.store.freeList.length → c.closings ≤ 96 →
        ∃ t, exec (.durationLimit now) s = .next t ∧ ends t .limit ∧
          s.store.closesTo t.store c e e.flags 36000000000)) ∧
    (position < 36000000000 → exec (.durationLimit now) s = .next { s with now := now })

/-! ### The Transport (R150 to R169) -/

/-- TAKE_RECORD (R135, R152, R153): the refusals in their order, the opened entry, and ARMED or RECORDING by the arm mode. The
codes of arm mode and click (assumption 14) and the last stamp of 0 before the clock start (assumption 43) are the model's
choices. -/
def Obligations.TakeRecordOpensATake : Prop :=
  ∀ (f : Frame) (take arm click : Byte) (rest : List Byte) (s : State), s.canTake f (take :: arm :: click :: rest) →
    let split := (rest.headD 45).toNat
    let good := take.toNat ≤ 16 ∧ 2 ≤ split ∧ split ≤ 88 ∧ (arm = 1 ∨ arm = 2) ∧ click.toNat ≤ 1
    let opens (n : Nat) : Prop := s.store.entry n = none ∧
      (if take = 0 then 1 ≤ n ∧ n ≤ 16 ∧ ∀ m, 1 ≤ m → m < n → s.store.entry m ≠ none else n = take.toNat)
    (¬good → exec (.takeRecord f) s = refusedWith f .range s) ∧
    (good → s.transport.state ≠ .idle → exec (.takeRecord f) s = refusedWith f .busy s) ∧
    (good → s.transport.state = .idle → s.rail.fallboardClosed = true →
      exec (.takeRecord f) s = refusedWith f .state s) ∧
    (good → s.transport.state = .idle → s.rail.fallboardClosed = false →
      (take = 0 → (∀ n, 1 ≤ n → n ≤ 16 → s.store.entry n ≠ none) →
        exec (.takeRecord f) s = refusedWith f .noSpace s) ∧
      (take ≠ 0 → s.store.entry take.toNat ≠ none → exec (.takeRecord f) s = refusedWith f .state s) ∧
      (∀ n, opens n → s.store.freeList.length < 4 → exec (.takeRecord f) s = refusedWith f .noSpace s) ∧
      (∀ n b blocks, opens n → s.store.freeList = b :: blocks → 3 ≤ blocks.length →
        let serial := min (s.store.serial + 1) 4294967295
        ∃ u, exec (.takeRecord f) s = acceptedFor f (.takeOpened n serial) u ∧ u.store.serial = serial ∧
          u.store.freeList = blocks ∧ (∀ m, m ≠ n → u.store.entry m = s.store.entry m) ∧
          u.transport.take = some n ∧ u.transport.click = decide (click = 1) ∧ u.announces .transport ∧
          u.scanner = s.scanner ∧ u.router = s.router ∧ u.tone.queue = s.tone.queue ∧ u.pedals = s.pedals ∧
          u.rail = s.rail ∧
          (arm = 1 →
            u.transport.state = .armed ∧ u.transport.armMode = some .firstNote ∧
            u.store.entry n =
              some { state := .recording, flags := {}, count := 0, duration := 0,
                     tempo := if click = 1 then some { bpm := s.audio.metro.tempo, beats := s.audio.metro.beats } else none,
                     split := split, name := none, serial := serial, first := b, last := b, playing := false,
                     exporting := false } ∧
            u.store.recording =
              some { take := n, started := false, position := 0, lastTime := 0, lastStamp := 0, openNotes := [],
                     levels := { damper := 0, sostenuto := false, soft := 0 } } ∧
            u.audio = s.audio) ∧
          (arm = 2 →
            u.transport.state = .recording ∧ u.transport.armMode = some .immediate ∧
            (∃ c, u.store.recording = some c ∧ c.take = n ∧ c.started = true ∧ c.position = 0 ∧ c.lastStamp = f.now ∧
              c.openNotes = [] ∧
              c.levels =
                { damper := s.pedals.damper.live, sostenuto := s.pedals.sostenuto.live, soft := s.pedals.soft.live }) ∧
            (∃ e, u.store.entry n = some e ∧ e.state = .recording ∧ e.split = split ∧ e.first = b ∧ e.serial = serial) ∧
            u.audio.recordClick = (s.audio.recordClick || decide (click = 1)))))

/-- TAKE_PLAY with any of its items carried (R157): the refusals in their order, the record of a playback, and PLAYING with the
wait for record 0 or SEEKING toward the start position. The presence byte opens the parameters (R203). That the take stands right
behind it, the codes of the one-byte options and RANGE for a byte with no code are the model's reading (assumption 14), and cursor and
cursor time of 0 while SEEKING are its choice (assumption 44). -/
def Obligations.TakePlayStartsAPlayback : Prop :=
  ∀ (f : Frame) (marks n : Byte) (p : List Byte) (l : List (Option Nat)) (s : State), s.canTake f (marks :: n :: p) →
    readItems [4, 1, 1, 1, 1] marks.toNat p = some l →
    let good := 1 ≤ n.toNat ∧ n.toNat ≤ 16 ∧ marks.toNat < 32 ∧ (∀ m, item l 2 = some m → m < 4) ∧
      (∀ w, item l 3 = some w → w ≤ 1) ∧ (∀ c, item l 4 = some c → c ≤ 1)
    let speed := max 50 (min ((item l 1).getD 100) 150)
    let parts := (item l 2).getD 3
    (¬good → exec (.takePlay f) s = refusedWith f .range s) ∧
    (good → s.transport.state ≠ .idle → exec (.takePlay f) s = refusedWith f .busy s) ∧
    (good → s.transport.state = .idle → s.store.entry n.toNat = none → exec (.takePlay f) s = refusedWith f .notFound s) ∧
    (∀ e, good → s.transport.state = .idle → s.store.entry n.toNat = some e →
      (e.state ≠ .closed → exec (.takePlay f) s = refusedWith f .state s) ∧
      (e.state = .closed →
        let start := min ((item l 0).getD 0) e.duration
        ∃ u, exec (.takePlay f) s = acceptedFor f .none u ∧
          u.transport.take = some n.toNat ∧ u.transport.cursor = 0 ∧ u.transport.cursorTime = 0 ∧
          u.transport.speed = speed ∧
          u.transport.parts = { low := decide (parts % 2 = 1), high := decide (2 ≤ parts) } ∧
          u.transport.waitMode = decide (item l 3 = some 1) ∧ u.transport.click = decide (item l 4 = some 1) ∧
          u.transport.delivered = [] ∧ u.transport.levels = { damper := 0, sostenuto := false, soft := 0 } ∧
          u.transport.loop = none ∧ u.transport.anchor = none ∧ u.transport.recent = [] ∧ u.transport.mark = none ∧
          u.transport.hits = 0 ∧ u.transport.misses = 0 ∧ u.transport.chords = 0 ∧ u.transport.expectOverflow = 0 ∧
          u.transport.waitTime = 0 ∧
          (start = 0 →
            u.transport.state = .playing ∧ u.transport.seek = none ∧
            let first := ((s.store.recordsOf n.toNat).map Record.delta).headD 0
            u.transport.wait =
              some { target := first, towardB := false, fromTime := 0, began := f.now, length := first * 100 / speed,
                     speed := speed } ∧
            u.transport.carry = first * 100 % speed) ∧
          (start ≠ 0 →
            u.transport.state = .seeking ∧ u.transport.wait = none ∧
            u.transport.seek = some { target := start, pausePending := false, began := f.now }) ∧
          u.store = s.store.setEntry n.toNat (some { e with playing := true }) ∧
          u.audio.playSpeed = some speed ∧ u.audio.playClick = (s.audio.playClick || decide (item l 4 = some 1)) ∧
          u.announces .transport ∧ u.scanner = s.scanner ∧ u.router = s.router ∧ u.tone.queue = s.tone.queue ∧
          u.pedals = s.pedals ∧ u.rail = s.rail))

/-- TAKE_STOP, TAKE_PAUSE, TAKE_RESUME, TAKE_SPEED and TAKE_SEEK by the Transport's state (R151, R155, R160 to R164); one that ends
WAITING adds the waiting count to WAIT_TIME (R177). A pause
in PLAYING keeps the gathering mark, by the model's choice (assumption 18); so is that a GAP expiry overdue at a TAKE_STOP is taken
first, and that one which meets the reserve line leaves no recording to stop (assumption 2). A record due at once at a TAKE_RESUME is
delivered within it, as R177 says of a paused chord and the model reads for every record (assumption 45). -/
def Obligations.TransportControlsFollowTheState : Prop :=
  ∀ (f : Frame) (p : List Byte) (s : State), s.canTake f p →
    let t := s.transport
    let plays := t.state = .seeking ∨ t.state = .playing ∨ t.state = .waiting ∨ t.state = .paused
    let silent (u : State) : Prop := ∀ k, (u.sound k).owner ≠ some .playback
    let cleared (u : State) : Prop :=
      u.pedals.damper.playback = 0 ∧ u.pedals.soft.playback = 0 ∧ u.pedals.sostenuto.playback = false
    let rest (u : State) : Prop := u.scanner = s.scanner ∧ u.strokes = s.strokes ∧ u.rail = s.rail ∧
      u.store.memory = s.store.memory
    let banks (u : State) : Prop := t.state = .waiting →
      u.transport.waitingCount = none ∧ u.transport.chords = t.chords ∧
      ∀ c, t.waitingCount = some c → u.transport.waitTime = min (t.waitTime + c) 4294967295
    (t.state = .idle → exec (.takeStop f) s = refusedWith f .state s) ∧
    (t.state = .recording → (Store.writeOverdue f.now s.store).2 = true →
      ∃ u, exec (.takeStop f) s = answered f { status := .state, data := .none } u ∧ u.transport.state = .idle ∧
        u.transport.take = none ∧ u.transport.lastEnd = some .reserve ∧ u.store.recording = none ∧
        u.announces .takeClosed ∧ u.announces .transport) ∧
    ((t.state = .armed ∨ t.state = .recording) → (Store.writeOverdue f.now s.store).2 = false →
      ∃ u, exec (.takeStop f) s = okFor f .none u ∧ u.transport.state = .idle ∧ u.transport.take = none ∧
        u.transport.lastEnd = some .stop ∧ (∃ r, u.transport.lastClose = some r ∧ r.take = t.take.getD 0 ∧ r.cause = .stop) ∧
        u.store.recording = none ∧ u.announces .takeClosed ∧ u.announces .transport ∧ u.scanner = s.scanner ∧
        u.router = s.router ∧ u.pedals = s.pedals ∧ u.rail = s.rail) ∧
    (plays →
      ∃ u, exec (.takeStop f) s = okFor f .none u ∧ u.transport.state = .idle ∧ u.transport.take = none ∧
        u.transport.wait = none ∧ u.transport.seek = none ∧ u.transport.delivered = [] ∧ u.transport.expected = [] ∧
        u.transport.recent = [] ∧ u.transport.loop = none ∧ u.transport.anchor = none ∧ u.transport.mark = none ∧
        u.transport.lastEnd = some .stop ∧ silent u ∧ cleared u ∧ u.store = s.store.setPlaying (t.take.getD 0) false ∧
        u.audio.playSpeed = none ∧ u.announces .transport ∧ banks u ∧ rest u) ∧
    ((t.state = .idle ∨ t.state = .armed ∨ t.state = .recording) →
      exec (.takePause f) s = refusedWith f .state s ∧ exec (.takeResume f) s = refusedWith f .state s) ∧
    ((t.state = .playing ∨ t.state = .waiting) →
      exec (.takeResume f) s = refusedWith f .state s ∧
      ∃ u, exec (.takePause f) s = okFor f .none u ∧ u.transport.state = .paused ∧ u.transport.wait = none ∧
        u.transport.carry = 0 ∧ u.transport.delivered = [] ∧ u.transport.expected = [] ∧ u.transport.levels = t.levels ∧
        (t.state = .playing → u.transport.cursor = t.cursor ∧ u.transport.cursorTime = t.position f.now ∧
          u.transport.mark = t.mark) ∧
        (∀ m, t.state = .waiting → t.mark = some m →
          u.transport.cursor = m.first ∧ u.transport.cursorTime = m.time ∧ u.transport.mark = none) ∧
        silent u ∧ cleared u ∧ u.announces .transport ∧ u.store = s.store ∧ banks u ∧ rest u) ∧
    (t.state = .paused →
      exec (.takePause f) s = okFor f .none (s.received f) ∧
      ∃ v u, exec (.takeResume f) s = okFor f .none u ∧ v.continuesTo u ∧ v.now = f.now ∧ v.system = s.system ∧
        v.transport.state = .playing ∧ v.transport.cursor = t.cursor ∧ v.transport.cursorTime = t.cursorTime ∧
        (∃ w, v.transport.wait = some w ∧ w.fromTime = t.cursorTime ∧ w.began = f.now ∧ w.speed = t.speed ∧
          w.length = (w.target - t.cursorTime) * 100 / t.speed ∧
          (w.towardB = false → w.target = s.takeTimes.getD t.cursor t.cursorTime)) ∧
        v.transport.delivered = t.delivered ∧ v.transport.mark = t.mark ∧ v.transport.levels = t.levels ∧
        (t.levels.damper ≠ 0 → v.pedals.damper.playback = t.levels.damper) ∧
        (t.levels.soft ≠ 0 → v.pedals.soft.playback = t.levels.soft) ∧
        (t.levels.sostenuto = true → v.pedals.sostenuto.playback = true) ∧ v.store = s.store ∧ rest v ∧
        (∀ r key high velocity, s.takeRecords[t.cursor]? = some r → r.payload = .noteOn key high velocity →
          t.parts.has high = false → t.waitMode = true → t.mark = none → t.recent = [] → t.loop = none →
          s.takeTimes[t.cursor]? = some t.cursorTime →
          u.transport.state = .waiting ∧ u.transport.cursor = t.cursor + 1 ∧ key ∈ u.transport.expected ∧
          u.transport.waitingCount = some 0 ∧ u.transport.wait = none) ∧
        u.announces .transport ∧ rest u) ∧
    (∀ k, t.state = .seeking → t.seek = some k →
      exec (.takePause f) s =
        okFor f .none { s.received f with transport := { t with seek := some { k with pausePending := true } } } ∧
      exec (.takeResume f) s =
        if k.pausePending = true then
          okFor f .none { s.received f with transport := { t with seek := some { k with pausePending := false } } }
        else refusedWith f .state s) ∧
    (∀ n rest', p = n :: rest' →
      let speed := max 50 (min n.toNat 150)
      (¬plays → exec (.takeSpeed f) s = refusedWith f .state s) ∧
      (plays →
        ∃ u, exec (.takeSpeed f) s = okFor f (.speed speed) u ∧ u.transport = { t with speed := speed, carry := 0 } ∧
          u.audio.playSpeed = some speed ∧ u.router = s.router ∧ u.pedals = s.pedals ∧ u.store = s.store ∧ rest u)) ∧
    (∀ a b c d rest', p = a :: b :: c :: d :: rest' →
      let target := min (num4 a b c d) s.takeDuration
      (¬plays → exec (.takeSeek f) s = refusedWith f .state s) ∧
      (plays →
        ∃ u, exec (.takeSeek f) s = okFor f .none u ∧ u.transport.state = .seeking ∧ u.transport.wait = none ∧
          u.transport.carry = 0 ∧
          u.transport.seek =
            some { target := target, began := f.now,
                   pausePending := decide (t.state = .paused) || (decide (t.state = .seeking) && t.pausePending) } ∧
          (t.state ≠ .seeking → u.announces .transport) ∧
          ((t.state = .playing ∨ t.state = .waiting) → silent u ∧ cleared u) ∧ u.store = s.store ∧ banks u ∧ rest u))

/-- A seek that reaches its landing record (R164), and the delivery of the record at the cursor by its kind (R159, R163, R172), a BEAT
to the beat clock (R123, R125), each with the anchor test on the record that is at the cursor then (R166). A
record due at once at the landing is delivered within the completion, by the model's reading (assumption 45), and an event that
comes before its time leaves all but the time base as it was, by its choice (assumption 11). -/
def Obligations.SeeksLandAndRecordsAreDelivered : Prop :=
  (∀ (now : Time) (k : Seek) (s : State), s.system.mainOn = true → s.transport.state = .seeking →
    s.transport.seek = some k →
    let n := s.takeTimes.findIdx (fun t => decide (k.target ≤ t))
    let due := (n + 32) / 32 * 100
    ((now - k.began).toNat < due → exec (.seekComplete now) s = .next { s with now := now }) ∧
    (due ≤ (now - k.began).toNat →
      ∃ v t, exec (.seekComplete now) s = .next t ∧ v.transport.cursor = n ∧ v.transport.cursorTime = k.target ∧
        v.transport.levels = scanLevels (s.takeRecords.take n) ∧ v.transport.seek = none ∧ v.now = now ∧
        v.system = s.system ∧ v.store = s.store ∧ v.rail = s.rail ∧ v.scanner = s.scanner ∧
        s.transport.anchorsTo v.transport s.takeTimes ∧
        (k.pausePending = true →
          t = v ∧ v.transport.state = .paused ∧ v.router = s.router ∧ v.pedals = s.pedals) ∧
        (k.pausePending = false →
          v.continuesTo t ∧ v.transport.state = .playing ∧
          (∃ w, v.transport.wait = some w ∧ w.fromTime = k.target ∧ w.began = now ∧ w.speed = s.transport.speed ∧
            w.length = (w.target - k.target) * 100 / s.transport.speed ∧
            (w.towardB = false → w.target = s.takeTimes.getD n k.target))) ∧
        t.announces .transport ∧ t.store.memory = s.store.memory ∧ t.rail = s.rail ∧ t.scanner = s.scanner)) ∧
  (∀ (now : Time) (w : Wait) (r : Record) (s : State), s.system.mainOn = true → s.transport.state = .playing →
    s.transport.wait = some w → w.towardB = false → s.takeRecords[s.transport.cursor]? = some r →
    (reached now (w.began.after (w.length * 1000)) = false →
      exec (.recordDelivery now) s = .next { s with now := now }) ∧
    (reached now (w.began.after (w.length * 1000)) = true →
      let here : State := { s with now := now }
      ∃ t, exec (.recordDelivery now) s = .next t ∧ t.store.memory = s.store.memory ∧ t.scanner = s.scanner ∧
        t.rail = s.rail ∧
        (r.payload ≠ .ending → s.transport.anchorsTo t.transport s.takeTimes) ∧
        (r.payload ≠ .ending → (∀ key high velocity, r.payload ≠ .noteOn key high velocity) →
          t.transport.state = .playing ∧ t.transport.cursor = s.transport.cursor + 1 ∧
          t.transport.cursorTime = w.target ∧ ∃ next, t.transport.wait = some next ∧ next.began = now) ∧
        (r.payload = .gap → t.router = s.router ∧ t.pedals = s.pedals ∧ t.tone = s.tone) ∧
        (∀ bar beat, r.payload = .beat bar beat →
          t.router = s.router ∧ t.pedals = s.pedals ∧ t.tone = s.tone ∧
          (s.transport.click = true → s.audio.clock = .following →
            t.audio =
              { s.audio with counter := some { bar := bar, beat := beat },
                             click := some { first := decide (beat = 1), amplitude := none, index := 0 } } ∧
            t.panel.stream =
              s.panel.stream ++
                (if s.audio.metro.beatCopy = true ∧ s.panel.stream.length < 64 then
                  [.beat { bar := bar, beat := beat } now .following] else [])) ∧
          ((s.transport.click = false ∨ s.audio.clock ≠ .following) → t.audio = s.audio ∧ t.panel = s.panel)) ∧
        (r.payload = .ending →
          t.transport.state = .idle ∧ t.transport.lastEnd = some .ending ∧ t.announces .transport ∧
          (∀ k, (t.sound k).owner ≠ some .playback)) ∧
        (∀ key high velocity, r.payload = .noteOn key high velocity → s.transport.parts.has high = true →
          t.router = (here.onIntent key velocity .playback false now).router ∧
          t.tone = (here.onIntent key velocity .playback false now).tone ∧
          t.transport.delivered = insertNum key s.transport.delivered ∧ t.transport.state = .playing ∧
          t.transport.cursor = s.transport.cursor + 1 ∧ t.transport.cursorTime = w.target) ∧
        (∀ key high velocity, r.payload = .noteOn key high velocity → s.transport.parts.has high = false →
          t.router = s.router ∧ t.tone = s.tone ∧ t.pedals = s.pedals ∧ t.transport.delivered = s.transport.delivered ∧
          t.transport.cursor = s.transport.cursor + 1 ∧
          (s.transport.waitMode = false → t.transport.state = .playing) ∧
          (s.transport.waitMode = true → s.transport.mark = none → s.transport.recent = [] →
            s.takeTimes[s.transport.cursor]? = some w.target →
            t.transport.state = .waiting ∧ key ∈ t.transport.expected ∧ t.transport.waitingCount = some 0 ∧
            t.transport.wait = none ∧
            (∃ m, t.transport.mark = some m ∧ m.first = s.transport.cursor ∧ m.time = w.target) ∧
            t.announces .transport)) ∧
        (∀ key velocity, r.payload = .noteOff key velocity →
          (key ∈ s.transport.delivered →
            t.router = (here.offIntent key velocity .playback now).router ∧
            t.tone = (here.offIntent key velocity .playback now).tone ∧
            t.transport.delivered = removeNum key s.transport.delivered) ∧
          (key ∉ s.transport.delivered →
            t.router = s.router ∧ t.tone = s.tone ∧ t.transport.delivered = s.transport.delivered)) ∧
        (∀ level, r.payload = .pedal .damper level →
          t.transport.levels = { s.transport.levels with damper := level } ∧ t.pedals.damper.playback = level) ∧
        (∀ level, r.payload = .pedal .soft level →
          t.transport.levels = { s.transport.levels with soft := level } ∧ t.pedals.soft.playback = level) ∧
        (∀ level, r.payload = .pedal .sostenuto level →
          t.transport.levels = { s.transport.levels with sostenuto := decide (64 ≤ level) } ∧
          t.pedals.sostenuto.playback = decide (64 ≤ level))))

/-- LOOP_SET, LOOP_CLEAR and TRANSPORT_REPORT (R151, R165, R168), and the loop jump at the expiry of a wait toward B (R167). RANGE
comes before STATE, and in IDLE, with no take whose duration could bound B, a B of any size is answered STATE (assumption 34). The
layout of LOOP_SET is the model's reading (assumption 14). A jump taken late acts with its own time base (assumption 11), and a wait
of length 0 that it computes stands until its RECORD_DELIVERY (assumption 45), by the model's choices. -/
def Obligations.LoopsRunBetweenTheMarks : Prop :=
  (∀ (f : Frame) (a3 a2 a1 a0 b3 b2 b1 b0 repeats : Byte) (rest : List Byte) (s : State),
    s.canTake f (a3 :: a2 :: a1 :: a0 :: b3 :: b2 :: b1 :: b0 :: repeats :: rest) →
    let a := num4 a3 a2 a1 a0
    let b := num4 b3 b2 b1 b0
    let plays := s.transport.state.plays = true
    (b < a + 500 ∨ 99 < repeats.toNat → exec (.loopSet f) s = refusedWith f .range s) ∧
    (a + 500 ≤ b → repeats.toNat ≤ 99 → s.transport.state ≠ .idle → s.takeDuration < b →
      exec (.loopSet f) s = refusedWith f .range s) ∧
    (a + 500 ≤ b → repeats.toNat ≤ 99 → ¬plays → (s.transport.state = .idle ∨ b ≤ s.takeDuration) →
      exec (.loopSet f) s = refusedWith f .state s) ∧
    (a + 500 ≤ b → repeats.toNat ≤ 99 → plays → b ≤ s.takeDuration →
      ∃ u, exec (.loopSet f) s = okFor f .none u ∧
        u.transport.loop = some { a := a, b := b, repeats := repeats.toNat, left := repeats.toNat } ∧
        u.transport.state = s.transport.state ∧ u.transport.cursor = s.transport.cursor ∧
        u.transport.delivered = s.transport.delivered ∧
        (∀ w time, s.transport.state = .playing → s.transport.wait = some w → s.transport.position f.now < b →
          b ≤ w.target → s.takeTimes[s.transport.cursor]? = some time → w.target ≤ time →
          u.transport.cursorTime = s.transport.position f.now ∧
          u.transport.wait.map Wait.target = some b ∧ u.transport.wait.map Wait.towardB = some true) ∧
        (s.transport.state ≠ .playing →
          u.transport.cursorTime = s.transport.cursorTime ∧ u.transport.wait = s.transport.wait) ∧
        u = { s.received f with transport := u.transport })) ∧
  (∀ (f : Frame) (p : List Byte) (s : State), s.canTake f p →
    exec (.transportReport f) s = okFor f (.transport (s.received f).transportReport) (s.received f) ∧
    (s.transport.state.plays = false → exec (.loopClear f) s = okFor f .none (s.received f)) ∧
    (s.transport.state.plays = true →
      ∃ u, exec (.loopClear f) s = okFor f .none u ∧ u.transport.loop = none ∧ u.transport.anchor = none ∧
        u.transport.state = s.transport.state ∧ u.transport.cursor = s.transport.cursor ∧
        (∀ w, s.transport.wait = some w → (w.towardB = false ∨ s.transport.state ≠ .playing) →
          u.transport.wait = some w ∧ u.transport.cursorTime = s.transport.cursorTime) ∧
        (∀ w, s.transport.state = .playing → s.transport.wait = some w → w.towardB = true →
          let here := s.transport.position f.now
          let target := s.takeTimes.getD s.transport.cursor here
          u.transport.cursorTime = here ∧
          u.transport.wait =
            some { target := target, towardB := false, fromTime := here, began := f.now,
                   length := (target - here) * 100 / s.transport.speed, speed := s.transport.speed }) ∧
        u = { s.received f with transport := u.transport })) ∧
  (∀ (now : Time) (w : Wait) (l : Loop) (s : State), s.system.mainOn = true → s.transport.state = .playing →
    s.transport.wait = some w → w.towardB = true → reached now (w.began.after (w.length * 1000)) = true →
    s.transport.loop = some l →
    let left := if l.repeats = 0 then l.left else l.left - 1
    ∃ t, exec (.loopJump now) s = .next t ∧ t.transport.loop = some { l with left := left } ∧
      t.transport.delivered = [] ∧ t.announces .transport ∧ t.store = s.store ∧ t.rail = s.rail ∧
      t.scanner = s.scanner ∧ (∀ k, (t.sound k).owner ≠ some .playback) ∧
      (∀ anchor, s.transport.anchor = some anchor →
        t.transport.state = .playing ∧ t.transport.cursor = anchor.record ∧ t.transport.cursorTime = l.a ∧
        t.transport.levels = anchor.levels ∧ ∃ next, t.transport.wait = some next ∧ next.began = now) ∧
      (s.transport.anchor = none →
        t.transport.state = .seeking ∧ t.transport.wait = none ∧ t.transport.cursorTime = w.target ∧
        t.transport.seek = some { target := l.a, pausePending := false, began := now }))

/-! ### Wait-mode practice (R170 to R180) -/

/-- PRACTICE_SET with any of its items carried (R177, R178), WAIT_REPORT (R179) and the waiting count (R170). The codes of its one-byte options, and
RANGE for a byte with no code, are the model's reading of R202 and R203 (assumption 14). An event that comes before its time
leaves all but the time base as it was, by the model's choice (assumption 11). -/
def Obligations.PracticeSettingsAndScore : Prop :=
  (∀ (f : Frame) (marks : Byte) (p : List Byte) (l : List (Option Nat)) (s : State), s.canTake f (marks :: p) →
    readItems [1, 1, 1, 1] marks.toNat p = some l →
    let t := s.transport
    let plays := t.state.plays
    let good := marks.toNat < 16 ∧ (∀ m, item l 0 = some m → m < 4) ∧ (∀ w, item l 1 = some w → w ≤ 1)
    let turnedAway := plays = false ∧ ((item l 0).isSome = true ∨ (item l 1).isSome = true)
    let ends := t.state = .waiting ∧ item l 1 = some 0
    let after : Transport :=
      { t with
        parts := ((item l 0).map (fun m => ({ low := decide (m % 2 = 1), high := decide (2 ≤ m) } : Parts))).getD t.parts
        waitMode := ((item l 1).map (fun w => decide (w = 1))).getD t.waitMode
        chordWindow := ((item l 2).map (fun n => min n 100)).getD t.chordWindow
        leadWindow := ((item l 3).map (fun n => min n 200)).getD t.leadWindow }
    let settings : PracticeSettings :=
      { parts := if plays then some after.parts else none, waitMode := if plays then some after.waitMode else none,
        chordWindow := after.chordWindow, leadWindow := after.leadWindow }
    (¬good → exec (.practiceSet f) s = refusedWith f .range s) ∧
    (good → turnedAway → exec (.practiceSet f) s = refusedWith f .state s) ∧
    (good → ¬turnedAway → ¬ends →
      exec (.practiceSet f) s = okFor f (.practice settings) { s.received f with transport := after }) ∧
    (good → ends →
      ∃ u, exec (.practiceSet f) s = okFor f (.practice settings) u ∧ u.transport.state = .playing ∧
        u.transport.expected = [] ∧ u.transport.waitingCount = none ∧ u.transport.chords = t.chords ∧
        u.transport.hits = t.hits ∧ u.transport.misses = t.misses ∧ u.transport.waitMode = false ∧
        (∀ c, t.waitingCount = some c → u.transport.waitTime = min (t.waitTime + c) 4294967295) ∧
        (∃ w, u.transport.wait = some w ∧ w.began = f.now ∧ ∀ m, t.mark = some m → w.fromTime = m.time) ∧
        u.announces .transport ∧ u.router = s.router ∧ u.pedals = s.pedals ∧ u.store = s.store)) ∧
  (∀ (f : Frame) (b : Byte) (rest : List Byte) (s : State), s.canTake f (b :: rest) →
    exec (.waitReport f) s =
      if b = 0 then okFor f (.waitReport s.transport.waitReport) (s.received f)
      else if b = 1 then
        okFor f (.waitReport s.transport.waitReport)
          { s.received f with
            transport :=
              { s.transport with hits := 0, misses := 0, chords := 0, expectOverflow := 0, waitTime := 0 } }
      else refusedWith f .range s) ∧
  (∀ (now : Time) (s : State), s.system.mainOn = true →
    exec (.waitingCountRise now) s =
      if s.transport.state = .waiting then
        .next { s with
          now := now
          transport :=
            { s.transport with waitingCount := s.transport.waitingCount.map (fun c => min (c + 1) 4294967295) } }
      else .next { s with now := now })

/-- A live strike at the Transport, by its state. In WAITING it is a hit or a miss, and the hit that leaves the Expected Set empty
completes the chord (R175, R176, R180); in SEEKING, PLAYING or PAUSED it joins the Recent Strikes (R171). In RECORDING it is written as
a NOTE_ON, behind a NOTE_OFF for a key in the open-note set (R137, R154), with room for it and no GAP expiry ahead of it; so is a live
release of a key in that set as a NOTE_OFF, which no other state takes. The first strike in ARMED starts the take's clock with its own
time (R153): the PEDAL records of the pedals held down, its NOTE_ON, and with click on the first beat. -/
def Obligations.LiveStrikesReachTheTransport : Prop :=
  (∀ (key velocity : Nat) (time : Time) (s : State),
    let u := s.liveStrike key velocity time
    (s.transport.state = .idle → u = s) ∧
    ((s.transport.state = .seeking ∨ s.transport.state = .playing ∨ s.transport.state = .paused) →
      u = { s with
        transport :=
          { s.transport with
            recent := (if 8 ≤ s.transport.recent.length then s.transport.recent.drop 1 else s.transport.recent) ++
              [{ key := key, time := time }] } }) ∧
    (s.transport.state ≠ .recording → s.liveRelease key velocity time = s)) ∧
  (∀ (key velocity : Nat) (time : Time) (c : RecordingContext) (e : Take) (s : State),
    s.transport.state = .recording → s.records c e time → 1 ≤ key → key ≤ 88 → 1 ≤ velocity → velocity ≤ 127 →
    let position := c.positionAt time
    let note : Byte := BitVec.ofNat 8 (key + if e.split ≤ key then 128 else 0)
    let speed : Byte := BitVec.ofNat 8 velocity
    let others := c.openNotes.filter (fun k => k ≠ key)
    let u := s.liveStrike key velocity time
    let v := s.liveRelease key velocity time
    (key ∉ c.openNotes →
      u = { s with store := u.store } ∧
      s.store.writes u.store c e 1 note speed position (key :: c.openNotes) c.levels ∧ v = s) ∧
    (key ∈ c.openNotes →
      v = { s with store := v.store } ∧
      s.store.writes v.store c e 2 (BitVec.ofNat 8 key) speed position others c.levels ∧
      (3 < s.store.freeList.length →
        u = { s with store := u.store } ∧
        ∃ st d f, s.store.writes st c e 2 (BitVec.ofNat 8 key) 64 position others c.levels ∧ st.recording = some d ∧
          st.entry c.take = some f ∧ st.writes u.store d f 1 note speed position c.openNotes c.levels))) ∧
  (∀ (key velocity : Nat) (time : Time) (c : RecordingContext) (e : Take) (s : State), s.transport.state = .armed →
    s.memoryCanonical → s.store.recording = some c → s.transport.take = some c.take → 1 ≤ c.take → c.take ≤ 16 →
    s.store.entry c.take = some e → e.count = 0 → c.position = 0 → c.lastTime = 0 → c.openNotes = [] →
    c.levels = { damper := 0, sostenuto := false, soft := 0 } → s.pedals.damper.live ≤ 127 → s.pedals.soft.live ≤ 127 →
    1 ≤ key → key ≤ 88 → 1 ≤ velocity → velocity ≤ 127 →
    let u := s.liveStrike key velocity time
    let records : List (List Byte) :=
      (if s.pedals.damper.live = 0 then [] else [[0x30, 0, 1, BitVec.ofNat 8 s.pedals.damper.live]]) ++
      (if s.pedals.sostenuto.live then [[0x30, 0, 2, 127]] else []) ++
      (if s.pedals.soft.live = 0 then [] else [[0x30, 0, 3, BitVec.ofNat 8 s.pedals.soft.live]]) ++
      [[0x10, 0, BitVec.ofNat 8 (key + if e.split ≤ key then 128 else 0), BitVec.ofNat 8 velocity]]
    let place := e.last * 128
    let started : RecordingContext :=
      { c with
        started := true, lastStamp := time, openNotes := [key]
        levels := { damper := s.pedals.damper.live, sostenuto := s.pedals.sostenuto.live, soft := s.pedals.soft.live } }
    u.transport = { s.transport with state := .recording } ∧ u.announces .transport ∧ u.scanner = s.scanner ∧
    u.router = s.router ∧ u.tone = s.tone ∧ u.pedals = s.pedals ∧ u.rail = s.rail ∧
    Memory.readBytes u.store.memory place (4 * records.length) = records.flatten ∧
    u.store.freeList = s.store.freeList ∧ (∀ m, m ≠ c.take → u.store.entry m = s.store.entry m) ∧
    (s.transport.click = false →
      u.store.entry c.take = some { e with count := records.length } ∧ u.store.recording = some started ∧
      (∀ a, (a < place ∨ place + 4 * records.length ≤ a) → Memory.read u.store.memory a = Memory.read s.store.memory a) ∧
      u.audio = s.audio ∧ u.panel = s.panel) ∧
    (s.transport.click = true → (s.now - time).toNat ≤ 4095000 →
      let delta := (s.now - time).toNat / 1000
      u.audio.recordClick = true ∧ u.audio.clock = .recording ∧
      (s.audio.clock ≠ .recording →
        u.audio.counter = some { bar := 1, beat := 1 } ∧ u.audio.entryTempo = s.audio.metro.tempo ∧
        u.audio.entryBeats = s.audio.metro.beats ∧
        u.audio.nextBeat = some (s.now.after (60000000 / s.audio.metro.tempo)) ∧
        u.audio.click = some { first := true, amplitude := none, index := 0 }) ∧
      u.store.entry c.take =
        some { e with count := records.length + 1, duration := e.duration + delta,
                      tempo := some { bpm := s.audio.metro.tempo, beats := s.audio.metro.beats } } ∧
      Memory.readBytes u.store.memory (place + 4 * records.length) 4 = beBytes 2 (0x4000 + delta) ++ [0, 0x11] ∧
      (∀ a, (a < place ∨ place + 4 * records.length + 4 ≤ a) →
        Memory.read u.store.memory a = Memory.read s.store.memory a) ∧
      u.store.recording =
        some { started with position := (s.now - time).toNat, lastTime := delta, lastStamp := s.now })) ∧
  (∀ (key velocity : Nat) (time : Time) (m : GatherMark) (s : State), s.transport.state = .waiting →
    s.transport.mark = some m →
    let t := s.transport
    let u := s.liveStrike key velocity time
    let left := t.expected.filter (fun k => k ≠ key)
    (key ∈ t.expected →
      u.transport.hits = min (t.hits + 1) 65535 ∧ u.transport.misses = t.misses ∧ u.transport.recent = t.recent ∧
      u.transport.expected = left ∧
      (s.panel.stream.length < 64 →
        u.panel.stream = s.panel.stream ++ [.waitHit key time false m.time left.length]) ∧
      (left ≠ [] → u.transport.state = .waiting ∧ u.transport.chords = t.chords) ∧
      (left = [] →
        u.transport.state = .playing ∧ u.transport.chords = min (t.chords + 1) 65535 ∧
        u.transport.waitingCount = none ∧ u.transport.mark = some m ∧ u.transport.cursorTime = m.time ∧
        (∀ c, t.waitingCount = some c → u.transport.waitTime = min (t.waitTime + c) 4294967295) ∧
        (∃ w, u.transport.wait = some w ∧ w.fromTime = m.time ∧ w.began = s.now) ∧ u.announces .transport)) ∧
    (key ∉ t.expected →
      u.transport.misses = min (t.misses + 1) 65535 ∧ u.transport.hits = t.hits ∧ u.transport.expected = t.expected ∧
      u.transport.state = .waiting ∧
      u.transport.recent = (if 8 ≤ t.recent.length then t.recent.drop 1 else t.recent) ++ [{ key := key, time := time }] ∧
      (s.panel.stream.length < 64 →
        u.panel.stream = s.panel.stream ++ [.waitMiss key time m.time t.expected.length])) ∧
    u.router = s.router ∧ u.tone = s.tone ∧ u.pedals = s.pedals ∧ u.store = s.store ∧ u.scanner = s.scanner)

/-! ### Transfers (R181 to R189) -/

/-- The check value (R182) and the export requests (R183 to R185): the stream's bytes and the check bytes behind them, each data
byte folded once, and the ends of an export. An event that comes before its time
leaves all but the time base as it was, by the model's choice (assumption 11). -/
def Obligations.ExportsSendTheStream : Prop :=
  crcFold crcStart [0x31, 0x32, 0x33, 0x34, 0x35, 0x36, 0x37, 0x38, 0x39] = 0x29B1#16 ∧
  (∀ (f : Frame) (n : Byte) (rest : List Byte) (s : State), s.canTake f (n :: rest) →
    ((n.toNat = 0 ∨ 16 < n.toNat) → exec (.exportOpen f) s = refusedWith f .range s) ∧
    (1 ≤ n.toNat → n.toNat ≤ 16 →
      (s.transfer.exporting ≠ none → exec (.exportOpen f) s = refusedWith f .busy s) ∧
      (s.transfer.exporting = none → s.store.entry n.toNat = none → exec (.exportOpen f) s = refusedWith f .notFound s) ∧
      (∀ e, s.transfer.exporting = none → s.store.entry n.toNat = some e →
        (e.state ≠ .closed → exec (.exportOpen f) s = refusedWith f .state s) ∧
        (e.state = .closed →
          exec (.exportOpen f) s =
            acceptedFor f (.exportOpened n.toNat e.serial (31 + 4 * e.count + 2))
              { s.received f with
                store := s.store.setEntry n.toNat (some { e with exporting := true })
                transfer :=
                  { s.transfer with
                    exporting := some
                      { take := n.toNat, length := 31 + 4 * e.count + 2, cursor := 0, check := 0xFFFF#16,
                        idle := f.now.after 5000000, endSeen := false, upperSent := false, lowerSent := false } } })))) ∧
  (∀ (f : Frame) (a b c : Byte) (rest : List Byte) (s : State), s.canTake f (a :: b :: c :: rest) →
    (s.transfer.exporting = none → exec (.exportRead f) s = refusedWith f .state s) ∧
    (∀ x, s.transfer.exporting = some x →
      let offset := num3 a b c
      let kept (y : Export) : State := { s.received f with transfer := { s.transfer with exporting := some y } }
      let idle := f.now.after 5000000
      let size := min 64 (x.length - offset)
      let upTo := min (offset + size) (x.length - 2)
      let data := s.store.streamData x.take
      let check := crcFold x.check ((data.take upTo).drop x.cursor)
      (x.length ≤ offset →
        exec (.exportRead f) s = answered f { status := .range, data := .none } (kept { x with idle := idle })) ∧
      (offset < x.length → x.cursor < offset → x.cursor ≠ x.length - 2 →
        exec (.exportRead f) s = answered f { status := .order, data := .none } (kept { x with idle := idle })) ∧
      (offset < x.length → (offset ≤ x.cursor ∨ x.cursor = x.length - 2) →
        exec (.exportRead f) s =
          okFor f
            (.chunk (((data ++ beBytes 2 check.toNat).drop offset).take size) (decide (offset + size = x.length)))
            (kept
              { x with
                cursor := max x.cursor upTo
                check := check
                idle := idle
                endSeen := x.endSeen || decide (offset + size = x.length)
                upperSent := x.upperSent || (decide (offset ≤ x.length - 2) && decide (x.length - 2 < offset + size))
                lowerSent := x.lowerSent || decide (offset + size = x.length) })))) ∧
  (∀ (f : Frame) (p : List Byte) (s : State), s.canTake f p →
    (s.transfer.exporting = none → exec (.exportClose f) s = refusedWith f .state s) ∧
    (∀ x, s.transfer.exporting = some x →
      ∃ u, exec (.exportClose f) s = okFor f .none u ∧ u.store = s.store.setExporting x.take false ∧
        u.transfer =
          { s.transfer with
            exporting := none
            lastExport := some
              { take := x.take, result := if x.endSeen = true then .complete else .closedEarly,
                bytes := x.cursor + boolCode x.upperSent + boolCode x.lowerSent } } ∧
        u.announces .transfer ∧ u.transport = s.transport ∧ u.router = s.router)) ∧
  (∀ (now : Time) (x : Export) (s : State), s.system.mainOn = true → s.transfer.exporting = some x →
    (reached now x.idle = false → exec (.exportIdleExpiry now) s = .next { s with now := now }) ∧
    (reached now x.idle = true →
      ∃ t, exec (.exportIdleExpiry now) s = .next t ∧ t.store = s.store.setExporting x.take false ∧
        t.transfer =
          { s.transfer with
            exporting := none
            lastExport := some
              { take := x.take, result := .timeout,
                bytes := x.cursor + boolCode x.upperSent + boolCode x.lowerSent } } ∧
        t.announces .transfer ∧ t.transport = s.transport ∧ t.router = s.router))

/-- The import requests (R140, R141, R186 to R189): the refusals in their order, the opening, a write that is taken or aborts the
import, the closing checks in their order, and the idle expiry. STATE before the bytes are judged with no import open, and bytes
moved that count the byte which aborts the import, are the model's choices (assumption 33), as is that an event that comes before
its time leaves all but the time base as it was (assumption 11). -/
def Obligations.ImportsAreCheckedAndClosed : Prop :=
  (∀ (f : Frame) (n a b c : Byte) (rest : List Byte) (s : State), s.canTake f (n :: a :: b :: c :: rest) →
    let declared := num3 a b c
    let good := 1 ≤ n.toNat ∧ n.toNat ≤ 16 ∧ 37 ≤ declared ∧ declared ≤ 262177 ∧ (declared - 33) % 4 = 0
    let reserve := if s.store.recording.isSome = true then 3 else 0
    let serial := min (s.store.serial + 1) 4294967295
    (¬good → exec (.importOpen f) s = refusedWith f .range s) ∧
    (good → s.transfer.importing ≠ none → exec (.importOpen f) s = refusedWith f .busy s) ∧
    (good → s.transfer.importing = none → s.store.entry n.toNat ≠ none →
      exec (.importOpen f) s = refusedWith f .state s) ∧
    (good → s.transfer.importing = none → s.store.entry n.toNat = none → s.store.freeList.length ≤ reserve →
      exec (.importOpen f) s = refusedWith f .noSpace s) ∧
    (∀ block blocks, good → s.transfer.importing = none → s.store.entry n.toNat = none →
      s.store.freeList = block :: blocks → reserve ≤ blocks.length →
      ∃ u, exec (.importOpen f) s = acceptedFor f (.takeOpened n.toNat serial) u ∧
        u.store.entry n.toNat =
          some { state := .importing, flags := {}, count := 0, duration := 0, tempo := none, split := 45,
                 name := none, serial := serial, first := block, last := block, playing := false, exporting := false } ∧
        (∀ m, m ≠ n.toNat → u.store.entry m = s.store.entry m) ∧ u.store.freeList = blocks ∧ u.store.serial = serial ∧
        u.store.importing = some { take := n.toNat, written := 0, deltaSum := 0 } ∧ u.store.memory = s.store.memory ∧
        u.transfer =
          { s.transfer with
            importing := some
              { take := n.toNat, declared := declared, expected := 0, check := 0xFFFF#16, received := [],
                headerBuffer := [], recordBuffer := [], header := none, openKeys := [], unbalanced := false, ends := 0,
                lastIsEnd := false, deltaSum := 0, idle := f.now.after 5000000 } } ∧
        u = { s.received f with store := u.store, transfer := u.transfer })) ∧
  (∀ (f : Frame) (a b c : Byte) (data : List Byte) (s : State), s.canTake f (a :: b :: c :: data) →
    (s.transfer.importing = none → exec (.importWrite f) s = refusedWith f .state s) ∧
    (∀ x, s.transfer.importing = some x →
      let offset := num3 a b c
      let y : Import := { x with idle := f.now.after 5000000 }
      let kept (y : Import) : State := { s.received f with transfer := { s.transfer with importing := some y } }
      ((data = [] ∨ 64 < data.length) →
        exec (.importWrite f) s = answered f { status := .range, data := .none } (kept y)) ∧
      (data ≠ [] → data.length ≤ 64 → offset ≠ x.expected →
        exec (.importWrite f) s = answered f { status := .order, data := .none } (kept y)) ∧
      (data ≠ [] → data.length ≤ 64 → offset = x.expected → x.declared < offset + data.length →
        ∃ u, exec (.importWrite f) s = answered f { status := .length, data := .none } u ∧
          u.transfer =
            { s.transfer with
              importing := none, lastImport := some { take := x.take, result := .length, bytes := x.expected } } ∧
          u.store = s.store.failImport ∧ u.announces .transfer) ∧
      (data ≠ [] → data.length ≤ 64 → offset = x.expected → offset + data.length ≤ x.declared →
        (∀ z st, y.takeBytes s.store data = .goes z st →
          exec (.importWrite f) s =
            okFor f (.expectedOffset (x.expected + data.length)) { kept z with store := st } ∧
          z.expected = x.expected + data.length) ∧
        (∀ z st result, y.takeBytes s.store data = .aborts z st result →
          ∃ u, exec (.importWrite f) s = answered f { status := result.status, data := .none } u ∧
            (result = .format ∨ result = .noSpace) ∧ u.store = st.failImport ∧
            u.transfer =
              { s.transfer with
                importing := none, lastImport := some { take := x.take, result := result, bytes := z.expected } } ∧
            u.announces .transfer)))) ∧
  (∀ (f : Frame) (p : List Byte) (s : State), s.canTake f p →
    (s.transfer.importing = none → exec (.importClose f) s = refusedWith f .state s) ∧
    (∀ x, s.transfer.importing = some x →
      let fails (status : Status) (result : TransferResult) : Prop :=
        ∃ u, exec (.importClose f) s = answered f { status := status, data := .none } u ∧
          u.store = s.store.failImport ∧ u.announces .transfer ∧
          u.transfer =
            { s.transfer with
              importing := none, lastImport := some { take := x.take, result := result, bytes := x.expected } }
      (x.expected < x.declared → fails .length .length) ∧
      (∀ h c, x.declared ≤ x.expected → x.header = some h → s.store.importing = some c →
        let complete := c.written = h.count ∧ x.ends = 1 ∧ x.lastIsEnd = true ∧ x.deltaSum = h.duration ∧
          x.unbalanced = false ∧ x.openKeys = []
        (beNat x.received ≠ x.check.toNat → fails .check .check) ∧
        (beNat x.received = x.check.toNat → ¬complete → fails .format .format) ∧
        (∀ e, beNat x.received = x.check.toNat → complete → c.take = x.take → 1 ≤ x.take → x.take ≤ 16 →
          s.store.entry x.take = some e →
          ∃ u, exec (.importClose f) s = okFor f (.imported x.take e.serial h.count) u ∧
            u.store.entry x.take =
              some { e with state := .closed, flags := { h.flags with imported := true }, tempo := h.tempo,
                            split := h.split, name := h.name } ∧
            (∀ m, m ≠ x.take → u.store.entry m = s.store.entry m) ∧ u.store.importing = none ∧
            u.store.memory = s.store.memory ∧ u.store.freeList = s.store.freeList ∧ u.announces .transfer ∧
            u.transfer =
              { s.transfer with
                importing := none
                lastImport := some { take := x.take, result := .complete, bytes := x.expected } })))) ∧
  (∀ (now : Time) (x : Import) (s : State), s.system.mainOn = true → s.transfer.importing = some x →
    (reached now x.idle = false → exec (.importIdleExpiry now) s = .next { s with now := now }) ∧
    (reached now x.idle = true →
      ∃ t, exec (.importIdleExpiry now) s = .next t ∧ t.store = s.store.failImport ∧ t.announces .transfer ∧
        t.transfer =
          { s.transfer with
            importing := none, lastImport := some { take := x.take, result := .timeout, bytes := x.expected } }))

/-! ### Links, starts and supplies (R190 to R201) -/

/-- IDENTIFY, LINK_REPORT, STATUS_MASK and RESTART (R196, R199, R200). The codes of the one-byte options, and RANGE for a byte
with no code, are the model's reading of R202 and R203 (assumption 14), the revision as a character code is taken from outside the
manual (assumption 38), and the vendor code is a free value of the width the model gives it (assumption 5). The mark in a RESTART
reply that says whether it arranged the start is the model's own (assumption 17). -/
def Obligations.LinkRequestsReportAndArrange : Prop :=
  (∀ (f : Frame) (p : List Byte) (s : State), s.canTake f p →
    exec (.identify f) s =
      okFor f
        (.identity
          { vendor := Config.vendorCode, part := 8812, revision := 0x42, kept := s.system.lastStart.warm,
            cause := s.system.lastStart.cause })
        (s.received f) ∧
    (s.system.restart = none →
      exec (.restart f) s =
        okFor f (.restart true)
          { s.received f with
            system := { s.system with restart := some { link := f.link, requested := f.now, replyRead := false } } }) ∧
    (s.system.restart ≠ none → exec (.restart f) s = okFor f (.restart false) (s.received f))) ∧
  (∀ (f : Frame) (b : Byte) (rest : List Byte) (s : State), s.canTake f (b :: rest) →
    let me := (s.received f).link f.link
    let onP := decide (f.link = .p)
    let report : LinkReport :=
      { malformed := me.malformed, lostReplies := me.lostReplies, streamDrops := if onP then some s.panel.drops else none,
        streamCount := if onP then some s.panel.stream.length else none,
        pointer := if onP then some s.panel.pointer else none, pendingKinds := me.board }
    (b = 0 → exec (.linkReport f) s = okFor f (.linkReport report) (s.received f)) ∧
    (b = 1 →
      ∃ u, exec (.linkReport f) s = okFor f (.linkReport report) u ∧
        u.link f.link = { me with malformed := 0, lostReplies := 0 } ∧
        u.panel = { (s.received f).panel with drops := if onP then 0 else s.panel.drops } ∧
        u.system = s.system ∧ u.router = s.router ∧ u.store = s.store) ∧
    (1 < b.toNat → exec (.linkReport f) s = refusedWith f .range s)) ∧
  (∀ (f : Frame) (hi lo : Byte) (rest : List Byte) (s : State), s.canTake f (hi :: lo :: rest) →
    let mask := BitVec.ofNat 16 (num2 hi lo) ||| 1#16
    exec (.statusMask f) s =
      if 8192 ≤ num2 hi lo then refusedWith f .range s
      else
        okFor f (.mask mask)
          ((s.received f).modLink f.link (fun l => { l with mask := mask, board := l.board &&& mask })))

/-- Reads of the reply buffer (R190, R191, R193), which shift out the reply frame or a marker of 12.2 as bytes, pointer writes and
bad selectors (R192, R193), status reads with the snapshots of 12.4 (R195), stream reads (R197) and the attention lines (R198). A
transaction on Link P for another address leaves all but the time base as it was (R193; assumption 48). The layout of a reply's data
and the codes of a snapshot that 12.4 does not list are the model's reading (assumptions 7 and 41), and a read on Link P of a channel the pointer does not name is not a form of these commands (assumption 16). The
model's choices are that a read may find the request in HANDLING judged (assumption 3), with a request held behind it taken by the
same read, the mark in the reply to the RESTART that arranged the start (assumption 17), that a status read stays open to
abandonment until the next exchange (assumption 25), that an abandonment of no status read has no effect (assumption 37), and that
an event that comes before its time leaves all but the time base as it was (assumption 11). -/
def Obligations.LinkReadsTakeWhatStands : Prop :=
  ∀ (now : Time) (l : Link) (address : BitVec 7) (s : State), s.system.mainOn = true →
    let begun := State.beginExchange l { s with now := now }
    let begunP := State.beginExchange .p { s with now := now }
    let buffer := (s.link l).buffer
    let here := l = .p → address = 0x5C#7 + s.system.strap.setWidth 7
    (address ≠ 0x5C#7 + s.system.strap.setWidth 7 →
      (∀ toEnd judged, exec (.replyRead now ⟨address, .p⟩ toEnd judged) s = .next { s with now := now }) ∧
      (∀ value, exec (.pointerWrite now ⟨address, value⟩) s = .next { s with now := now }) ∧
      exec (.statusRead now ⟨address, .p⟩) s = .next { s with now := now } ∧
      ∀ n, exec (.streamRead now ⟨address, n⟩) s = .next { s with now := now }) ∧
    (here → (l = .p → s.panel.pointer = .reply) →
      (∀ toEnd judged, buffer = .empty →
        exec (.replyRead now ⟨address, l⟩ toEnd judged) s =
          .next (begun.modLink l (fun x => { x with out := .bytes [0xFF, 0, 0] }))) ∧
      (∀ judged r, buffer = .ready r →
        exec (.replyRead now ⟨address, l⟩ false judged) s =
          .next (begun.modLink l (fun x => { x with out := .cutShort })) ∧
        ∃ t, exec (.replyRead now ⟨address, l⟩ true judged) s = .next t ∧ (t.link l).buffer = .empty ∧
          (t.link l).out =
            .bytes (BitVec.ofNat 8 r.status.code :: (beBytes 2 r.data.bytes.length ++ r.data.bytes)) ∧
          t.system =
            (if r.data = .restart true then
              { s.system with restart := s.system.restart.map (fun x => { x with replyRead := true }) }
            else s.system) ∧
          t.router = s.router ∧ t.store = s.store ∧ t.panel.stream = s.panel.stream) ∧
      (∀ toEnd kind g, buffer = .handling kind g →
        (l = .t →
          exec (.replyRead now ⟨address, l⟩ toEnd false) s =
            .next (begun.modLink l (fun x => { x with out := .bytes [0xFE, 0, 0] }))) ∧
        (l = .p →
          exec (.replyRead now ⟨address, l⟩ toEnd false) s =
            .next { begun with panel := { begun.panel with stretch := some now } }) ∧
        (∀ p u r, kind ≠ .unknown → g.link = l → frameParams kind g.body = some p →
          judge kind l g.now p begun = some (u, r) → (u.link l).held = none →
          exec (.replyRead now ⟨address, l⟩ true true) s = .next ((u.placeReply l r).replyTaken l r)) ∧
        (∀ p u r next h p2 v r2, kind ≠ .unknown → g.link = l → frameParams kind g.body = some p →
          judge kind l g.now p begun = some (u, r) → (u.link l).held = some (next, h) →
          let lost := (u.placeReply l r).modLink l (fun x =>
            { x with held := none, lostReplies := min (x.lostReplies + 1) 255 })
          next ≠ .unknown → h.link = l → frameParams next h.body = some p2 → judge next l h.now p2 lost = some (v, r2) →
          (h.deferred = false →
            exec (.replyRead now ⟨address, l⟩ true true) s = .next ((v.placeReply l r2).replyTaken l r2)) ∧
          (h.deferred = true → l = .t →
            exec (.replyRead now ⟨address, l⟩ true true) s =
              .next (lost.modLink l (fun x => { x with buffer := .handling next h, out := .bytes [0xFE, 0, 0] })))))) ∧
    (∀ began, s.panel.stretch = some began →
      exec (.replyStretchTimeout now) s =
        if 1000 ≤ (now - began).toNat then
          .next { s with
            now := now, panel := { s.panel with stretch := none }, linkP := { s.linkP with out := .bytes [0xFE, 0, 0] } }
        else .next { s with now := now }) ∧
    (∀ value : Byte, address = 0x5C#7 + s.system.strap.setWidth 7 →
      exec (.pointerWrite now ⟨address, value⟩) s =
        if value = 0x02 then .next { begunP with panel := { begunP.panel with pointer := .reply } }
        else if value = 0x04 then .next { begunP with panel := { begunP.panel with pointer := .status } }
        else if value = 0x05 then .next { begunP with panel := { begunP.panel with pointer := .stream } }
        else .next (begunP.modLink .p (fun x => { x with malformed := min (x.malformed + 1) 255 }))) ∧
    exec (.badSelector now) s =
      .next ((State.beginExchange .t { s with now := now }).modLink .t
        (fun x => { x with malformed := min (x.malformed + 1) 255 })) ∧
    (here → (l = .p → s.panel.pointer = .status) →
      let items := begun.snapshots.filter (fun x => (s.link l).board.getLsbD (x.1 - 1))
      ∃ t, exec (.statusRead now ⟨address, l⟩) s = .next t ∧ (t.link l).board = 0#16 ∧
        (t.link l).statusRead = some (s.link l).board ∧ (t.link l).buffer = buffer ∧
        (t.link l).out =
          .bytes (BitVec.ofNat 8 items.length ::
            items.flatMap (fun x => BitVec.ofNat 8 x.1 :: BitVec.ofNat 8 x.2.length :: x.2)) ∧
        t.router = s.router ∧ t.store = s.store ∧ t.panel.stream = s.panel.stream) ∧
    (s.linksKept →
      (s.attnT = true ↔ ∃ k, hasKind s.linkT.board k = true) ∧
      (s.attnP = true ↔ (∃ k, hasKind s.linkP.board k = true) ∨ s.panel.stream ≠ [])) ∧
    (∀ kinds, (s.link l).statusRead = some kinds →
      exec (.statusReadAbandon now l) s =
        .next (State.modLink l (fun x => { x with board := x.board ||| kinds, statusRead := none, out := .cutShort })
          { s with now := now })) ∧
    ((s.link l).statusRead = none → exec (.statusReadAbandon now l) s = .next { s with now := now }) ∧
    (s.panel.pointer = .stream → address = 0x5C#7 + s.system.strap.setWidth 7 →
      exec (.streamRead now ⟨address, 0⟩) s = .next begunP ∧
      ∀ n, exec (.streamRead now ⟨address, n + 1⟩) s =
        .next (State.modLink .p
          (fun x => { x with
            out := .bytes (BitVec.ofNat 8 s.panel.stream.length :: (streamTake n s.panel.stream).1) })
          { begunP with panel := { begunP.panel with stream := (streamTake n s.panel.stream).2 } }))

/-- The starts (R22, R39, R54, R83, R110, R129, R148, R149, R169, R200, R201), a warm start with a take left unfinished among them,
and the losses of main power and of the standby supply (R200). The model's choices are that POWER_ON acts with main power already on
too (assumption 13), that main-domain state and a restart arranged stand cleared from the loss of main power on (assumption 27),
that a start keeps the queue of commands (assumption 30), that RESTART_WARM_START reads a reply that stands READY (assumption 17),
that RESTART_TIMEOUT judges a RESTART that still waits (assumption 3), that a failed import comes before the recording in the
finished takes (assumption 32), and that an event that comes before its time leaves all but
the time base as it was (assumption 11). -/
def Obligations.StartsAndSuppliesSetTheState : Prop :=
  (∀ (now : Time) (pins : Pins) (s : State),
    (∃ t, exec (.powerOn now pins) s = .next t ∧ s.startsTo t s.system.marker .powerOn now pins) ∧
    (s.system.mainOn = true →
      (∃ t, exec (.resetPin now pins) s = .next t ∧ s.startsTo t true .resetPin now pins) ∧
      (s.system.restart = none →
        exec (.restartWarmStart now pins) s = .next { s with now := now } ∧
        (s.linkT.awaitsRestart = false → s.linkP.awaitsRestart = false →
          exec (.restartTimeout now pins) s = .next { s with now := now })) ∧
      (∀ r, s.system.restart = some r →
        let ready := ∃ reply, (s.link r.link).buffer = .ready reply ∧ reply.data = .restart true
        ((r.replyRead = true ∨ ready) →
          ∃ t, exec (.restartWarmStart now pins) s = .next t ∧ s.startsTo t true .restart now pins) ∧
        (r.replyRead = false → ¬ready → exec (.restartWarmStart now pins) s = .next { s with now := now }) ∧
        (r.replyRead = true → exec (.restartTimeout now pins) s = .next { s with now := now }) ∧
        (r.replyRead = false → (now - r.requested).toNat < 100000 →
          exec (.restartTimeout now pins) s = .next { s with now := now }) ∧
        (r.replyRead = false → 100000 ≤ (now - r.requested).toNat →
          ∃ t, exec (.restartTimeout now pins) s = .next t ∧ s.startsTo t true .restart now pins)) ∧
      (∀ (l other : Link) (f : Frame), l ≠ other → (s.link l).buffer = .handling .restart f → f.link = l → f.body = [0] →
        (s.link l).held = none → s.system.restart = none → (s.link other).awaitsRestart = false →
        ((now - f.now).toNat < 100000 → exec (.restartTimeout now pins) s = .next { s with now := now }) ∧
        (100000 ≤ (now - f.now).toNat →
          ∃ t, exec (.restartTimeout now pins) s = .next t ∧ s.startsTo t true .restart now pins)))) ∧
  (∀ s : State,
    exec .standbySupplyLoss s = .next { s with system := { s.system with marker := false } } ∧
    ∃ t, exec .mainPowerLoss s = .next t ∧ t.system = { s.system with mainOn := false, restart := none } ∧
      (∀ k, (t.key k).cal = (s.key k).cal) ∧ (∀ p, (t.pedals.sense p).cal = (s.pedals.sense p).cal) ∧
      t.strokes.curves = s.strokes.curves ∧ t.rail.count = s.rail.count ∧ t.rail.learned = s.rail.learned ∧
      t.rail.resting = s.rail.resting ∧ t.rail.disturbed = s.rail.disturbed ∧ t.store.memory = s.store.memory ∧
      t.store.blockMap = s.store.blockMap ∧ t.store.freeList = s.store.freeList ∧ t.store.serial = s.store.serial ∧
      t.store.recording = s.store.recording ∧ t.store.importing = s.store.importing ∧
      (∀ n, t.store.entry n = (s.store.entry n).map (fun e => { e with playing := false, exporting := false })) ∧
      t.pending = s.pending ∧ t.now = s.now)
end

