-- ==== Sys2Proof/Laws/Requests.lean ====
section
/-! SUPPORT. The state a judgement ends in, so that a frame of a request reads as a frame of an operation. -/

namespace Sys2Proof.Machine

open Sys2Proof

/-- The state after a judgement; a frame that is not handed on leaves `s`. -/
def Judged.state (j : Judged) (s : State) : State := (j.map Prod.fst).getD s

@[simp] theorem Judged.state_answer (status : Status) (data : ReplyData) (t s : State) :
    (answer status data t).state s = t := rfl

@[simp] theorem Judged.state_okWith (data : ReplyData) (t s : State) : (okWith data t).state s = t := rfl

@[simp] theorem Judged.state_refuse (status : Status) (t s : State) : (refuse status t).state s = t := rfl

@[simp] theorem Judged.state_answerLines (status : Status) (t s : State) : (answerLines status t).state s = t := rfl

@[simp] theorem Judged.state_answerMetro (status : Status) (t s : State) : (answerMetro status t).state s = t := rfl

@[simp] theorem Judged.state_none (s : State) : Judged.state none s = s := rfl

@[simp] theorem Judged.state_some (r : State × Reply) (s : State) : Judged.state (some r) s = r.1 := rfl

/-- A judgement whose optional items cannot be read leaves the state. -/
theorem Judged.state_bind {α : Type} (x : Option α) (f : α → Judged) (s : State) :
    Judged.state (x.bind f) s = match x with
      | none => s
      | some l => Judged.state (f l) s := by
  cases x <;> rfl

/-- A judgement that answers ends in the state it answers with. -/
theorem Judged.state_of_eq {j : Judged} {r : State × Reply} (h : j = some r) (s : State) : j.state s = r.1 := by
  subst h; rfl

end Sys2Proof.Machine
end

