-- ==== Sys2Proof/Laws/State.lean ====
section
/-! SUPPORT. The small lemmas of State: what each named update leaves of each field, true by rfl, and what a fold of updates
keeps. -/

namespace Sys2Proof.Machine

open Sys2Proof

/-! ### Updates of one block -/

@[simp] theorem State.setKey_now (k : Nat) (x : Key) (s : State) : (s.setKey k x).now = s.now := rfl
@[simp] theorem State.setKey_system (k : Nat) (x : Key) (s : State) : (s.setKey k x).system = s.system := rfl
@[simp] theorem State.setKey_strokes (k : Nat) (x : Key) (s : State) : (s.setKey k x).strokes = s.strokes := rfl
@[simp] theorem State.setKey_pedals (k : Nat) (x : Key) (s : State) : (s.setKey k x).pedals = s.pedals := rfl
@[simp] theorem State.setKey_router (k : Nat) (x : Key) (s : State) : (s.setKey k x).router = s.router := rfl
@[simp] theorem State.setKey_tone (k : Nat) (x : Key) (s : State) : (s.setKey k x).tone = s.tone := rfl
@[simp] theorem State.setKey_rail (k : Nat) (x : Key) (s : State) : (s.setKey k x).rail = s.rail := rfl
@[simp] theorem State.setKey_audio (k : Nat) (x : Key) (s : State) : (s.setKey k x).audio = s.audio := rfl
@[simp] theorem State.setKey_store (k : Nat) (x : Key) (s : State) : (s.setKey k x).store = s.store := rfl
@[simp] theorem State.setKey_transport (k : Nat) (x : Key) (s : State) : (s.setKey k x).transport = s.transport := rfl
@[simp] theorem State.setKey_transfer (k : Nat) (x : Key) (s : State) : (s.setKey k x).transfer = s.transfer := rfl
@[simp] theorem State.setKey_linkT (k : Nat) (x : Key) (s : State) : (s.setKey k x).linkT = s.linkT := rfl
@[simp] theorem State.setKey_linkP (k : Nat) (x : Key) (s : State) : (s.setKey k x).linkP = s.linkP := rfl
@[simp] theorem State.setKey_panel (k : Nat) (x : Key) (s : State) : (s.setKey k x).panel = s.panel := rfl
@[simp] theorem State.setKey_pending (k : Nat) (x : Key) (s : State) : (s.setKey k x).pending = s.pending := rfl

@[simp] theorem State.setSound_now (k : Nat) (x : SoundEntry) (s : State) : (s.setSound k x).now = s.now := rfl
@[simp] theorem State.setSound_system (k : Nat) (x : SoundEntry) (s : State) : (s.setSound k x).system = s.system := rfl
@[simp] theorem State.setSound_scanner (k : Nat) (x : SoundEntry) (s : State) : (s.setSound k x).scanner = s.scanner := rfl
@[simp] theorem State.setSound_strokes (k : Nat) (x : SoundEntry) (s : State) : (s.setSound k x).strokes = s.strokes := rfl
@[simp] theorem State.setSound_pedals (k : Nat) (x : SoundEntry) (s : State) : (s.setSound k x).pedals = s.pedals := rfl
@[simp] theorem State.setSound_tone (k : Nat) (x : SoundEntry) (s : State) : (s.setSound k x).tone = s.tone := rfl
@[simp] theorem State.setSound_rail (k : Nat) (x : SoundEntry) (s : State) : (s.setSound k x).rail = s.rail := rfl
@[simp] theorem State.setSound_audio (k : Nat) (x : SoundEntry) (s : State) : (s.setSound k x).audio = s.audio := rfl
@[simp] theorem State.setSound_store (k : Nat) (x : SoundEntry) (s : State) : (s.setSound k x).store = s.store := rfl
@[simp] theorem State.setSound_transport (k : Nat) (x : SoundEntry) (s : State) : (s.setSound k x).transport = s.transport := rfl
@[simp] theorem State.setSound_transfer (k : Nat) (x : SoundEntry) (s : State) : (s.setSound k x).transfer = s.transfer := rfl
@[simp] theorem State.setSound_linkT (k : Nat) (x : SoundEntry) (s : State) : (s.setSound k x).linkT = s.linkT := rfl
@[simp] theorem State.setSound_linkP (k : Nat) (x : SoundEntry) (s : State) : (s.setSound k x).linkP = s.linkP := rfl
@[simp] theorem State.setSound_panel (k : Nat) (x : SoundEntry) (s : State) : (s.setSound k x).panel = s.panel := rfl
@[simp] theorem State.setSound_pending (k : Nat) (x : SoundEntry) (s : State) : (s.setSound k x).pending = s.pending := rfl

@[simp] theorem State.modStore_now (f : Store → Store) (s : State) : (s.modStore f).now = s.now := rfl
@[simp] theorem State.modStore_system (f : Store → Store) (s : State) : (s.modStore f).system = s.system := rfl
@[simp] theorem State.modStore_scanner (f : Store → Store) (s : State) : (s.modStore f).scanner = s.scanner := rfl
@[simp] theorem State.modStore_strokes (f : Store → Store) (s : State) : (s.modStore f).strokes = s.strokes := rfl
@[simp] theorem State.modStore_pedals (f : Store → Store) (s : State) : (s.modStore f).pedals = s.pedals := rfl
@[simp] theorem State.modStore_router (f : Store → Store) (s : State) : (s.modStore f).router = s.router := rfl
@[simp] theorem State.modStore_tone (f : Store → Store) (s : State) : (s.modStore f).tone = s.tone := rfl
@[simp] theorem State.modStore_rail (f : Store → Store) (s : State) : (s.modStore f).rail = s.rail := rfl
@[simp] theorem State.modStore_audio (f : Store → Store) (s : State) : (s.modStore f).audio = s.audio := rfl
@[simp] theorem State.modStore_store (f : Store → Store) (s : State) : (s.modStore f).store = f s.store := rfl
@[simp] theorem State.modStore_transport (f : Store → Store) (s : State) : (s.modStore f).transport = s.transport := rfl
@[simp] theorem State.modStore_transfer (f : Store → Store) (s : State) : (s.modStore f).transfer = s.transfer := rfl
@[simp] theorem State.modStore_linkT (f : Store → Store) (s : State) : (s.modStore f).linkT = s.linkT := rfl
@[simp] theorem State.modStore_linkP (f : Store → Store) (s : State) : (s.modStore f).linkP = s.linkP := rfl
@[simp] theorem State.modStore_panel (f : Store → Store) (s : State) : (s.modStore f).panel = s.panel := rfl
@[simp] theorem State.modStore_pending (f : Store → Store) (s : State) : (s.modStore f).pending = s.pending := rfl

@[simp] theorem State.modTransport_now (f : Transport → Transport) (s : State) : (s.modTransport f).now = s.now := rfl
@[simp] theorem State.modTransport_system (f : Transport → Transport) (s : State) : (s.modTransport f).system = s.system := rfl
@[simp] theorem State.modTransport_scanner (f : Transport → Transport) (s : State) : (s.modTransport f).scanner = s.scanner := rfl
@[simp] theorem State.modTransport_strokes (f : Transport → Transport) (s : State) : (s.modTransport f).strokes = s.strokes := rfl
@[simp] theorem State.modTransport_pedals (f : Transport → Transport) (s : State) : (s.modTransport f).pedals = s.pedals := rfl
@[simp] theorem State.modTransport_router (f : Transport → Transport) (s : State) : (s.modTransport f).router = s.router := rfl
@[simp] theorem State.modTransport_tone (f : Transport → Transport) (s : State) : (s.modTransport f).tone = s.tone := rfl
@[simp] theorem State.modTransport_rail (f : Transport → Transport) (s : State) : (s.modTransport f).rail = s.rail := rfl
@[simp] theorem State.modTransport_audio (f : Transport → Transport) (s : State) : (s.modTransport f).audio = s.audio := rfl
@[simp] theorem State.modTransport_store (f : Transport → Transport) (s : State) : (s.modTransport f).store = s.store := rfl
@[simp] theorem State.modTransport_transport (f : Transport → Transport) (s : State) : (s.modTransport f).transport = f s.transport := rfl
@[simp] theorem State.modTransport_transfer (f : Transport → Transport) (s : State) : (s.modTransport f).transfer = s.transfer := rfl
@[simp] theorem State.modTransport_linkT (f : Transport → Transport) (s : State) : (s.modTransport f).linkT = s.linkT := rfl
@[simp] theorem State.modTransport_linkP (f : Transport → Transport) (s : State) : (s.modTransport f).linkP = s.linkP := rfl
@[simp] theorem State.modTransport_panel (f : Transport → Transport) (s : State) : (s.modTransport f).panel = s.panel := rfl
@[simp] theorem State.modTransport_pending (f : Transport → Transport) (s : State) : (s.modTransport f).pending = s.pending := rfl

@[simp] theorem State.modRail_now (f : Rail → Rail) (s : State) : (s.modRail f).now = s.now := rfl
@[simp] theorem State.modRail_system (f : Rail → Rail) (s : State) : (s.modRail f).system = s.system := rfl
@[simp] theorem State.modRail_scanner (f : Rail → Rail) (s : State) : (s.modRail f).scanner = s.scanner := rfl
@[simp] theorem State.modRail_strokes (f : Rail → Rail) (s : State) : (s.modRail f).strokes = s.strokes := rfl
@[simp] theorem State.modRail_pedals (f : Rail → Rail) (s : State) : (s.modRail f).pedals = s.pedals := rfl
@[simp] theorem State.modRail_router (f : Rail → Rail) (s : State) : (s.modRail f).router = s.router := rfl
@[simp] theorem State.modRail_tone (f : Rail → Rail) (s : State) : (s.modRail f).tone = s.tone := rfl
@[simp] theorem State.modRail_rail (f : Rail → Rail) (s : State) : (s.modRail f).rail = f s.rail := rfl
@[simp] theorem State.modRail_audio (f : Rail → Rail) (s : State) : (s.modRail f).audio = s.audio := rfl
@[simp] theorem State.modRail_store (f : Rail → Rail) (s : State) : (s.modRail f).store = s.store := rfl
@[simp] theorem State.modRail_transport (f : Rail → Rail) (s : State) : (s.modRail f).transport = s.transport := rfl
@[simp] theorem State.modRail_transfer (f : Rail → Rail) (s : State) : (s.modRail f).transfer = s.transfer := rfl
@[simp] theorem State.modRail_linkT (f : Rail → Rail) (s : State) : (s.modRail f).linkT = s.linkT := rfl
@[simp] theorem State.modRail_linkP (f : Rail → Rail) (s : State) : (s.modRail f).linkP = s.linkP := rfl
@[simp] theorem State.modRail_panel (f : Rail → Rail) (s : State) : (s.modRail f).panel = s.panel := rfl
@[simp] theorem State.modRail_pending (f : Rail → Rail) (s : State) : (s.modRail f).pending = s.pending := rfl

@[simp] theorem State.modAudio_now (f : Audio → Audio) (s : State) : (s.modAudio f).now = s.now := rfl
@[simp] theorem State.modAudio_system (f : Audio → Audio) (s : State) : (s.modAudio f).system = s.system := rfl
@[simp] theorem State.modAudio_scanner (f : Audio → Audio) (s : State) : (s.modAudio f).scanner = s.scanner := rfl
@[simp] theorem State.modAudio_strokes (f : Audio → Audio) (s : State) : (s.modAudio f).strokes = s.strokes := rfl
@[simp] theorem State.modAudio_pedals (f : Audio → Audio) (s : State) : (s.modAudio f).pedals = s.pedals := rfl
@[simp] theorem State.modAudio_router (f : Audio → Audio) (s : State) : (s.modAudio f).router = s.router := rfl
@[simp] theorem State.modAudio_tone (f : Audio → Audio) (s : State) : (s.modAudio f).tone = s.tone := rfl
@[simp] theorem State.modAudio_rail (f : Audio → Audio) (s : State) : (s.modAudio f).rail = s.rail := rfl
@[simp] theorem State.modAudio_audio (f : Audio → Audio) (s : State) : (s.modAudio f).audio = f s.audio := rfl
@[simp] theorem State.modAudio_store (f : Audio → Audio) (s : State) : (s.modAudio f).store = s.store := rfl
@[simp] theorem State.modAudio_transport (f : Audio → Audio) (s : State) : (s.modAudio f).transport = s.transport := rfl
@[simp] theorem State.modAudio_transfer (f : Audio → Audio) (s : State) : (s.modAudio f).transfer = s.transfer := rfl
@[simp] theorem State.modAudio_linkT (f : Audio → Audio) (s : State) : (s.modAudio f).linkT = s.linkT := rfl
@[simp] theorem State.modAudio_linkP (f : Audio → Audio) (s : State) : (s.modAudio f).linkP = s.linkP := rfl
@[simp] theorem State.modAudio_panel (f : Audio → Audio) (s : State) : (s.modAudio f).panel = s.panel := rfl
@[simp] theorem State.modAudio_pending (f : Audio → Audio) (s : State) : (s.modAudio f).pending = s.pending := rfl

@[simp] theorem State.post_now (k : NoticeKind) (s : State) : (s.post k).now = s.now := rfl
@[simp] theorem State.post_system (k : NoticeKind) (s : State) : (s.post k).system = s.system := rfl
@[simp] theorem State.post_scanner (k : NoticeKind) (s : State) : (s.post k).scanner = s.scanner := rfl
@[simp] theorem State.post_strokes (k : NoticeKind) (s : State) : (s.post k).strokes = s.strokes := rfl
@[simp] theorem State.post_pedals (k : NoticeKind) (s : State) : (s.post k).pedals = s.pedals := rfl
@[simp] theorem State.post_router (k : NoticeKind) (s : State) : (s.post k).router = s.router := rfl
@[simp] theorem State.post_tone (k : NoticeKind) (s : State) : (s.post k).tone = s.tone := rfl
@[simp] theorem State.post_rail (k : NoticeKind) (s : State) : (s.post k).rail = s.rail := rfl
@[simp] theorem State.post_audio (k : NoticeKind) (s : State) : (s.post k).audio = s.audio := rfl
@[simp] theorem State.post_store (k : NoticeKind) (s : State) : (s.post k).store = s.store := rfl
@[simp] theorem State.post_transport (k : NoticeKind) (s : State) : (s.post k).transport = s.transport := rfl
@[simp] theorem State.post_transfer (k : NoticeKind) (s : State) : (s.post k).transfer = s.transfer := rfl
@[simp] theorem State.post_panel (k : NoticeKind) (s : State) : (s.post k).panel = s.panel := rfl
@[simp] theorem State.post_pending (k : NoticeKind) (s : State) : (s.post k).pending = s.pending := rfl
@[simp] theorem State.post_linkT (k : NoticeKind) (s : State) : (s.post k).linkT = s.linkT.post k := rfl
@[simp] theorem State.post_linkP (k : NoticeKind) (s : State) : (s.post k).linkP = s.linkP.post k := rfl

@[simp] theorem State.modLink_now (l : Link) (f : LinkIf → LinkIf) (s : State) : (s.modLink l f).now = s.now := by
  cases l <;> rfl
@[simp] theorem State.modLink_system (l : Link) (f : LinkIf → LinkIf) (s : State) : (s.modLink l f).system = s.system := by
  cases l <;> rfl
@[simp] theorem State.modLink_scanner (l : Link) (f : LinkIf → LinkIf) (s : State) : (s.modLink l f).scanner = s.scanner := by
  cases l <;> rfl
@[simp] theorem State.modLink_strokes (l : Link) (f : LinkIf → LinkIf) (s : State) : (s.modLink l f).strokes = s.strokes := by
  cases l <;> rfl
@[simp] theorem State.modLink_pedals (l : Link) (f : LinkIf → LinkIf) (s : State) : (s.modLink l f).pedals = s.pedals := by
  cases l <;> rfl
@[simp] theorem State.modLink_router (l : Link) (f : LinkIf → LinkIf) (s : State) : (s.modLink l f).router = s.router := by
  cases l <;> rfl
@[simp] theorem State.modLink_tone (l : Link) (f : LinkIf → LinkIf) (s : State) : (s.modLink l f).tone = s.tone := by
  cases l <;> rfl
@[simp] theorem State.modLink_rail (l : Link) (f : LinkIf → LinkIf) (s : State) : (s.modLink l f).rail = s.rail := by
  cases l <;> rfl
@[simp] theorem State.modLink_audio (l : Link) (f : LinkIf → LinkIf) (s : State) : (s.modLink l f).audio = s.audio := by
  cases l <;> rfl
@[simp] theorem State.modLink_store (l : Link) (f : LinkIf → LinkIf) (s : State) : (s.modLink l f).store = s.store := by
  cases l <;> rfl
@[simp] theorem State.modLink_transport (l : Link) (f : LinkIf → LinkIf) (s : State) : (s.modLink l f).transport = s.transport := by
  cases l <;> rfl
@[simp] theorem State.modLink_transfer (l : Link) (f : LinkIf → LinkIf) (s : State) : (s.modLink l f).transfer = s.transfer := by
  cases l <;> rfl
@[simp] theorem State.modLink_panel (l : Link) (f : LinkIf → LinkIf) (s : State) : (s.modLink l f).panel = s.panel := by
  cases l <;> rfl
@[simp] theorem State.modLink_pending (l : Link) (f : LinkIf → LinkIf) (s : State) : (s.modLink l f).pending = s.pending := by
  cases l <;> rfl

@[simp] theorem State.modLink_t (f : LinkIf → LinkIf) (s : State) : s.modLink .t f = { s with linkT := f s.linkT } := rfl
@[simp] theorem State.modLink_p (f : LinkIf → LinkIf) (s : State) : s.modLink .p f = { s with linkP := f s.linkP } := rfl
@[simp] theorem State.link_t (s : State) : s.link .t = s.linkT := rfl
@[simp] theorem State.link_p (s : State) : s.link .p = s.linkP := rfl

@[simp] theorem State.link_modLink (l : Link) (f : LinkIf → LinkIf) (s : State) : (s.modLink l f).link l = f (s.link l) := by
  cases l <;> rfl

/-! ### Folds of updates -/

/-- A fold of updates that each keep a quantity keeps it. -/
theorem foldl_keeps {α β γ : Type} (g : β → γ) (f : β → α → β) (h : ∀ b a, g (f b a) = g b) (l : List α) (b : β) :
    g (l.foldl f b) = g b := by
  induction l generalizing b with
  | nil => rfl
  | cons a l ih => exact (ih (f b a)).trans (h b a)

/-- A fold of updates that each keep a property keeps it. -/
theorem foldl_holds {α β : Type} (P : β → Prop) (f : β → α → β) (h : ∀ b a, P b → P (f b a)) (l : List α) (b : β) (hb : P b) :
    P (l.foldl f b) := by
  induction l generalizing b with
  | nil => exact hb
  | cons a l ih => exact ih (f b a) (h b a hb)

@[simp] theorem foldl_now {α : Type} (f : State → α → State) (h : ∀ s a, (f s a).now = s.now) (l : List α) (s : State) :
    (l.foldl f s).now = s.now := foldl_keeps State.now f h l s

@[simp] theorem foldl_system {α : Type} (f : State → α → State) (h : ∀ s a, (f s a).system = s.system) (l : List α) (s : State) :
    (l.foldl f s).system = s.system := foldl_keeps State.system f h l s

@[simp] theorem foldl_scanner {α : Type} (f : State → α → State) (h : ∀ s a, (f s a).scanner = s.scanner) (l : List α) (s : State) :
    (l.foldl f s).scanner = s.scanner := foldl_keeps State.scanner f h l s

@[simp] theorem foldl_strokes {α : Type} (f : State → α → State) (h : ∀ s a, (f s a).strokes = s.strokes) (l : List α) (s : State) :
    (l.foldl f s).strokes = s.strokes := foldl_keeps State.strokes f h l s

@[simp] theorem foldl_pedals {α : Type} (f : State → α → State) (h : ∀ s a, (f s a).pedals = s.pedals) (l : List α) (s : State) :
    (l.foldl f s).pedals = s.pedals := foldl_keeps State.pedals f h l s

@[simp] theorem foldl_router {α : Type} (f : State → α → State) (h : ∀ s a, (f s a).router = s.router) (l : List α) (s : State) :
    (l.foldl f s).router = s.router := foldl_keeps State.router f h l s

@[simp] theorem foldl_tone {α : Type} (f : State → α → State) (h : ∀ s a, (f s a).tone = s.tone) (l : List α) (s : State) :
    (l.foldl f s).tone = s.tone := foldl_keeps State.tone f h l s

@[simp] theorem foldl_rail {α : Type} (f : State → α → State) (h : ∀ s a, (f s a).rail = s.rail) (l : List α) (s : State) :
    (l.foldl f s).rail = s.rail := foldl_keeps State.rail f h l s

@[simp] theorem foldl_audio {α : Type} (f : State → α → State) (h : ∀ s a, (f s a).audio = s.audio) (l : List α) (s : State) :
    (l.foldl f s).audio = s.audio := foldl_keeps State.audio f h l s

@[simp] theorem foldl_store {α : Type} (f : State → α → State) (h : ∀ s a, (f s a).store = s.store) (l : List α) (s : State) :
    (l.foldl f s).store = s.store := foldl_keeps State.store f h l s

@[simp] theorem foldl_transport {α : Type} (f : State → α → State) (h : ∀ s a, (f s a).transport = s.transport) (l : List α) (s : State) :
    (l.foldl f s).transport = s.transport := foldl_keeps State.transport f h l s

@[simp] theorem foldl_transfer {α : Type} (f : State → α → State) (h : ∀ s a, (f s a).transfer = s.transfer) (l : List α) (s : State) :
    (l.foldl f s).transfer = s.transfer := foldl_keeps State.transfer f h l s

@[simp] theorem foldl_linkT {α : Type} (f : State → α → State) (h : ∀ s a, (f s a).linkT = s.linkT) (l : List α) (s : State) :
    (l.foldl f s).linkT = s.linkT := foldl_keeps State.linkT f h l s

@[simp] theorem foldl_linkP {α : Type} (f : State → α → State) (h : ∀ s a, (f s a).linkP = s.linkP) (l : List α) (s : State) :
    (l.foldl f s).linkP = s.linkP := foldl_keeps State.linkP f h l s

@[simp] theorem foldl_panel {α : Type} (f : State → α → State) (h : ∀ s a, (f s a).panel = s.panel) (l : List α) (s : State) :
    (l.foldl f s).panel = s.panel := foldl_keeps State.panel f h l s

@[simp] theorem foldl_pending {α : Type} (f : State → α → State) (h : ∀ s a, (f s a).pending = s.pending) (l : List α) (s : State) :
    (l.foldl f s).pending = s.pending := foldl_keeps State.pending f h l s

end Sys2Proof.Machine
end

