-- ==== Sys2Proof/Laws/Carry.lean ====
section
/-! SUPPORT. How a frame that the part can take at once reaches the judgement of its block: one equation that turns a judgement of the
parameters into the outcome of the command. -/

namespace Sys2Proof.Machine

open Sys2Proof

@[simp] theorem field_nil (n w : Nat) : field [] n w = 0 := by simp [field, beNat]

/-- The first parameter byte. -/
@[simp] theorem field_byte (b : Byte) (p : List Byte) : field (b :: p) 0 1 = b.toNat := by simp [field, beNat]

@[simp] theorem field_word (a b : Byte) (p : List Byte) : field (a :: b :: p) 0 2 = num2 a b := by
  simp [field, beNat, num2]

@[simp] theorem field_three (a b c : Byte) (p : List Byte) : field (a :: b :: c :: p) 0 3 = num3 a b c := by
  simp [field, beNat, num2, num3]

@[simp] theorem field_four (a b c d : Byte) (p : List Byte) : field (a :: b :: c :: d :: p) 0 4 = num4 a b c d := by
  simp [field, beNat, num2, num3, num4]

/-- A parameter further on is the parameter at the head of the bytes that are left. -/
@[simp] theorem field_cons (a : Byte) (p : List Byte) (n w : Nat) : field (a :: p) (n + 1) w = field p n w := by
  simp [field]

@[simp] theorem State.received_now (f : Frame) (s : State) : (s.received f).now = f.now := by
  cases h : f.link <;> simp [State.received, State.beginExchange, h]

@[simp] theorem State.received_system (f : Frame) (s : State) : (s.received f).system = s.system := by
  cases h : f.link <;> simp [State.received, State.beginExchange, h]

@[simp] theorem State.received_scanner (f : Frame) (s : State) : (s.received f).scanner = s.scanner := by
  cases h : f.link <;> simp [State.received, State.beginExchange, h]

@[simp] theorem State.received_strokes (f : Frame) (s : State) : (s.received f).strokes = s.strokes := by
  cases h : f.link <;> simp [State.received, State.beginExchange, h]

@[simp] theorem State.received_pedals (f : Frame) (s : State) : (s.received f).pedals = s.pedals := by
  cases h : f.link <;> simp [State.received, State.beginExchange, h]

@[simp] theorem State.received_router (f : Frame) (s : State) : (s.received f).router = s.router := by
  cases h : f.link <;> simp [State.received, State.beginExchange, h]

@[simp] theorem State.received_rail (f : Frame) (s : State) : (s.received f).rail = s.rail := by
  cases h : f.link <;> simp [State.received, State.beginExchange, h]

@[simp] theorem State.received_audio (f : Frame) (s : State) : (s.received f).audio = s.audio := by
  cases h : f.link <;> simp [State.received, State.beginExchange, h]

@[simp] theorem State.received_store (f : Frame) (s : State) : (s.received f).store = s.store := by
  cases h : f.link <;> simp [State.received, State.beginExchange, h]

@[simp] theorem State.received_transport (f : Frame) (s : State) : (s.received f).transport = s.transport := by
  cases h : f.link <;> simp [State.received, State.beginExchange, h]

@[simp] theorem State.received_transfer (f : Frame) (s : State) : (s.received f).transfer = s.transfer := by
  cases h : f.link <;> simp [State.received, State.beginExchange, h]

@[simp] theorem State.received_pending (f : Frame) (s : State) : (s.received f).pending = s.pending := by
  cases h : f.link <;> simp [State.received, State.beginExchange, h]

@[simp] theorem State.received_key (f : Frame) (s : State) (k : Nat) : (s.received f).key k = s.key k := by simp [State.key]

@[simp] theorem State.received_sound (f : Frame) (s : State) (k : Nat) : (s.received f).sound k = s.sound k := by
  simp [State.sound]

@[simp] theorem State.received_onPrevious (f : Frame) (s : State) : (s.received f).onPrevious = s.onPrevious := by
  simp [State.onPrevious]

@[simp] theorem State.received_quiet (f : Frame) (s : State) : (s.received f).quiet = s.quiet := by simp [State.quiet]

/-- The exchange of a frame leaves the tone record but for the drain exchange that it shuts (R192). -/
@[simp] theorem State.received_queue (f : Frame) (s : State) : (s.received f).tone.queue = s.tone.queue := by
  cases h : f.link <;> simp [State.received, State.beginExchange, h]

/-- A block judges only parameters that are long enough for what they mark: the link has answered LENGTH to all others (R191). -/
theorem paramsFit_of_judge {kind : ReqKind} {l : Link} {taken : Time} {p : List Byte} {s : State} {x : State × Reply}
    (h : judge kind l taken p s = some x) : paramsFit kind p = true := by
  have items {kind : ReqKind} {f : List (Option Nat) → Judged} (hk : kind ≠ .keyLines)
      (hb : (optionalItems kind p).bind f = some x) : paramsFit kind p = true := by
    cases ho : optionalItems kind p with
    | none => simp [ho] at hb
    | some v => simp [paramsFit, hk, ho]
  cases kind
  case toneStreamSetup => exact items (by decide) h
  case railProfile => exact items (by decide) h
  case audioSetup => exact items (by decide) h
  case metroSet => exact items (by decide) h
  case takePlay => exact items (by decide) h
  case practiceSet => exact items (by decide) h
  case keyLines =>
    simp only [judge, judgeKeyLines] at h
    split at h
    · simp_all [paramsFit]
    · split at h
      · cases h
      · simp_all [paramsFit]
  all_goals rfl

/-- What a judgement answers is the outcome of the command: the parameters of a frame that the part can take at once reach the block
whole, and the reply stands READY in the link's buffer. -/
theorem takeRequest_of_judge {f : Frame} {p : List Byte} {s u : State} {kind : ReqKind} {r : Reply} (h : s.canTake f p)
    (hl : reqMinLength kind ≤ p.length) (hk : kind ≠ .unknown) (hj : judge kind f.link f.now p (s.received f) = some (u, r)) :
    proceed (takeRequest kind f s) = answered f r u := by
  obtain ⟨h1, ha, h2, h3, h4, h5⟩ := h
  have hp : frameParams kind f.body = some p := by
    simp only [h5, frameParams]
    rw [if_pos]
    refine ⟨?_, hl, paramsFit_of_judge hj⟩
    simp; omega
  have hne : f.body ≠ [] := by simp [h5]
  have he : (State.beginExchange f.link { s with now := f.now }).enterFrame kind f = (s.received f).admitFrame kind f := by
    have hb : ((State.beginExchange f.link { s with now := f.now }).link f.link).buffer = (s.link f.link).buffer := by
      cases hf : f.link <;> simp [State.beginExchange, State.link, State.modLink]
    cases hc : (s.link f.link).buffer with
    | empty =>
      simp only [State.enterFrame, hb, hc, State.received]
      cases hf : f.link <;> rw [hf] at hc <;>
        simp_all [State.beginExchange, State.modLink, LinkIf.loseReady, State.link]
    | ready reply =>
      simp only [State.enterFrame, hb, hc, State.received, State.countLost, satInc]
      cases hf : f.link <;> rw [hf] at hc <;>
        simp_all [State.beginExchange, State.modLink, LinkIf.loseReady, State.link, Config.maxCount8]
    | handling k b => exact absurd hc (h2 k b)
  have hb : ({ s with now := f.now } : State).answers f.link f.address = true := ha
  simp only [takeRequest, State.whileOn, h1, if_true, State.takeFrame, State.addressed, hb]
  rw [if_neg (fun hh => hne hh.2), he]
  simp only [State.admitFrame, h3]
  simp [State.judgeFrame, State.answerFrame, hk, hp, hj, answered, proceed]

end Sys2Proof.Machine
end

