-- ==== Sys2Proof/Laws/RouterFrames.lean ====
section
/-! SUPPORT. The frames of the shared operations of the Tone Stream, the Note Router and the effective pedals: for each operation, the blocks it
leaves as they were. Later proofs cite these lemmas and do not unfold the operations. -/

namespace Sys2Proof.Machine

open Sys2Proof

@[simp] theorem State.clearAnnounced_frame (s : State) :
    (s.clearAnnounced).now = s.now ∧ (s.clearAnnounced).system = s.system ∧ (s.clearAnnounced).scanner = s.scanner ∧
    (s.clearAnnounced).strokes = s.strokes ∧ (s.clearAnnounced).pedals = s.pedals ∧
    (s.clearAnnounced).tone = s.tone ∧ (s.clearAnnounced).rail = s.rail ∧ (s.clearAnnounced).audio = s.audio ∧
    (s.clearAnnounced).store = s.store ∧ (s.clearAnnounced).transport = s.transport ∧
    (s.clearAnnounced).transfer = s.transfer ∧ (s.clearAnnounced).linkT = s.linkT ∧
    (s.clearAnnounced).linkP = s.linkP ∧ (s.clearAnnounced).panel = s.panel ∧ (s.clearAnnounced).pending = s.pending := by
  simp [State.clearAnnounced]

@[simp] theorem State.overflow_frame (s : State) :
    (s.overflow).now = s.now ∧ (s.overflow).system = s.system ∧ (s.overflow).scanner = s.scanner ∧
    (s.overflow).strokes = s.strokes ∧ (s.overflow).pedals = s.pedals ∧ (s.overflow).rail = s.rail ∧
    (s.overflow).audio = s.audio ∧ (s.overflow).store = s.store ∧ (s.overflow).transport = s.transport ∧
    (s.overflow).transfer = s.transfer ∧ (s.overflow).panel = s.panel ∧ (s.overflow).pending = s.pending := by
  simp [State.overflow]

@[simp] theorem State.offerTone_frame (e : ToneEntry) (s : State) :
    (s.offerTone e).1.now = s.now ∧ (s.offerTone e).1.system = s.system ∧ (s.offerTone e).1.scanner = s.scanner ∧
    (s.offerTone e).1.strokes = s.strokes ∧ (s.offerTone e).1.pedals = s.pedals ∧ (s.offerTone e).1.rail = s.rail ∧
    (s.offerTone e).1.audio = s.audio ∧ (s.offerTone e).1.store = s.store ∧
    (s.offerTone e).1.transport = s.transport ∧ (s.offerTone e).1.transfer = s.transfer ∧
    (s.offerTone e).1.panel = s.panel ∧ (s.offerTone e).1.pending = s.pending := by
  simp only [State.offerTone]
  (repeat' split) <;> simp

@[simp] theorem State.panelOffer_frame (e : PanelEntry) (s : State) :
    (s.panelOffer e).now = s.now ∧ (s.panelOffer e).system = s.system ∧ (s.panelOffer e).scanner = s.scanner ∧
    (s.panelOffer e).strokes = s.strokes ∧ (s.panelOffer e).pedals = s.pedals ∧ (s.panelOffer e).router = s.router ∧
    (s.panelOffer e).tone = s.tone ∧ (s.panelOffer e).rail = s.rail ∧ (s.panelOffer e).audio = s.audio ∧
    (s.panelOffer e).store = s.store ∧ (s.panelOffer e).transport = s.transport ∧
    (s.panelOffer e).transfer = s.transfer ∧ (s.panelOffer e).linkT = s.linkT ∧ (s.panelOffer e).linkP = s.linkP ∧
    (s.panelOffer e).pending = s.pending := by
  simp only [State.panelOffer]
  (repeat' split) <;> simp

@[simp] theorem State.offerNote_frame (e : ToneEntry) (k : Nat) (c : Option Cause) (s : State) :
    (s.offerNote e k c).1.now = s.now ∧ (s.offerNote e k c).1.system = s.system ∧
    (s.offerNote e k c).1.scanner = s.scanner ∧ (s.offerNote e k c).1.strokes = s.strokes ∧
    (s.offerNote e k c).1.pedals = s.pedals ∧ (s.offerNote e k c).1.rail = s.rail ∧
    (s.offerNote e k c).1.audio = s.audio ∧ (s.offerNote e k c).1.store = s.store ∧
    (s.offerNote e k c).1.transport = s.transport ∧ (s.offerNote e k c).1.transfer = s.transfer ∧
    (s.offerNote e k c).1.pending = s.pending := by
  simp only [State.offerNote]
  (repeat' split) <;> simp

@[simp] theorem State.silence_frame (k : Nat) (s : State) :
    (s.silence k).now = s.now ∧ (s.silence k).system = s.system ∧ (s.silence k).scanner = s.scanner ∧
    (s.silence k).strokes = s.strokes ∧ (s.silence k).pedals = s.pedals ∧ (s.silence k).tone = s.tone ∧
    (s.silence k).rail = s.rail ∧ (s.silence k).audio = s.audio ∧ (s.silence k).store = s.store ∧
    (s.silence k).transport = s.transport ∧ (s.silence k).transfer = s.transfer ∧ (s.silence k).linkT = s.linkT ∧
    (s.silence k).linkP = s.linkP ∧ (s.silence k).panel = s.panel ∧ (s.silence k).pending = s.pending := by
  simp [State.silence]

@[simp] theorem State.leaveSostenuto_frame (k : Nat) (s : State) :
    (s.leaveSostenuto k).now = s.now ∧ (s.leaveSostenuto k).system = s.system ∧
    (s.leaveSostenuto k).scanner = s.scanner ∧ (s.leaveSostenuto k).strokes = s.strokes ∧
    (s.leaveSostenuto k).pedals = s.pedals ∧ (s.leaveSostenuto k).tone = s.tone ∧
    (s.leaveSostenuto k).rail = s.rail ∧ (s.leaveSostenuto k).audio = s.audio ∧
    (s.leaveSostenuto k).store = s.store ∧ (s.leaveSostenuto k).transport = s.transport ∧
    (s.leaveSostenuto k).transfer = s.transfer ∧ (s.leaveSostenuto k).linkT = s.linkT ∧
    (s.leaveSostenuto k).linkP = s.linkP ∧ (s.leaveSostenuto k).panel = s.panel ∧
    (s.leaveSostenuto k).pending = s.pending := by
  simp [State.leaveSostenuto]

@[simp] theorem State.countDropped_frame (s : State) :
    (s.countDropped).now = s.now ∧ (s.countDropped).system = s.system ∧ (s.countDropped).scanner = s.scanner ∧
    (s.countDropped).strokes = s.strokes ∧ (s.countDropped).pedals = s.pedals ∧ (s.countDropped).tone = s.tone ∧
    (s.countDropped).rail = s.rail ∧ (s.countDropped).audio = s.audio ∧ (s.countDropped).store = s.store ∧
    (s.countDropped).transport = s.transport ∧ (s.countDropped).transfer = s.transfer ∧
    (s.countDropped).linkT = s.linkT ∧ (s.countDropped).linkP = s.linkP ∧ (s.countDropped).panel = s.panel ∧
    (s.countDropped).pending = s.pending := by
  simp [State.countDropped]

@[simp] theorem State.onSilent_frame (k v : Nat) (o : Source) (t : Bool) (m : Time) (s : State) :
    (s.onSilent k v o t m).now = s.now ∧ (s.onSilent k v o t m).system = s.system ∧
    (s.onSilent k v o t m).scanner = s.scanner ∧ (s.onSilent k v o t m).strokes = s.strokes ∧
    (s.onSilent k v o t m).pedals = s.pedals ∧ (s.onSilent k v o t m).rail = s.rail ∧
    (s.onSilent k v o t m).audio = s.audio ∧ (s.onSilent k v o t m).store = s.store ∧
    (s.onSilent k v o t m).transport = s.transport ∧ (s.onSilent k v o t m).transfer = s.transfer ∧
    (s.onSilent k v o t m).pending = s.pending := by
  simp only [State.onSilent]
  (repeat' split) <;> simp

@[simp] theorem State.restrikeOff_frame (k : Nat) (o : Source) (m : Time) (s : State) :
    (s.restrikeOff k o m).now = s.now ∧ (s.restrikeOff k o m).system = s.system ∧
    (s.restrikeOff k o m).scanner = s.scanner ∧ (s.restrikeOff k o m).strokes = s.strokes ∧
    (s.restrikeOff k o m).pedals = s.pedals ∧ (s.restrikeOff k o m).rail = s.rail ∧
    (s.restrikeOff k o m).audio = s.audio ∧ (s.restrikeOff k o m).store = s.store ∧
    (s.restrikeOff k o m).transport = s.transport ∧ (s.restrikeOff k o m).transfer = s.transfer ∧
    (s.restrikeOff k o m).pending = s.pending := by
  simp only [State.restrikeOff]
  (repeat' split) <;> simp

@[simp] theorem State.onRestrike_frame (k v : Nat) (o p : Source) (t : Bool) (m : Time) (s : State) :
    (s.onRestrike k v o p t m).now = s.now ∧ (s.onRestrike k v o p t m).system = s.system ∧
    (s.onRestrike k v o p t m).scanner = s.scanner ∧ (s.onRestrike k v o p t m).strokes = s.strokes ∧
    (s.onRestrike k v o p t m).pedals = s.pedals ∧ (s.onRestrike k v o p t m).rail = s.rail ∧
    (s.onRestrike k v o p t m).audio = s.audio ∧ (s.onRestrike k v o p t m).store = s.store ∧
    (s.onRestrike k v o p t m).transport = s.transport ∧ (s.onRestrike k v o p t m).transfer = s.transfer ∧
    (s.onRestrike k v o p t m).pending = s.pending := by
  simp only [State.onRestrike]
  (repeat' split) <;> simp

@[simp] theorem State.onIntent_frame (k v : Nat) (o : Source) (t : Bool) (m : Time) (s : State) :
    (s.onIntent k v o t m).now = s.now ∧ (s.onIntent k v o t m).system = s.system ∧
    (s.onIntent k v o t m).scanner = s.scanner ∧ (s.onIntent k v o t m).strokes = s.strokes ∧
    (s.onIntent k v o t m).pedals = s.pedals ∧ (s.onIntent k v o t m).rail = s.rail ∧
    (s.onIntent k v o t m).audio = s.audio ∧ (s.onIntent k v o t m).store = s.store ∧
    (s.onIntent k v o t m).transport = s.transport ∧ (s.onIntent k v o t m).transfer = s.transfer ∧
    (s.onIntent k v o t m).pending = s.pending := by
  simp only [State.onIntent]
  (repeat' split) <;> simp

@[simp] theorem State.silenceWith_frame (k v : Nat) (o : Source) (f : NoteFlags) (c : Option Cause) (m : Time) (s : State) :
    (s.silenceWith k v o f c m).now = s.now ∧ (s.silenceWith k v o f c m).system = s.system ∧
    (s.silenceWith k v o f c m).scanner = s.scanner ∧ (s.silenceWith k v o f c m).strokes = s.strokes ∧
    (s.silenceWith k v o f c m).pedals = s.pedals ∧ (s.silenceWith k v o f c m).rail = s.rail ∧
    (s.silenceWith k v o f c m).audio = s.audio ∧ (s.silenceWith k v o f c m).store = s.store ∧
    (s.silenceWith k v o f c m).transport = s.transport ∧ (s.silenceWith k v o f c m).transfer = s.transfer ∧
    (s.silenceWith k v o f c m).pending = s.pending := by
  simp only [State.silenceWith]
  (repeat' split) <;> simp

@[simp] theorem State.offIntent_frame (k v : Nat) (o : Source) (m : Time) (s : State) :
    (s.offIntent k v o m).now = s.now ∧ (s.offIntent k v o m).system = s.system ∧
    (s.offIntent k v o m).scanner = s.scanner ∧ (s.offIntent k v o m).strokes = s.strokes ∧
    (s.offIntent k v o m).pedals = s.pedals ∧ (s.offIntent k v o m).rail = s.rail ∧
    (s.offIntent k v o m).audio = s.audio ∧ (s.offIntent k v o m).store = s.store ∧
    (s.offIntent k v o m).transport = s.transport ∧ (s.offIntent k v o m).transfer = s.transfer ∧
    (s.offIntent k v o m).pending = s.pending := by
  simp only [State.offIntent]
  (repeat' split) <;> simp

@[simp] theorem State.forceOff_frame (c : Cause) (q : Option Source) (m : Time) (k : Nat) (s : State) :
    (s.forceOff c q m k).now = s.now ∧ (s.forceOff c q m k).system = s.system ∧
    (s.forceOff c q m k).scanner = s.scanner ∧ (s.forceOff c q m k).strokes = s.strokes ∧
    (s.forceOff c q m k).pedals = s.pedals ∧ (s.forceOff c q m k).rail = s.rail ∧
    (s.forceOff c q m k).audio = s.audio ∧ (s.forceOff c q m k).store = s.store ∧
    (s.forceOff c q m k).transport = s.transport ∧ (s.forceOff c q m k).transfer = s.transfer ∧
    (s.forceOff c q m k).pending = s.pending := by
  simp only [State.forceOff]
  (repeat' split) <;> simp

@[simp] theorem State.forceOffAll_frame (c : Cause) (q : Option Source) (m : Time) (s : State) :
    (s.forceOffAll c q m).now = s.now ∧ (s.forceOffAll c q m).system = s.system ∧
    (s.forceOffAll c q m).scanner = s.scanner ∧ (s.forceOffAll c q m).strokes = s.strokes ∧
    (s.forceOffAll c q m).pedals = s.pedals ∧ (s.forceOffAll c q m).rail = s.rail ∧
    (s.forceOffAll c q m).audio = s.audio ∧ (s.forceOffAll c q m).store = s.store ∧
    (s.forceOffAll c q m).transport = s.transport ∧ (s.forceOffAll c q m).transfer = s.transfer ∧
    (s.forceOffAll c q m).pending = s.pending := by
  simp [State.forceOffAll]

@[simp] theorem State.sostenutoOn_frame (s : State) :
    (s.sostenutoOn).now = s.now ∧ (s.sostenutoOn).system = s.system ∧ (s.sostenutoOn).scanner = s.scanner ∧
    (s.sostenutoOn).strokes = s.strokes ∧ (s.sostenutoOn).pedals = s.pedals ∧ (s.sostenutoOn).tone = s.tone ∧
    (s.sostenutoOn).rail = s.rail ∧ (s.sostenutoOn).audio = s.audio ∧ (s.sostenutoOn).store = s.store ∧
    (s.sostenutoOn).transport = s.transport ∧ (s.sostenutoOn).transfer = s.transfer ∧
    (s.sostenutoOn).linkT = s.linkT ∧ (s.sostenutoOn).linkP = s.linkP ∧ (s.sostenutoOn).panel = s.panel ∧
    (s.sostenutoOn).pending = s.pending := by
  simp [State.sostenutoOn]

@[simp] theorem State.sostenutoRelease_frame (m : Time) (k : Nat) (s : State) :
    (State.sostenutoRelease m s k).now = s.now ∧ (State.sostenutoRelease m s k).system = s.system ∧
    (State.sostenutoRelease m s k).scanner = s.scanner ∧ (State.sostenutoRelease m s k).strokes = s.strokes ∧
    (State.sostenutoRelease m s k).pedals = s.pedals ∧ (State.sostenutoRelease m s k).rail = s.rail ∧
    (State.sostenutoRelease m s k).audio = s.audio ∧ (State.sostenutoRelease m s k).store = s.store ∧
    (State.sostenutoRelease m s k).transport = s.transport ∧ (State.sostenutoRelease m s k).transfer = s.transfer ∧
    (State.sostenutoRelease m s k).pending = s.pending := by
  simp only [State.sostenutoRelease]
  (repeat' split) <;> simp

@[simp] theorem State.sostenutoOff_frame (m : Time) (s : State) :
    (s.sostenutoOff m).now = s.now ∧ (s.sostenutoOff m).system = s.system ∧ (s.sostenutoOff m).scanner = s.scanner ∧
    (s.sostenutoOff m).strokes = s.strokes ∧ (s.sostenutoOff m).pedals = s.pedals ∧
    (s.sostenutoOff m).rail = s.rail ∧ (s.sostenutoOff m).audio = s.audio ∧ (s.sostenutoOff m).store = s.store ∧
    (s.sostenutoOff m).transport = s.transport ∧ (s.sostenutoOff m).transfer = s.transfer ∧
    (s.sostenutoOff m).pending = s.pending := by
  simp [State.sostenutoOff]

@[simp] theorem State.silenceAll_frame (s : State) :
    (s.silenceAll).now = s.now ∧ (s.silenceAll).system = s.system ∧ (s.silenceAll).scanner = s.scanner ∧
    (s.silenceAll).strokes = s.strokes ∧ (s.silenceAll).pedals = s.pedals ∧ (s.silenceAll).tone = s.tone ∧
    (s.silenceAll).rail = s.rail ∧ (s.silenceAll).audio = s.audio ∧ (s.silenceAll).store = s.store ∧
    (s.silenceAll).transport = s.transport ∧ (s.silenceAll).transfer = s.transfer ∧ (s.silenceAll).linkT = s.linkT ∧
    (s.silenceAll).linkP = s.linkP ∧ (s.silenceAll).panel = s.panel ∧ (s.silenceAll).pending = s.pending := by
  simp [State.silenceAll]

@[simp] theorem State.panic_frame (s : State) :
    (s.panic).now = s.now ∧ (s.panic).system = s.system ∧ (s.panic).scanner = s.scanner ∧
    (s.panic).strokes = s.strokes ∧ (s.panic).pedals = s.pedals ∧ (s.panic).rail = s.rail ∧
    (s.panic).audio = s.audio ∧ (s.panic).store = s.store ∧ (s.panic).transport = s.transport ∧
    (s.panic).transfer = s.transfer ∧ (s.panic).pending = s.pending := by
  simp only [State.panic]
  (repeat' split) <;> simp

@[simp] theorem State.modLevel_frame (p : LevelId) (f : LevelPedal → LevelPedal) (s : State) :
    (s.modLevel p f).now = s.now ∧ (s.modLevel p f).system = s.system ∧ (s.modLevel p f).scanner = s.scanner ∧
    (s.modLevel p f).strokes = s.strokes ∧ (s.modLevel p f).router = s.router ∧ (s.modLevel p f).tone = s.tone ∧
    (s.modLevel p f).rail = s.rail ∧ (s.modLevel p f).audio = s.audio ∧ (s.modLevel p f).store = s.store ∧
    (s.modLevel p f).transport = s.transport ∧ (s.modLevel p f).transfer = s.transfer ∧
    (s.modLevel p f).linkT = s.linkT ∧ (s.modLevel p f).linkP = s.linkP ∧ (s.modLevel p f).panel = s.panel ∧
    (s.modLevel p f).pending = s.pending := by
  simp [State.modLevel]

@[simp] theorem State.modSwitch_frame (f : SwitchPedal → SwitchPedal) (s : State) :
    (s.modSwitch f).now = s.now ∧ (s.modSwitch f).system = s.system ∧ (s.modSwitch f).scanner = s.scanner ∧
    (s.modSwitch f).strokes = s.strokes ∧ (s.modSwitch f).router = s.router ∧ (s.modSwitch f).tone = s.tone ∧
    (s.modSwitch f).rail = s.rail ∧ (s.modSwitch f).audio = s.audio ∧ (s.modSwitch f).store = s.store ∧
    (s.modSwitch f).transport = s.transport ∧ (s.modSwitch f).transfer = s.transfer ∧
    (s.modSwitch f).linkT = s.linkT ∧ (s.modSwitch f).linkP = s.linkP ∧ (s.modSwitch f).panel = s.panel ∧
    (s.modSwitch f).pending = s.pending := by
  simp [State.modSwitch]

@[simp] theorem State.recomputeLevel_frame (p : LevelId) (m : Time) (s : State) :
    (s.recomputeLevel p m).now = s.now ∧ (s.recomputeLevel p m).system = s.system ∧
    (s.recomputeLevel p m).scanner = s.scanner ∧ (s.recomputeLevel p m).strokes = s.strokes ∧
    (s.recomputeLevel p m).rail = s.rail ∧ (s.recomputeLevel p m).audio = s.audio ∧
    (s.recomputeLevel p m).store = s.store ∧ (s.recomputeLevel p m).transport = s.transport ∧
    (s.recomputeLevel p m).transfer = s.transfer ∧ (s.recomputeLevel p m).panel = s.panel ∧
    (s.recomputeLevel p m).pending = s.pending := by
  simp only [State.recomputeLevel]
  (repeat' split) <;> simp

@[simp] theorem State.recomputeSwitch_frame (m : Time) (s : State) :
    (s.recomputeSwitch m).now = s.now ∧ (s.recomputeSwitch m).system = s.system ∧
    (s.recomputeSwitch m).scanner = s.scanner ∧ (s.recomputeSwitch m).strokes = s.strokes ∧
    (s.recomputeSwitch m).rail = s.rail ∧ (s.recomputeSwitch m).audio = s.audio ∧
    (s.recomputeSwitch m).store = s.store ∧ (s.recomputeSwitch m).transport = s.transport ∧
    (s.recomputeSwitch m).transfer = s.transfer ∧ (s.recomputeSwitch m).pending = s.pending := by
  simp only [State.recomputeSwitch]
  (repeat' split) <;> simp

@[simp] theorem State.playbackPedal_frame (p : PedalId) (v : Nat) (s : State) :
    (s.playbackPedal p v).now = s.now ∧ (s.playbackPedal p v).system = s.system ∧
    (s.playbackPedal p v).scanner = s.scanner ∧ (s.playbackPedal p v).strokes = s.strokes ∧
    (s.playbackPedal p v).rail = s.rail ∧ (s.playbackPedal p v).audio = s.audio ∧
    (s.playbackPedal p v).store = s.store ∧ (s.playbackPedal p v).transport = s.transport ∧
    (s.playbackPedal p v).transfer = s.transfer ∧ (s.playbackPedal p v).pending = s.pending := by
  simp only [State.playbackPedal]
  (repeat' split) <;> simp

@[simp] theorem State.playbackClear_frame (s : State) :
    (s.playbackClear).now = s.now ∧ (s.playbackClear).system = s.system ∧ (s.playbackClear).scanner = s.scanner ∧
    (s.playbackClear).strokes = s.strokes ∧ (s.playbackClear).rail = s.rail ∧ (s.playbackClear).audio = s.audio ∧
    (s.playbackClear).store = s.store ∧ (s.playbackClear).transport = s.transport ∧
    (s.playbackClear).transfer = s.transfer ∧ (s.playbackClear).pending = s.pending := by
  simp [State.playbackClear]

end Sys2Proof.Machine
end

