-- ==== Sys2Proof/Laws/RailFrames.lean ====
section
/-! SUPPORT. The frames of the shared operations of the beat clock and the Rail Drive: for each operation, the blocks it
leaves as they were. Later proofs cite these lemmas and do not unfold the operations. -/

namespace Sys2Proof.Machine

open Sys2Proof

@[simp] theorem State.beat_frame (p : BeatPos) (s : State) :
    (s.beat p).now = s.now ∧ (s.beat p).system = s.system ∧ (s.beat p).scanner = s.scanner ∧
    (s.beat p).strokes = s.strokes ∧ (s.beat p).pedals = s.pedals ∧ (s.beat p).router = s.router ∧
    (s.beat p).tone = s.tone ∧ (s.beat p).rail = s.rail ∧ (s.beat p).store = s.store ∧
    (s.beat p).transport = s.transport ∧ (s.beat p).transfer = s.transfer ∧ (s.beat p).linkT = s.linkT ∧
    (s.beat p).linkP = s.linkP ∧ (s.beat p).pending = s.pending := by
  simp only [State.beat]
  (repeat' split) <;> simp

@[simp] theorem State.enterMode_frame (m : ClockMode) (s : State) :
    (s.enterMode m).now = s.now ∧ (s.enterMode m).system = s.system ∧ (s.enterMode m).scanner = s.scanner ∧
    (s.enterMode m).strokes = s.strokes ∧ (s.enterMode m).pedals = s.pedals ∧ (s.enterMode m).router = s.router ∧
    (s.enterMode m).tone = s.tone ∧ (s.enterMode m).rail = s.rail ∧ (s.enterMode m).store = s.store ∧
    (s.enterMode m).transport = s.transport ∧ (s.enterMode m).transfer = s.transfer ∧
    (s.enterMode m).linkT = s.linkT ∧ (s.enterMode m).linkP = s.linkP ∧ (s.enterMode m).pending = s.pending := by
  simp only [State.enterMode]
  (repeat' split) <;> simp

@[simp] theorem State.judgeMode_frame (s : State) :
    (s.judgeMode).now = s.now ∧ (s.judgeMode).system = s.system ∧ (s.judgeMode).scanner = s.scanner ∧
    (s.judgeMode).strokes = s.strokes ∧ (s.judgeMode).pedals = s.pedals ∧ (s.judgeMode).router = s.router ∧
    (s.judgeMode).tone = s.tone ∧ (s.judgeMode).rail = s.rail ∧ (s.judgeMode).store = s.store ∧
    (s.judgeMode).transport = s.transport ∧ (s.judgeMode).transfer = s.transfer ∧ (s.judgeMode).linkT = s.linkT ∧
    (s.judgeMode).linkP = s.linkP ∧ (s.judgeMode).pending = s.pending := by
  simp only [State.judgeMode]
  (repeat' split) <;> simp

@[simp] theorem State.recordClickStart_frame (s : State) :
    (s.recordClickStart).now = s.now ∧ (s.recordClickStart).system = s.system ∧
    (s.recordClickStart).scanner = s.scanner ∧ (s.recordClickStart).strokes = s.strokes ∧
    (s.recordClickStart).pedals = s.pedals ∧ (s.recordClickStart).router = s.router ∧
    (s.recordClickStart).tone = s.tone ∧ (s.recordClickStart).rail = s.rail ∧ (s.recordClickStart).store = s.store ∧
    (s.recordClickStart).transport = s.transport ∧ (s.recordClickStart).transfer = s.transfer ∧
    (s.recordClickStart).linkT = s.linkT ∧ (s.recordClickStart).linkP = s.linkP ∧
    (s.recordClickStart).pending = s.pending := by
  simp [State.recordClickStart]

@[simp] theorem State.recordClickEnd_frame (s : State) :
    (s.recordClickEnd).now = s.now ∧ (s.recordClickEnd).system = s.system ∧ (s.recordClickEnd).scanner = s.scanner ∧
    (s.recordClickEnd).strokes = s.strokes ∧ (s.recordClickEnd).pedals = s.pedals ∧
    (s.recordClickEnd).router = s.router ∧ (s.recordClickEnd).tone = s.tone ∧ (s.recordClickEnd).rail = s.rail ∧
    (s.recordClickEnd).store = s.store ∧ (s.recordClickEnd).transport = s.transport ∧
    (s.recordClickEnd).transfer = s.transfer ∧ (s.recordClickEnd).linkT = s.linkT ∧
    (s.recordClickEnd).linkP = s.linkP ∧ (s.recordClickEnd).pending = s.pending := by
  simp [State.recordClickEnd]

@[simp] theorem State.playClickStart_frame (s : State) :
    (s.playClickStart).now = s.now ∧ (s.playClickStart).system = s.system ∧ (s.playClickStart).scanner = s.scanner ∧
    (s.playClickStart).strokes = s.strokes ∧ (s.playClickStart).pedals = s.pedals ∧
    (s.playClickStart).router = s.router ∧ (s.playClickStart).tone = s.tone ∧ (s.playClickStart).rail = s.rail ∧
    (s.playClickStart).store = s.store ∧ (s.playClickStart).transport = s.transport ∧
    (s.playClickStart).transfer = s.transfer ∧ (s.playClickStart).linkT = s.linkT ∧
    (s.playClickStart).linkP = s.linkP ∧ (s.playClickStart).pending = s.pending := by
  simp [State.playClickStart]

@[simp] theorem State.playClickEnd_frame (s : State) :
    (s.playClickEnd).now = s.now ∧ (s.playClickEnd).system = s.system ∧ (s.playClickEnd).scanner = s.scanner ∧
    (s.playClickEnd).strokes = s.strokes ∧ (s.playClickEnd).pedals = s.pedals ∧ (s.playClickEnd).router = s.router ∧
    (s.playClickEnd).tone = s.tone ∧ (s.playClickEnd).rail = s.rail ∧ (s.playClickEnd).store = s.store ∧
    (s.playClickEnd).transport = s.transport ∧ (s.playClickEnd).transfer = s.transfer ∧
    (s.playClickEnd).linkT = s.linkT ∧ (s.playClickEnd).linkP = s.linkP ∧ (s.playClickEnd).pending = s.pending := by
  simp [State.playClickEnd]

@[simp] theorem State.setPlaySpeed_frame (p : Option Nat) (s : State) :
    (s.setPlaySpeed p).now = s.now ∧ (s.setPlaySpeed p).system = s.system ∧ (s.setPlaySpeed p).scanner = s.scanner ∧
    (s.setPlaySpeed p).strokes = s.strokes ∧ (s.setPlaySpeed p).pedals = s.pedals ∧
    (s.setPlaySpeed p).router = s.router ∧ (s.setPlaySpeed p).tone = s.tone ∧ (s.setPlaySpeed p).rail = s.rail ∧
    (s.setPlaySpeed p).store = s.store ∧ (s.setPlaySpeed p).transport = s.transport ∧
    (s.setPlaySpeed p).transfer = s.transfer ∧ (s.setPlaySpeed p).linkT = s.linkT ∧
    (s.setPlaySpeed p).linkP = s.linkP ∧ (s.setPlaySpeed p).pending = s.pending := by
  simp [State.setPlaySpeed]

@[simp] theorem State.beatDelivery_frame (p : BeatPos) (s : State) :
    (s.beatDelivery p).now = s.now ∧ (s.beatDelivery p).system = s.system ∧ (s.beatDelivery p).scanner = s.scanner ∧
    (s.beatDelivery p).strokes = s.strokes ∧ (s.beatDelivery p).pedals = s.pedals ∧
    (s.beatDelivery p).router = s.router ∧ (s.beatDelivery p).tone = s.tone ∧ (s.beatDelivery p).rail = s.rail ∧
    (s.beatDelivery p).store = s.store ∧ (s.beatDelivery p).transport = s.transport ∧
    (s.beatDelivery p).transfer = s.transfer ∧ (s.beatDelivery p).linkT = s.linkT ∧
    (s.beatDelivery p).linkP = s.linkP ∧ (s.beatDelivery p).pending = s.pending := by
  simp only [State.beatDelivery]
  (repeat' split) <;> simp

@[simp] theorem State.railHandOn_frame (s : State) :
    (s.railHandOn).now = s.now ∧ (s.railHandOn).system = s.system ∧ (s.railHandOn).scanner = s.scanner ∧
    (s.railHandOn).strokes = s.strokes ∧ (s.railHandOn).pedals = s.pedals ∧ (s.railHandOn).router = s.router ∧
    (s.railHandOn).tone = s.tone ∧ (s.railHandOn).rail = s.rail ∧ (s.railHandOn).store = s.store ∧
    (s.railHandOn).transport = s.transport ∧ (s.railHandOn).transfer = s.transfer ∧ (s.railHandOn).linkT = s.linkT ∧
    (s.railHandOn).linkP = s.linkP ∧ (s.railHandOn).panel = s.panel ∧ (s.railHandOn).pending = s.pending := by
  simp [State.railHandOn]

@[simp] theorem State.railChanged_frame (s : State) :
    (s.railChanged).now = s.now ∧ (s.railChanged).system = s.system ∧ (s.railChanged).scanner = s.scanner ∧
    (s.railChanged).strokes = s.strokes ∧ (s.railChanged).pedals = s.pedals ∧ (s.railChanged).router = s.router ∧
    (s.railChanged).tone = s.tone ∧ (s.railChanged).rail = s.rail ∧ (s.railChanged).store = s.store ∧
    (s.railChanged).transport = s.transport ∧ (s.railChanged).transfer = s.transfer ∧
    (s.railChanged).panel = s.panel ∧ (s.railChanged).pending = s.pending := by
  simp [State.railChanged]

@[simp] theorem State.setAlertRequested_frame (b : Bool) (s : State) :
    (s.setAlertRequested b).now = s.now ∧ (s.setAlertRequested b).system = s.system ∧
    (s.setAlertRequested b).scanner = s.scanner ∧ (s.setAlertRequested b).strokes = s.strokes ∧
    (s.setAlertRequested b).pedals = s.pedals ∧ (s.setAlertRequested b).router = s.router ∧
    (s.setAlertRequested b).tone = s.tone ∧ (s.setAlertRequested b).store = s.store ∧
    (s.setAlertRequested b).transport = s.transport ∧ (s.setAlertRequested b).transfer = s.transfer ∧
    (s.setAlertRequested b).linkT = s.linkT ∧ (s.setAlertRequested b).linkP = s.linkP ∧
    (s.setAlertRequested b).panel = s.panel ∧ (s.setAlertRequested b).pending = s.pending := by
  simp [State.setAlertRequested]

@[simp] theorem State.railArrive_frame (t : Target) (s : State) :
    (s.railArrive t).now = s.now ∧ (s.railArrive t).system = s.system ∧ (s.railArrive t).scanner = s.scanner ∧
    (s.railArrive t).strokes = s.strokes ∧ (s.railArrive t).pedals = s.pedals ∧ (s.railArrive t).router = s.router ∧
    (s.railArrive t).tone = s.tone ∧ (s.railArrive t).store = s.store ∧ (s.railArrive t).transport = s.transport ∧
    (s.railArrive t).transfer = s.transfer ∧ (s.railArrive t).panel = s.panel ∧ (s.railArrive t).pending = s.pending := by
  simp [State.railArrive]

@[simp] theorem State.startRun_frame (t : Target) (s : State) :
    (s.startRun t).now = s.now ∧ (s.startRun t).system = s.system ∧ (s.startRun t).scanner = s.scanner ∧
    (s.startRun t).strokes = s.strokes ∧ (s.startRun t).pedals = s.pedals ∧ (s.startRun t).router = s.router ∧
    (s.startRun t).tone = s.tone ∧ (s.startRun t).store = s.store ∧ (s.startRun t).transport = s.transport ∧
    (s.startRun t).transfer = s.transfer ∧ (s.startRun t).panel = s.panel ∧ (s.startRun t).pending = s.pending := by
  simp only [State.startRun]
  (repeat' split) <;> simp

@[simp] theorem State.railQuiet_frame (s : State) :
    (s.railQuiet).now = s.now ∧ (s.railQuiet).system = s.system ∧ (s.railQuiet).scanner = s.scanner ∧
    (s.railQuiet).strokes = s.strokes ∧ (s.railQuiet).pedals = s.pedals ∧ (s.railQuiet).router = s.router ∧
    (s.railQuiet).tone = s.tone ∧ (s.railQuiet).store = s.store ∧ (s.railQuiet).transport = s.transport ∧
    (s.railQuiet).transfer = s.transfer ∧ (s.railQuiet).panel = s.panel ∧ (s.railQuiet).pending = s.pending := by
  simp only [State.railQuiet]
  (repeat' split) <;> simp

@[simp] theorem State.enterWaitQuiet_frame (t : Target) (p : RailState) (s : State) :
    (s.enterWaitQuiet t p).now = s.now ∧ (s.enterWaitQuiet t p).system = s.system ∧
    (s.enterWaitQuiet t p).scanner = s.scanner ∧ (s.enterWaitQuiet t p).strokes = s.strokes ∧
    (s.enterWaitQuiet t p).pedals = s.pedals ∧ (s.enterWaitQuiet t p).router = s.router ∧
    (s.enterWaitQuiet t p).tone = s.tone ∧ (s.enterWaitQuiet t p).store = s.store ∧
    (s.enterWaitQuiet t p).transport = s.transport ∧ (s.enterWaitQuiet t p).transfer = s.transfer ∧
    (s.enterWaitQuiet t p).panel = s.panel ∧ (s.enterWaitQuiet t p).pending = s.pending := by
  simp only [State.enterWaitQuiet]
  (repeat' split) <;> simp

@[simp] theorem State.abandonWait_frame (s : State) :
    (s.abandonWait).now = s.now ∧ (s.abandonWait).system = s.system ∧ (s.abandonWait).scanner = s.scanner ∧
    (s.abandonWait).strokes = s.strokes ∧ (s.abandonWait).pedals = s.pedals ∧ (s.abandonWait).router = s.router ∧
    (s.abandonWait).tone = s.tone ∧ (s.abandonWait).store = s.store ∧ (s.abandonWait).transport = s.transport ∧
    (s.abandonWait).transfer = s.transfer ∧ (s.abandonWait).panel = s.panel ∧ (s.abandonWait).pending = s.pending := by
  simp [State.abandonWait]

@[simp] theorem State.reverse_frame (t : Target) (s : State) :
    (s.reverse t).now = s.now ∧ (s.reverse t).system = s.system ∧ (s.reverse t).scanner = s.scanner ∧
    (s.reverse t).strokes = s.strokes ∧ (s.reverse t).pedals = s.pedals ∧ (s.reverse t).router = s.router ∧
    (s.reverse t).tone = s.tone ∧ (s.reverse t).store = s.store ∧ (s.reverse t).transport = s.transport ∧
    (s.reverse t).transfer = s.transfer ∧ (s.reverse t).panel = s.panel ∧ (s.reverse t).pending = s.pending := by
  simp [State.reverse]

@[simp] theorem State.moveRequest_frame (t : Target) (s : State) :
    (s.moveRequest t).1.now = s.now ∧ (s.moveRequest t).1.system = s.system ∧
    (s.moveRequest t).1.scanner = s.scanner ∧ (s.moveRequest t).1.strokes = s.strokes ∧
    (s.moveRequest t).1.pedals = s.pedals ∧ (s.moveRequest t).1.router = s.router ∧
    (s.moveRequest t).1.tone = s.tone ∧ (s.moveRequest t).1.store = s.store ∧
    (s.moveRequest t).1.transport = s.transport ∧ (s.moveRequest t).1.transfer = s.transfer ∧
    (s.moveRequest t).1.panel = s.panel ∧ (s.moveRequest t).1.pending = s.pending := by
  simp only [State.moveRequest]
  (repeat' split) <;> simp

@[simp] theorem State.failRun_frame (c : RailCause) (s : State) :
    (s.failRun c).now = s.now ∧ (s.failRun c).system = s.system ∧ (s.failRun c).scanner = s.scanner ∧
    (s.failRun c).strokes = s.strokes ∧ (s.failRun c).pedals = s.pedals ∧ (s.failRun c).router = s.router ∧
    (s.failRun c).tone = s.tone ∧ (s.failRun c).store = s.store ∧ (s.failRun c).transport = s.transport ∧
    (s.failRun c).transfer = s.transfer ∧ (s.failRun c).panel = s.panel ∧ (s.failRun c).pending = s.pending := by
  simp [State.failRun]

@[simp] theorem State.stallExpired_frame (r : Run) (s : State) :
    (s.stallExpired r).now = s.now ∧ (s.stallExpired r).system = s.system ∧ (s.stallExpired r).scanner = s.scanner ∧
    (s.stallExpired r).strokes = s.strokes ∧ (s.stallExpired r).pedals = s.pedals ∧
    (s.stallExpired r).router = s.router ∧ (s.stallExpired r).tone = s.tone ∧ (s.stallExpired r).store = s.store ∧
    (s.stallExpired r).transport = s.transport ∧ (s.stallExpired r).transfer = s.transfer ∧
    (s.stallExpired r).panel = s.panel ∧ (s.stallExpired r).pending = s.pending := by
  simp only [State.stallExpired]
  (repeat' split) <;> simp

@[simp] theorem State.switchFault_frame (s : State) :
    (s.switchFault).now = s.now ∧ (s.switchFault).system = s.system ∧ (s.switchFault).scanner = s.scanner ∧
    (s.switchFault).strokes = s.strokes ∧ (s.switchFault).pedals = s.pedals ∧ (s.switchFault).router = s.router ∧
    (s.switchFault).tone = s.tone ∧ (s.switchFault).store = s.store ∧ (s.switchFault).transport = s.transport ∧
    (s.switchFault).transfer = s.transfer ∧ (s.switchFault).panel = s.panel ∧ (s.switchFault).pending = s.pending := by
  simp [State.switchFault]

@[simp] theorem State.railPulse_frame (d : Direction) (s : State) :
    (s.railPulse d).now = s.now ∧ (s.railPulse d).system = s.system ∧ (s.railPulse d).scanner = s.scanner ∧
    (s.railPulse d).strokes = s.strokes ∧ (s.railPulse d).pedals = s.pedals ∧ (s.railPulse d).router = s.router ∧
    (s.railPulse d).tone = s.tone ∧ (s.railPulse d).store = s.store ∧ (s.railPulse d).transport = s.transport ∧
    (s.railPulse d).transfer = s.transfer ∧ (s.railPulse d).panel = s.panel ∧ (s.railPulse d).pending = s.pending := by
  simp only [State.railPulse]
  (repeat' split) <;> simp

@[simp] theorem State.railCurrent_frame (n : Nat) (s : State) :
    (s.railCurrent n).now = s.now ∧ (s.railCurrent n).system = s.system ∧ (s.railCurrent n).scanner = s.scanner ∧
    (s.railCurrent n).strokes = s.strokes ∧ (s.railCurrent n).pedals = s.pedals ∧
    (s.railCurrent n).router = s.router ∧ (s.railCurrent n).tone = s.tone ∧ (s.railCurrent n).store = s.store ∧
    (s.railCurrent n).transport = s.transport ∧ (s.railCurrent n).transfer = s.transfer ∧
    (s.railCurrent n).panel = s.panel ∧ (s.railCurrent n).pending = s.pending := by
  simp only [State.railCurrent]
  (repeat' split) <;> simp

@[simp] theorem State.switchAtRest_frame (w : EndSwitch) (a : Bool) (s : State) :
    (s.switchAtRest w a).now = s.now ∧ (s.switchAtRest w a).system = s.system ∧
    (s.switchAtRest w a).scanner = s.scanner ∧ (s.switchAtRest w a).strokes = s.strokes ∧
    (s.switchAtRest w a).pedals = s.pedals ∧ (s.switchAtRest w a).router = s.router ∧
    (s.switchAtRest w a).tone = s.tone ∧ (s.switchAtRest w a).store = s.store ∧
    (s.switchAtRest w a).transport = s.transport ∧ (s.switchAtRest w a).transfer = s.transfer ∧
    (s.switchAtRest w a).panel = s.panel ∧ (s.switchAtRest w a).pending = s.pending := by
  simp only [State.switchAtRest]
  (repeat' split) <;> simp

@[simp] theorem State.leaveSwitchFault_frame (s : State) :
    (s.leaveSwitchFault).now = s.now ∧ (s.leaveSwitchFault).system = s.system ∧
    (s.leaveSwitchFault).scanner = s.scanner ∧ (s.leaveSwitchFault).strokes = s.strokes ∧
    (s.leaveSwitchFault).pedals = s.pedals ∧ (s.leaveSwitchFault).router = s.router ∧
    (s.leaveSwitchFault).tone = s.tone ∧ (s.leaveSwitchFault).store = s.store ∧
    (s.leaveSwitchFault).transport = s.transport ∧ (s.leaveSwitchFault).transfer = s.transfer ∧
    (s.leaveSwitchFault).panel = s.panel ∧ (s.leaveSwitchFault).pending = s.pending := by
  simp only [State.leaveSwitchFault]
  (repeat' split) <;> simp

@[simp] theorem State.switchHandled_frame (w : EndSwitch) (a : Bool) (s : State) :
    (s.switchHandled w a).now = s.now ∧ (s.switchHandled w a).system = s.system ∧
    (s.switchHandled w a).scanner = s.scanner ∧ (s.switchHandled w a).strokes = s.strokes ∧
    (s.switchHandled w a).pedals = s.pedals ∧ (s.switchHandled w a).router = s.router ∧
    (s.switchHandled w a).tone = s.tone ∧ (s.switchHandled w a).store = s.store ∧
    (s.switchHandled w a).transport = s.transport ∧ (s.switchHandled w a).transfer = s.transfer ∧
    (s.switchHandled w a).panel = s.panel ∧ (s.switchHandled w a).pending = s.pending := by
  simp only [State.switchHandled]
  (repeat' split) <;> simp

@[simp] theorem State.railSwitch_frame (w : EndSwitch) (a : Bool) (s : State) :
    (s.railSwitch w a).now = s.now ∧ (s.railSwitch w a).system = s.system ∧ (s.railSwitch w a).scanner = s.scanner ∧
    (s.railSwitch w a).strokes = s.strokes ∧ (s.railSwitch w a).pedals = s.pedals ∧
    (s.railSwitch w a).router = s.router ∧ (s.railSwitch w a).tone = s.tone ∧ (s.railSwitch w a).store = s.store ∧
    (s.railSwitch w a).transport = s.transport ∧ (s.railSwitch w a).transfer = s.transfer ∧
    (s.railSwitch w a).panel = s.panel ∧ (s.railSwitch w a).pending = s.pending := by
  simp only [State.railSwitch]
  (repeat' split) <;> simp

end Sys2Proof.Machine
end

