-- ==== Sys2Proof/Laws/TransportFrames.lean ====
section
/-! SUPPORT. The frames of the shared operations of the Transport: for each operation, the blocks it
leaves as they were. Later proofs cite these lemmas and do not unfold the operations. -/

namespace Sys2Proof.Machine

open Sys2Proof

@[simp] theorem State.finishRecording_frame (c : EndCause) (s : State) :
    (s.finishRecording c).now = s.now ∧ (s.finishRecording c).system = s.system ∧
    (s.finishRecording c).scanner = s.scanner ∧ (s.finishRecording c).strokes = s.strokes ∧
    (s.finishRecording c).pedals = s.pedals ∧ (s.finishRecording c).router = s.router ∧
    (s.finishRecording c).tone = s.tone ∧ (s.finishRecording c).rail = s.rail ∧
    (s.finishRecording c).store = s.store ∧ (s.finishRecording c).transfer = s.transfer ∧
    (s.finishRecording c).pending = s.pending := by
  simp only [State.finishRecording]
  (repeat' split) <;> simp

@[simp] theorem State.recordWith_frame (f : Store → Store × Bool) (s : State) :
    (s.recordWith f).now = s.now ∧ (s.recordWith f).system = s.system ∧ (s.recordWith f).scanner = s.scanner ∧
    (s.recordWith f).strokes = s.strokes ∧ (s.recordWith f).pedals = s.pedals ∧ (s.recordWith f).router = s.router ∧
    (s.recordWith f).tone = s.tone ∧ (s.recordWith f).rail = s.rail ∧ (s.recordWith f).transfer = s.transfer ∧
    (s.recordWith f).pending = s.pending := by
  simp only [State.recordWith]
  (repeat' split) <;> simp

@[simp] theorem State.takeOverdue_frame (m : Time) (s : State) :
    (s.takeOverdue m).now = s.now ∧ (s.takeOverdue m).system = s.system ∧ (s.takeOverdue m).scanner = s.scanner ∧
    (s.takeOverdue m).strokes = s.strokes ∧ (s.takeOverdue m).pedals = s.pedals ∧ (s.takeOverdue m).router = s.router ∧
    (s.takeOverdue m).tone = s.tone ∧ (s.takeOverdue m).rail = s.rail ∧ (s.takeOverdue m).transfer = s.transfer ∧
    (s.takeOverdue m).pending = s.pending := by
  simp [State.takeOverdue]

@[simp] theorem State.endRecording_frame (c : EndCause) (m : Time) (s : State) :
    (s.endRecording c m).now = s.now ∧ (s.endRecording c m).system = s.system ∧
    (s.endRecording c m).scanner = s.scanner ∧ (s.endRecording c m).strokes = s.strokes ∧
    (s.endRecording c m).pedals = s.pedals ∧ (s.endRecording c m).router = s.router ∧
    (s.endRecording c m).tone = s.tone ∧ (s.endRecording c m).rail = s.rail ∧
    (s.endRecording c m).transfer = s.transfer ∧ (s.endRecording c m).pending = s.pending := by
  simp only [State.endRecording]
  (repeat' split) <;> simp

@[simp] theorem State.recordHeld_frame (m : Time) (p : PedalId) (s : State) :
    (State.recordHeld m s p).now = s.now ∧ (State.recordHeld m s p).system = s.system ∧
    (State.recordHeld m s p).scanner = s.scanner ∧ (State.recordHeld m s p).strokes = s.strokes ∧
    (State.recordHeld m s p).pedals = s.pedals ∧ (State.recordHeld m s p).router = s.router ∧
    (State.recordHeld m s p).tone = s.tone ∧ (State.recordHeld m s p).rail = s.rail ∧
    (State.recordHeld m s p).transfer = s.transfer ∧ (State.recordHeld m s p).pending = s.pending := by
  simp only [State.recordHeld]
  (repeat' split) <;> simp

@[simp] theorem State.recordBeat_frame (p : BeatPos) (s : State) :
    (s.recordBeat p).now = s.now ∧ (s.recordBeat p).system = s.system ∧ (s.recordBeat p).scanner = s.scanner ∧
    (s.recordBeat p).strokes = s.strokes ∧ (s.recordBeat p).pedals = s.pedals ∧ (s.recordBeat p).router = s.router ∧
    (s.recordBeat p).tone = s.tone ∧ (s.recordBeat p).rail = s.rail ∧ (s.recordBeat p).transfer = s.transfer ∧
    (s.recordBeat p).pending = s.pending := by
  simp only [State.recordBeat]
  (repeat' split) <;> simp

@[simp] theorem State.stampTempo_frame (s : State) :
    (s.stampTempo).now = s.now ∧ (s.stampTempo).system = s.system ∧ (s.stampTempo).scanner = s.scanner ∧
    (s.stampTempo).strokes = s.strokes ∧ (s.stampTempo).pedals = s.pedals ∧ (s.stampTempo).router = s.router ∧
    (s.stampTempo).tone = s.tone ∧ (s.stampTempo).rail = s.rail ∧ (s.stampTempo).audio = s.audio ∧
    (s.stampTempo).transport = s.transport ∧ (s.stampTempo).transfer = s.transfer ∧ (s.stampTempo).linkT = s.linkT ∧
    (s.stampTempo).linkP = s.linkP ∧ (s.stampTempo).panel = s.panel ∧ (s.stampTempo).pending = s.pending := by
  simp [State.stampTempo]

@[simp] theorem State.clockStart_frame (m : Time) (k : Option (Nat × Nat)) (s : State) :
    (s.clockStart m k).now = s.now ∧ (s.clockStart m k).system = s.system ∧ (s.clockStart m k).scanner = s.scanner ∧
    (s.clockStart m k).strokes = s.strokes ∧ (s.clockStart m k).pedals = s.pedals ∧
    (s.clockStart m k).router = s.router ∧ (s.clockStart m k).tone = s.tone ∧ (s.clockStart m k).rail = s.rail ∧
    (s.clockStart m k).transfer = s.transfer ∧ (s.clockStart m k).pending = s.pending := by
  simp only [State.clockStart, pedalOrder, List.foldl]
  (repeat' split) <;> simp

@[simp] theorem State.liveRelease_frame (k v : Nat) (m : Time) (s : State) :
    (s.liveRelease k v m).now = s.now ∧ (s.liveRelease k v m).system = s.system ∧
    (s.liveRelease k v m).scanner = s.scanner ∧ (s.liveRelease k v m).strokes = s.strokes ∧
    (s.liveRelease k v m).pedals = s.pedals ∧ (s.liveRelease k v m).router = s.router ∧
    (s.liveRelease k v m).tone = s.tone ∧ (s.liveRelease k v m).rail = s.rail ∧
    (s.liveRelease k v m).transfer = s.transfer ∧ (s.liveRelease k v m).pending = s.pending := by
  simp only [State.liveRelease]
  (repeat' split) <;> simp

@[simp] theorem State.livePedal_frame (p : PedalId) (v : Nat) (m : Time) (s : State) :
    (s.livePedal p v m).now = s.now ∧ (s.livePedal p v m).system = s.system ∧
    (s.livePedal p v m).scanner = s.scanner ∧ (s.livePedal p v m).strokes = s.strokes ∧
    (s.livePedal p v m).pedals = s.pedals ∧ (s.livePedal p v m).router = s.router ∧
    (s.livePedal p v m).tone = s.tone ∧ (s.livePedal p v m).rail = s.rail ∧
    (s.livePedal p v m).transfer = s.transfer ∧ (s.livePedal p v m).pending = s.pending := by
  simp only [State.livePedal]
  (repeat' split) <;> simp

@[simp] theorem State.computeWait_frame (s : State) :
    (s.computeWait).now = s.now ∧ (s.computeWait).system = s.system ∧ (s.computeWait).scanner = s.scanner ∧
    (s.computeWait).strokes = s.strokes ∧ (s.computeWait).pedals = s.pedals ∧ (s.computeWait).router = s.router ∧
    (s.computeWait).tone = s.tone ∧ (s.computeWait).rail = s.rail ∧ (s.computeWait).audio = s.audio ∧
    (s.computeWait).store = s.store ∧ (s.computeWait).transfer = s.transfer ∧ (s.computeWait).linkT = s.linkT ∧
    (s.computeWait).linkP = s.linkP ∧ (s.computeWait).panel = s.panel ∧ (s.computeWait).pending = s.pending := by
  simp [State.computeWait]

@[simp] theorem State.anchorTest_frame (s : State) :
    (s.anchorTest).now = s.now ∧ (s.anchorTest).system = s.system ∧ (s.anchorTest).scanner = s.scanner ∧
    (s.anchorTest).strokes = s.strokes ∧ (s.anchorTest).pedals = s.pedals ∧ (s.anchorTest).router = s.router ∧
    (s.anchorTest).tone = s.tone ∧ (s.anchorTest).rail = s.rail ∧ (s.anchorTest).audio = s.audio ∧
    (s.anchorTest).store = s.store ∧ (s.anchorTest).transfer = s.transfer ∧ (s.anchorTest).linkT = s.linkT ∧
    (s.anchorTest).linkP = s.linkP ∧ (s.anchorTest).panel = s.panel ∧ (s.anchorTest).pending = s.pending := by
  simp [State.anchorTest]

@[simp] theorem State.restatePedals_frame (s : State) :
    (s.restatePedals).now = s.now ∧ (s.restatePedals).system = s.system ∧ (s.restatePedals).scanner = s.scanner ∧
    (s.restatePedals).strokes = s.strokes ∧ (s.restatePedals).rail = s.rail ∧ (s.restatePedals).audio = s.audio ∧
    (s.restatePedals).store = s.store ∧ (s.restatePedals).transport = s.transport ∧
    (s.restatePedals).transfer = s.transfer ∧ (s.restatePedals).pending = s.pending := by
  simp only [State.restatePedals, pedalOrder, List.foldl]
  (repeat' split) <;> simp

@[simp] theorem State.haltTake_frame (s : State) :
    (s.haltTake).now = s.now ∧ (s.haltTake).system = s.system ∧ (s.haltTake).scanner = s.scanner ∧
    (s.haltTake).strokes = s.strokes ∧ (s.haltTake).rail = s.rail ∧ (s.haltTake).audio = s.audio ∧
    (s.haltTake).store = s.store ∧ (s.haltTake).transfer = s.transfer ∧ (s.haltTake).pending = s.pending := by
  simp [State.haltTake]

@[simp] theorem State.stopPlayback_frame (c : EndCause) (s : State) :
    (s.stopPlayback c).now = s.now ∧ (s.stopPlayback c).system = s.system ∧ (s.stopPlayback c).scanner = s.scanner ∧
    (s.stopPlayback c).strokes = s.strokes ∧ (s.stopPlayback c).rail = s.rail ∧
    (s.stopPlayback c).transfer = s.transfer ∧ (s.stopPlayback c).pending = s.pending := by
  simp only [State.stopPlayback]
  (repeat' split) <;> simp

@[simp] theorem State.startSeek_frame (n : Nat) (b : Bool) (s : State) :
    (s.startSeek n b).now = s.now ∧ (s.startSeek n b).system = s.system ∧ (s.startSeek n b).scanner = s.scanner ∧
    (s.startSeek n b).strokes = s.strokes ∧ (s.startSeek n b).pedals = s.pedals ∧
    (s.startSeek n b).router = s.router ∧ (s.startSeek n b).tone = s.tone ∧ (s.startSeek n b).rail = s.rail ∧
    (s.startSeek n b).audio = s.audio ∧ (s.startSeek n b).store = s.store ∧ (s.startSeek n b).transfer = s.transfer ∧
    (s.startSeek n b).panel = s.panel ∧ (s.startSeek n b).pending = s.pending := by
  simp only [State.startSeek]
  (repeat' split) <;> simp

@[simp] theorem State.earlyStrike_frame (n k : Nat) (s : State) :
    (State.earlyStrike n s k).now = s.now ∧ (State.earlyStrike n s k).system = s.system ∧
    (State.earlyStrike n s k).scanner = s.scanner ∧ (State.earlyStrike n s k).strokes = s.strokes ∧
    (State.earlyStrike n s k).pedals = s.pedals ∧ (State.earlyStrike n s k).router = s.router ∧
    (State.earlyStrike n s k).tone = s.tone ∧ (State.earlyStrike n s k).rail = s.rail ∧
    (State.earlyStrike n s k).audio = s.audio ∧ (State.earlyStrike n s k).store = s.store ∧
    (State.earlyStrike n s k).transfer = s.transfer ∧ (State.earlyStrike n s k).linkT = s.linkT ∧
    (State.earlyStrike n s k).linkP = s.linkP ∧ (State.earlyStrike n s k).pending = s.pending := by
  simp only [State.earlyStrike]
  (repeat' split) <;> simp

@[simp] theorem State.leaveWaiting_frame (s : State) :
    (s.leaveWaiting).now = s.now ∧ (s.leaveWaiting).system = s.system ∧ (s.leaveWaiting).scanner = s.scanner ∧
    (s.leaveWaiting).strokes = s.strokes ∧ (s.leaveWaiting).pedals = s.pedals ∧ (s.leaveWaiting).router = s.router ∧
    (s.leaveWaiting).tone = s.tone ∧ (s.leaveWaiting).rail = s.rail ∧ (s.leaveWaiting).audio = s.audio ∧
    (s.leaveWaiting).store = s.store ∧ (s.leaveWaiting).transfer = s.transfer ∧ (s.leaveWaiting).panel = s.panel ∧
    (s.leaveWaiting).pending = s.pending := by
  simp [State.leaveWaiting]

@[simp] theorem State.gather_frame (n : Nat) (s : State) :
    (s.gather n).now = s.now ∧ (s.gather n).system = s.system ∧ (s.gather n).scanner = s.scanner ∧
    (s.gather n).strokes = s.strokes ∧ (s.gather n).pedals = s.pedals ∧ (s.gather n).router = s.router ∧
    (s.gather n).tone = s.tone ∧ (s.gather n).rail = s.rail ∧ (s.gather n).audio = s.audio ∧
    (s.gather n).store = s.store ∧ (s.gather n).transfer = s.transfer ∧ (s.gather n).pending = s.pending := by
  simp only [State.gather]
  (repeat' split) <;> simp

@[simp] theorem State.completeChord_frame (s : State) :
    (s.completeChord).now = s.now ∧ (s.completeChord).system = s.system ∧ (s.completeChord).scanner = s.scanner ∧
    (s.completeChord).strokes = s.strokes ∧ (s.completeChord).pedals = s.pedals ∧
    (s.completeChord).router = s.router ∧ (s.completeChord).tone = s.tone ∧ (s.completeChord).rail = s.rail ∧
    (s.completeChord).audio = s.audio ∧ (s.completeChord).store = s.store ∧ (s.completeChord).transfer = s.transfer ∧
    (s.completeChord).panel = s.panel ∧ (s.completeChord).pending = s.pending := by
  simp [State.completeChord]

@[simp] theorem State.judgeStrike_frame (k : Nat) (m : Time) (s : State) :
    (s.judgeStrike k m).now = s.now ∧ (s.judgeStrike k m).system = s.system ∧
    (s.judgeStrike k m).scanner = s.scanner ∧ (s.judgeStrike k m).strokes = s.strokes ∧
    (s.judgeStrike k m).pedals = s.pedals ∧ (s.judgeStrike k m).router = s.router ∧
    (s.judgeStrike k m).tone = s.tone ∧ (s.judgeStrike k m).rail = s.rail ∧ (s.judgeStrike k m).audio = s.audio ∧
    (s.judgeStrike k m).store = s.store ∧ (s.judgeStrike k m).transfer = s.transfer ∧
    (s.judgeStrike k m).pending = s.pending := by
  simp only [State.judgeStrike]
  (repeat' split) <;> simp

@[simp] theorem State.liveStrike_frame (k v : Nat) (m : Time) (s : State) :
    (s.liveStrike k v m).now = s.now ∧ (s.liveStrike k v m).system = s.system ∧
    (s.liveStrike k v m).scanner = s.scanner ∧ (s.liveStrike k v m).strokes = s.strokes ∧
    (s.liveStrike k v m).pedals = s.pedals ∧ (s.liveStrike k v m).router = s.router ∧
    (s.liveStrike k v m).tone = s.tone ∧ (s.liveStrike k v m).rail = s.rail ∧
    (s.liveStrike k v m).transfer = s.transfer ∧ (s.liveStrike k v m).pending = s.pending := by
  simp only [State.liveStrike]
  (repeat' split) <;> simp

@[simp] theorem State.nextRecord_frame (s : State) :
    (s.nextRecord).now = s.now ∧ (s.nextRecord).system = s.system ∧ (s.nextRecord).scanner = s.scanner ∧
    (s.nextRecord).strokes = s.strokes ∧ (s.nextRecord).pedals = s.pedals ∧ (s.nextRecord).router = s.router ∧
    (s.nextRecord).tone = s.tone ∧ (s.nextRecord).rail = s.rail ∧ (s.nextRecord).audio = s.audio ∧
    (s.nextRecord).store = s.store ∧ (s.nextRecord).transfer = s.transfer ∧ (s.nextRecord).linkT = s.linkT ∧
    (s.nextRecord).linkP = s.linkP ∧ (s.nextRecord).panel = s.panel ∧ (s.nextRecord).pending = s.pending := by
  simp [State.nextRecord]

@[simp] theorem State.deliver_frame (n : Nat) (r : Record) (w : Wait) (s : State) :
    (s.deliver n r w).now = s.now ∧ (s.deliver n r w).system = s.system ∧ (s.deliver n r w).scanner = s.scanner ∧
    (s.deliver n r w).strokes = s.strokes ∧ (s.deliver n r w).rail = s.rail ∧
    (s.deliver n r w).transfer = s.transfer ∧ (s.deliver n r w).pending = s.pending := by
  simp only [State.deliver]
  (repeat' split) <;> simp

@[simp] theorem State.deliverDue_frame (s : State) :
    (s.deliverDue).now = s.now ∧ (s.deliverDue).system = s.system ∧ (s.deliverDue).scanner = s.scanner ∧
    (s.deliverDue).strokes = s.strokes ∧ (s.deliverDue).rail = s.rail ∧ (s.deliverDue).transfer = s.transfer ∧
    (s.deliverDue).pending = s.pending := by
  simp only [State.deliverDue]
  (repeat' split) <;> simp

@[simp] theorem State.continueTake_frame (s : State) :
    (s.continueTake).now = s.now ∧ (s.continueTake).system = s.system ∧ (s.continueTake).scanner = s.scanner ∧
    (s.continueTake).strokes = s.strokes ∧ (s.continueTake).rail = s.rail ∧ (s.continueTake).transfer = s.transfer ∧
    (s.continueTake).pending = s.pending := by
  simp [State.continueTake]

@[simp] theorem State.completeSeek_frame (k : Seek) (s : State) :
    (s.completeSeek k).now = s.now ∧ (s.completeSeek k).system = s.system ∧ (s.completeSeek k).scanner = s.scanner ∧
    (s.completeSeek k).strokes = s.strokes ∧ (s.completeSeek k).rail = s.rail ∧ (s.completeSeek k).transfer = s.transfer ∧
    (s.completeSeek k).pending = s.pending := by
  simp only [State.completeSeek]
  (repeat' split) <;> simp

@[simp] theorem State.endPass_frame (l : Loop) (s : State) :
    (s.endPass l).now = s.now ∧ (s.endPass l).system = s.system ∧ (s.endPass l).scanner = s.scanner ∧
    (s.endPass l).strokes = s.strokes ∧ (s.endPass l).rail = s.rail ∧ (s.endPass l).audio = s.audio ∧
    (s.endPass l).store = s.store ∧ (s.endPass l).transfer = s.transfer ∧ (s.endPass l).pending = s.pending := by
  simp only [State.endPass]
  (repeat' split) <;> simp

@[simp] theorem State.returnToAnchor_frame (l : Loop) (a : Anchor) (s : State) :
    (s.returnToAnchor l a).now = s.now ∧ (s.returnToAnchor l a).system = s.system ∧
    (s.returnToAnchor l a).scanner = s.scanner ∧ (s.returnToAnchor l a).strokes = s.strokes ∧
    (s.returnToAnchor l a).rail = s.rail ∧ (s.returnToAnchor l a).audio = s.audio ∧
    (s.returnToAnchor l a).store = s.store ∧ (s.returnToAnchor l a).transfer = s.transfer ∧
    (s.returnToAnchor l a).pending = s.pending := by
  simp [State.returnToAnchor]

@[simp] theorem State.loopJump_frame (l : Loop) (s : State) :
    (s.loopJump l).now = s.now ∧ (s.loopJump l).system = s.system ∧ (s.loopJump l).scanner = s.scanner ∧
    (s.loopJump l).strokes = s.strokes ∧ (s.loopJump l).rail = s.rail ∧ (s.loopJump l).audio = s.audio ∧
    (s.loopJump l).store = s.store ∧ (s.loopJump l).transfer = s.transfer ∧ (s.loopJump l).pending = s.pending := by
  unfold State.loopJump
  split <;> simp

@[simp] theorem State.recomputeWait_frame (s : State) :
    (s.recomputeWait).now = s.now ∧ (s.recomputeWait).system = s.system ∧ (s.recomputeWait).scanner = s.scanner ∧
    (s.recomputeWait).strokes = s.strokes ∧ (s.recomputeWait).pedals = s.pedals ∧
    (s.recomputeWait).router = s.router ∧ (s.recomputeWait).tone = s.tone ∧ (s.recomputeWait).rail = s.rail ∧
    (s.recomputeWait).audio = s.audio ∧ (s.recomputeWait).store = s.store ∧ (s.recomputeWait).transfer = s.transfer ∧
    (s.recomputeWait).linkT = s.linkT ∧ (s.recomputeWait).linkP = s.linkP ∧ (s.recomputeWait).panel = s.panel ∧
    (s.recomputeWait).pending = s.pending := by
  simp [State.recomputeWait]

end Sys2Proof.Machine
end

