-- ==== Sys2Proof/Laws/ScannerFrames.lean ====
section
/-! SUPPORT. The frames of the shared operations of the Sensor Scanner and the sensing side of the pedals: for each operation, the blocks it
leaves as they were. Later proofs cite these lemmas and do not unfold the operations. -/

namespace Sys2Proof.Machine

open Sys2Proof

@[simp] theorem State.releasePrevious_frame (s : State) :
    (s.releasePrevious).now = s.now ∧ (s.releasePrevious).system = s.system ∧
    (s.releasePrevious).scanner = s.scanner ∧ (s.releasePrevious).pedals = s.pedals ∧
    (s.releasePrevious).router = s.router ∧ (s.releasePrevious).tone = s.tone ∧ (s.releasePrevious).rail = s.rail ∧
    (s.releasePrevious).audio = s.audio ∧ (s.releasePrevious).store = s.store ∧
    (s.releasePrevious).transport = s.transport ∧ (s.releasePrevious).transfer = s.transfer ∧
    (s.releasePrevious).linkT = s.linkT ∧ (s.releasePrevious).linkP = s.linkP ∧ (s.releasePrevious).panel = s.panel ∧
    (s.releasePrevious).pending = s.pending := by
  simp only [State.releasePrevious]
  (repeat' split) <;> simp

@[simp] theorem State.quietReport_frame (a b : KeyState) (s : State) :
    (s.quietReport a b).now = s.now ∧ (s.quietReport a b).system = s.system ∧
    (s.quietReport a b).scanner = s.scanner ∧ (s.quietReport a b).strokes = s.strokes ∧
    (s.quietReport a b).pedals = s.pedals ∧ (s.quietReport a b).router = s.router ∧
    (s.quietReport a b).tone = s.tone ∧ (s.quietReport a b).store = s.store ∧
    (s.quietReport a b).transport = s.transport ∧ (s.quietReport a b).transfer = s.transfer ∧
    (s.quietReport a b).panel = s.panel ∧ (s.quietReport a b).pending = s.pending := by
  simp only [State.quietReport]
  (repeat' split) <;> simp

@[simp] theorem State.enterScanner_frame (x : KeyState) (c : Cause) (k : Nat) (s : State) :
    (s.enterScanner x c k).now = s.now ∧ (s.enterScanner x c k).system = s.system ∧
    (s.enterScanner x c k).pedals = s.pedals ∧ (s.enterScanner x c k).transfer = s.transfer ∧
    (s.enterScanner x c k).pending = s.pending := by
  simp only [State.enterScanner]
  (repeat' split) <;> simp

@[simp] theorem State.enterFault_frame (k : Nat) (s : State) :
    (s.enterFault k).now = s.now ∧ (s.enterFault k).system = s.system ∧ (s.enterFault k).pedals = s.pedals ∧
    (s.enterFault k).transfer = s.transfer ∧ (s.enterFault k).pending = s.pending := by
  simp [State.enterFault]

@[simp] theorem State.watchCollect_frame (w : Watch) (p : WatchPair) (s : State) :
    (s.watchCollect w p).now = s.now ∧ (s.watchCollect w p).system = s.system ∧
    (s.watchCollect w p).strokes = s.strokes ∧ (s.watchCollect w p).pedals = s.pedals ∧
    (s.watchCollect w p).router = s.router ∧ (s.watchCollect w p).tone = s.tone ∧
    (s.watchCollect w p).rail = s.rail ∧ (s.watchCollect w p).audio = s.audio ∧
    (s.watchCollect w p).store = s.store ∧ (s.watchCollect w p).transport = s.transport ∧
    (s.watchCollect w p).transfer = s.transfer ∧ (s.watchCollect w p).linkT = s.linkT ∧
    (s.watchCollect w p).linkP = s.linkP ∧ (s.watchCollect w p).pending = s.pending := by
  simp only [State.watchCollect]
  (repeat' split) <;> simp

@[simp] theorem State.watchSample_frame (k r : Nat) (s : State) :
    (s.watchSample k r).now = s.now ∧ (s.watchSample k r).system = s.system ∧
    (s.watchSample k r).strokes = s.strokes ∧ (s.watchSample k r).pedals = s.pedals ∧
    (s.watchSample k r).router = s.router ∧ (s.watchSample k r).tone = s.tone ∧ (s.watchSample k r).rail = s.rail ∧
    (s.watchSample k r).audio = s.audio ∧ (s.watchSample k r).store = s.store ∧
    (s.watchSample k r).transport = s.transport ∧ (s.watchSample k r).transfer = s.transfer ∧
    (s.watchSample k r).linkT = s.linkT ∧ (s.watchSample k r).linkP = s.linkP ∧
    (s.watchSample k r).pending = s.pending := by
  simp only [State.watchSample]
  (repeat' split) <;> simp

@[simp] theorem State.endCapture_frame (r : CaptureResult) (s : State) :
    (s.endCapture r).now = s.now ∧ (s.endCapture r).system = s.system ∧ (s.endCapture r).strokes = s.strokes ∧
    (s.endCapture r).pedals = s.pedals ∧ (s.endCapture r).router = s.router ∧ (s.endCapture r).tone = s.tone ∧
    (s.endCapture r).rail = s.rail ∧ (s.endCapture r).audio = s.audio ∧ (s.endCapture r).store = s.store ∧
    (s.endCapture r).transport = s.transport ∧ (s.endCapture r).transfer = s.transfer ∧
    (s.endCapture r).panel = s.panel ∧ (s.endCapture r).pending = s.pending := by
  simp [State.endCapture]

@[simp] theorem State.leaveCapture_frame (k : Nat) (s : State) :
    (s.leaveCapture k).now = s.now ∧ (s.leaveCapture k).system = s.system ∧ (s.leaveCapture k).strokes = s.strokes ∧
    (s.leaveCapture k).pedals = s.pedals ∧ (s.leaveCapture k).router = s.router ∧ (s.leaveCapture k).tone = s.tone ∧
    (s.leaveCapture k).rail = s.rail ∧ (s.leaveCapture k).audio = s.audio ∧ (s.leaveCapture k).store = s.store ∧
    (s.leaveCapture k).transport = s.transport ∧ (s.leaveCapture k).transfer = s.transfer ∧
    (s.leaveCapture k).linkT = s.linkT ∧ (s.leaveCapture k).linkP = s.linkP ∧ (s.leaveCapture k).panel = s.panel ∧
    (s.leaveCapture k).pending = s.pending := by
  simp only [State.leaveCapture]
  (repeat' split) <;> simp

@[simp] theorem State.completeTally_frame (t : RestTally) (s : State) :
    (s.completeTally t).now = s.now ∧ (s.completeTally t).system = s.system ∧
    (s.completeTally t).strokes = s.strokes ∧ (s.completeTally t).pedals = s.pedals ∧
    (s.completeTally t).router = s.router ∧ (s.completeTally t).tone = s.tone ∧ (s.completeTally t).rail = s.rail ∧
    (s.completeTally t).audio = s.audio ∧ (s.completeTally t).store = s.store ∧
    (s.completeTally t).transport = s.transport ∧ (s.completeTally t).transfer = s.transfer ∧
    (s.completeTally t).linkT = s.linkT ∧ (s.completeTally t).linkP = s.linkP ∧ (s.completeTally t).panel = s.panel ∧
    (s.completeTally t).pending = s.pending := by
  simp only [State.completeTally]
  (repeat' split) <;> simp

@[simp] theorem State.completeRest_frame (l : List RestTally) (s : State) :
    (s.completeRest l).now = s.now ∧ (s.completeRest l).system = s.system ∧ (s.completeRest l).strokes = s.strokes ∧
    (s.completeRest l).pedals = s.pedals ∧ (s.completeRest l).router = s.router ∧ (s.completeRest l).tone = s.tone ∧
    (s.completeRest l).rail = s.rail ∧ (s.completeRest l).audio = s.audio ∧ (s.completeRest l).store = s.store ∧
    (s.completeRest l).transport = s.transport ∧ (s.completeRest l).transfer = s.transfer ∧
    (s.completeRest l).panel = s.panel ∧ (s.completeRest l).pending = s.pending := by
  simp [State.completeRest]

@[simp] theorem State.completeBottom_frame (k : Nat) (b : Option Farthest) (s : State) :
    (s.completeBottom k b).now = s.now ∧ (s.completeBottom k b).system = s.system ∧
    (s.completeBottom k b).strokes = s.strokes ∧ (s.completeBottom k b).pedals = s.pedals ∧
    (s.completeBottom k b).router = s.router ∧ (s.completeBottom k b).tone = s.tone ∧
    (s.completeBottom k b).rail = s.rail ∧ (s.completeBottom k b).audio = s.audio ∧
    (s.completeBottom k b).store = s.store ∧ (s.completeBottom k b).transport = s.transport ∧
    (s.completeBottom k b).transfer = s.transfer ∧ (s.completeBottom k b).panel = s.panel ∧
    (s.completeBottom k b).pending = s.pending := by
  simp only [State.completeBottom]
  (repeat' split) <;> simp

@[simp] theorem State.abandonCapture_frame (s : State) :
    (s.abandonCapture).now = s.now ∧ (s.abandonCapture).system = s.system ∧ (s.abandonCapture).strokes = s.strokes ∧
    (s.abandonCapture).pedals = s.pedals ∧ (s.abandonCapture).router = s.router ∧ (s.abandonCapture).tone = s.tone ∧
    (s.abandonCapture).rail = s.rail ∧ (s.abandonCapture).audio = s.audio ∧ (s.abandonCapture).store = s.store ∧
    (s.abandonCapture).transport = s.transport ∧ (s.abandonCapture).transfer = s.transfer ∧
    (s.abandonCapture).panel = s.panel ∧ (s.abandonCapture).pending = s.pending := by
  simp only [State.abandonCapture]
  (repeat' split) <;> simp

@[simp] theorem State.dropFromCapture_frame (k : Nat) (s : State) :
    (s.dropFromCapture k).now = s.now ∧ (s.dropFromCapture k).system = s.system ∧
    (s.dropFromCapture k).strokes = s.strokes ∧ (s.dropFromCapture k).pedals = s.pedals ∧
    (s.dropFromCapture k).router = s.router ∧ (s.dropFromCapture k).tone = s.tone ∧
    (s.dropFromCapture k).rail = s.rail ∧ (s.dropFromCapture k).audio = s.audio ∧
    (s.dropFromCapture k).store = s.store ∧ (s.dropFromCapture k).transport = s.transport ∧
    (s.dropFromCapture k).transfer = s.transfer ∧ (s.dropFromCapture k).panel = s.panel ∧
    (s.dropFromCapture k).pending = s.pending := by
  simp only [State.dropFromCapture]
  (repeat' split) <;> simp

@[simp] theorem State.captureSample_frame (k r : Nat) (s : State) :
    (s.captureSample k r).now = s.now ∧ (s.captureSample k r).system = s.system ∧
    (s.captureSample k r).strokes = s.strokes ∧ (s.captureSample k r).pedals = s.pedals ∧
    (s.captureSample k r).router = s.router ∧ (s.captureSample k r).tone = s.tone ∧
    (s.captureSample k r).rail = s.rail ∧ (s.captureSample k r).audio = s.audio ∧
    (s.captureSample k r).store = s.store ∧ (s.captureSample k r).transport = s.transport ∧
    (s.captureSample k r).transfer = s.transfer ∧ (s.captureSample k r).panel = s.panel ∧
    (s.captureSample k r).pending = s.pending := by
  simp only [State.captureSample]
  (repeat' split) <;> simp

@[simp] theorem State.startRest_frame (s : State) :
    (s.startRest).now = s.now ∧ (s.startRest).system = s.system ∧ (s.startRest).pedals = s.pedals ∧
    (s.startRest).transfer = s.transfer ∧ (s.startRest).pending = s.pending := by
  simp [State.startRest]

@[simp] theorem State.startBottom_frame (k : Nat) (s : State) :
    (s.startBottom k).now = s.now ∧ (s.startBottom k).system = s.system ∧ (s.startBottom k).pedals = s.pedals ∧
    (s.startBottom k).transfer = s.transfer ∧ (s.startBottom k).pending = s.pending := by
  simp [State.startBottom]

@[simp] theorem State.glitch_frame (k : Nat) (s : State) :
    (s.glitch k).now = s.now ∧ (s.glitch k).system = s.system ∧ (s.glitch k).pedals = s.pedals ∧
    (s.glitch k).transfer = s.transfer ∧ (s.glitch k).pending = s.pending := by
  simp only [State.glitch]
  (repeat' split) <;> simp

@[simp] theorem State.strikeIntent_frame (k v : Nat) (m : Time) (s : State) :
    (s.strikeIntent k v m).now = s.now ∧ (s.strikeIntent k v m).system = s.system ∧
    (s.strikeIntent k v m).scanner = s.scanner ∧ (s.strikeIntent k v m).strokes = s.strokes ∧
    (s.strikeIntent k v m).pedals = s.pedals ∧ (s.strikeIntent k v m).rail = s.rail ∧
    (s.strikeIntent k v m).transfer = s.transfer ∧ (s.strikeIntent k v m).pending = s.pending := by
  simp [State.strikeIntent]

@[simp] theorem State.releaseIntent_frame (k v : Nat) (m : Time) (s : State) :
    (s.releaseIntent k v m).now = s.now ∧ (s.releaseIntent k v m).system = s.system ∧
    (s.releaseIntent k v m).scanner = s.scanner ∧ (s.releaseIntent k v m).strokes = s.strokes ∧
    (s.releaseIntent k v m).pedals = s.pedals ∧ (s.releaseIntent k v m).rail = s.rail ∧
    (s.releaseIntent k v m).transfer = s.transfer ∧ (s.releaseIntent k v m).pending = s.pending := by
  simp [State.releaseIntent]

@[simp] theorem State.handStroke_frame (k : Nat) (e : StrokeEvent) (s : State) :
    (s.handStroke k e).now = s.now ∧ (s.handStroke k e).system = s.system ∧ (s.handStroke k e).scanner = s.scanner ∧
    (s.handStroke k e).strokes = s.strokes ∧ (s.handStroke k e).pedals = s.pedals ∧
    (s.handStroke k e).rail = s.rail ∧ (s.handStroke k e).transfer = s.transfer ∧
    (s.handStroke k e).pending = s.pending := by
  simp only [State.handStroke]
  (repeat' split) <;> simp

@[simp] theorem State.strokeSample_frame (k r : Nat) (s : State) :
    (s.strokeSample k r).now = s.now ∧ (s.strokeSample k r).system = s.system ∧
    (s.strokeSample k r).pedals = s.pedals ∧ (s.strokeSample k r).transfer = s.transfer ∧
    (s.strokeSample k r).pending = s.pending := by
  simp [State.strokeSample]

@[simp] theorem State.suspendedSample_frame (k r : Nat) (s : State) :
    (s.suspendedSample k r).now = s.now ∧ (s.suspendedSample k r).system = s.system ∧
    (s.suspendedSample k r).strokes = s.strokes ∧ (s.suspendedSample k r).pedals = s.pedals ∧
    (s.suspendedSample k r).router = s.router ∧ (s.suspendedSample k r).tone = s.tone ∧
    (s.suspendedSample k r).rail = s.rail ∧ (s.suspendedSample k r).audio = s.audio ∧
    (s.suspendedSample k r).store = s.store ∧ (s.suspendedSample k r).transport = s.transport ∧
    (s.suspendedSample k r).transfer = s.transfer ∧ (s.suspendedSample k r).linkT = s.linkT ∧
    (s.suspendedSample k r).linkP = s.linkP ∧ (s.suspendedSample k r).panel = s.panel ∧
    (s.suspendedSample k r).pending = s.pending := by
  simp only [State.suspendedSample]
  (repeat' split) <;> simp

@[simp] theorem State.faultSample_frame (k r : Nat) (s : State) :
    (s.faultSample k r).now = s.now ∧ (s.faultSample k r).system = s.system ∧
    (s.faultSample k r).strokes = s.strokes ∧ (s.faultSample k r).pedals = s.pedals ∧
    (s.faultSample k r).router = s.router ∧ (s.faultSample k r).tone = s.tone ∧ (s.faultSample k r).rail = s.rail ∧
    (s.faultSample k r).audio = s.audio ∧ (s.faultSample k r).store = s.store ∧
    (s.faultSample k r).transport = s.transport ∧ (s.faultSample k r).transfer = s.transfer ∧
    (s.faultSample k r).panel = s.panel ∧ (s.faultSample k r).pending = s.pending := by
  simp only [State.faultSample]
  (repeat' split) <;> simp

@[simp] theorem State.judgeSample_frame (k r : Nat) (s : State) :
    (s.judgeSample k r).now = s.now ∧ (s.judgeSample k r).system = s.system ∧ (s.judgeSample k r).pedals = s.pedals ∧
    (s.judgeSample k r).transfer = s.transfer ∧ (s.judgeSample k r).pending = s.pending := by
  simp only [State.judgeSample]
  (repeat' split) <;> simp

@[simp] theorem State.sampleKey_frame (k r : Nat) (s : State) :
    (s.sampleKey k r).now = s.now ∧ (s.sampleKey k r).system = s.system ∧ (s.sampleKey k r).pedals = s.pedals ∧
    (s.sampleKey k r).transfer = s.transfer ∧ (s.sampleKey k r).pending = s.pending := by
  simp [State.sampleKey]

@[simp] theorem State.writeKey_frame (k : Nat) (c : KeyCal) (s : State) :
    (s.writeKey k c).now = s.now ∧ (s.writeKey k c).system = s.system ∧ (s.writeKey k c).pedals = s.pedals ∧
    (s.writeKey k c).transfer = s.transfer ∧ (s.writeKey k c).pending = s.pending := by
  simp only [State.writeKey]
  (repeat' split) <;> simp

@[simp] theorem State.suspendKey_frame (k : Nat) (s : State) :
    (s.suspendKey k).now = s.now ∧ (s.suspendKey k).system = s.system ∧ (s.suspendKey k).pedals = s.pedals ∧
    (s.suspendKey k).transfer = s.transfer ∧ (s.suspendKey k).pending = s.pending := by
  simp only [State.suspendKey]
  (repeat' split) <;> simp

@[simp] theorem State.suspendAll_frame (s : State) :
    (s.suspendAll).now = s.now ∧ (s.suspendAll).system = s.system ∧ (s.suspendAll).pedals = s.pedals ∧
    (s.suspendAll).transfer = s.transfer ∧ (s.suspendAll).pending = s.pending := by
  simp [State.suspendAll]

@[simp] theorem State.setSense_frame (p : PedalId) (x : PedalSense) (s : State) :
    (s.setSense p x).now = s.now ∧ (s.setSense p x).system = s.system ∧ (s.setSense p x).scanner = s.scanner ∧
    (s.setSense p x).strokes = s.strokes ∧ (s.setSense p x).router = s.router ∧ (s.setSense p x).tone = s.tone ∧
    (s.setSense p x).rail = s.rail ∧ (s.setSense p x).audio = s.audio ∧ (s.setSense p x).store = s.store ∧
    (s.setSense p x).transport = s.transport ∧ (s.setSense p x).transfer = s.transfer ∧
    (s.setSense p x).linkT = s.linkT ∧ (s.setSense p x).linkP = s.linkP ∧ (s.setSense p x).panel = s.panel ∧
    (s.setSense p x).pending = s.pending := by
  simp [State.setSense]

@[simp] theorem State.setLive_frame (p : LevelId) (v : Nat) (s : State) :
    (s.setLive p v).now = s.now ∧ (s.setLive p v).system = s.system ∧ (s.setLive p v).scanner = s.scanner ∧
    (s.setLive p v).strokes = s.strokes ∧ (s.setLive p v).rail = s.rail ∧ (s.setLive p v).transfer = s.transfer ∧
    (s.setLive p v).pending = s.pending := by
  simp only [State.setLive]
  (repeat' split) <;> simp

@[simp] theorem State.setLiveSwitch_frame (b : Bool) (s : State) :
    (s.setLiveSwitch b).now = s.now ∧ (s.setLiveSwitch b).system = s.system ∧
    (s.setLiveSwitch b).scanner = s.scanner ∧ (s.setLiveSwitch b).strokes = s.strokes ∧
    (s.setLiveSwitch b).rail = s.rail ∧ (s.setLiveSwitch b).transfer = s.transfer ∧
    (s.setLiveSwitch b).pending = s.pending := by
  simp only [State.setLiveSwitch]
  (repeat' split) <;> simp

@[simp] theorem State.levelDepth_frame (p : LevelId) (d : Nat) (s : State) :
    (s.levelDepth p d).now = s.now ∧ (s.levelDepth p d).system = s.system ∧ (s.levelDepth p d).scanner = s.scanner ∧
    (s.levelDepth p d).strokes = s.strokes ∧ (s.levelDepth p d).rail = s.rail ∧
    (s.levelDepth p d).transfer = s.transfer ∧ (s.levelDepth p d).pending = s.pending := by
  simp only [State.levelDepth]
  (repeat' split) <;> simp

@[simp] theorem State.switchDepth_frame (d : Nat) (s : State) :
    (s.switchDepth d).now = s.now ∧ (s.switchDepth d).system = s.system ∧ (s.switchDepth d).scanner = s.scanner ∧
    (s.switchDepth d).strokes = s.strokes ∧ (s.switchDepth d).rail = s.rail ∧
    (s.switchDepth d).transfer = s.transfer ∧ (s.switchDepth d).pending = s.pending := by
  simp only [State.switchDepth]
  (repeat' split) <;> simp

@[simp] theorem State.pedalDepth_frame (p : PedalId) (d : Nat) (s : State) :
    (s.pedalDepth p d).now = s.now ∧ (s.pedalDepth p d).system = s.system ∧ (s.pedalDepth p d).scanner = s.scanner ∧
    (s.pedalDepth p d).strokes = s.strokes ∧ (s.pedalDepth p d).rail = s.rail ∧
    (s.pedalDepth p d).transfer = s.transfer ∧ (s.pedalDepth p d).pending = s.pending := by
  simp only [State.pedalDepth]
  (repeat' split) <;> simp

@[simp] theorem State.clearLive_frame (p : PedalId) (s : State) :
    (s.clearLive p).now = s.now ∧ (s.clearLive p).system = s.system ∧ (s.clearLive p).scanner = s.scanner ∧
    (s.clearLive p).strokes = s.strokes ∧ (s.clearLive p).rail = s.rail ∧ (s.clearLive p).transfer = s.transfer ∧
    (s.clearLive p).pending = s.pending := by
  simp only [State.clearLive]
  (repeat' split) <;> simp

@[simp] theorem State.activePedal_frame (p : PedalId) (r : Nat) (s : State) :
    (s.activePedal p r).now = s.now ∧ (s.activePedal p r).system = s.system ∧
    (s.activePedal p r).scanner = s.scanner ∧ (s.activePedal p r).strokes = s.strokes ∧
    (s.activePedal p r).rail = s.rail ∧ (s.activePedal p r).transfer = s.transfer ∧
    (s.activePedal p r).pending = s.pending := by
  simp [State.activePedal]

@[simp] theorem State.glitchPedal_frame (p : PedalId) (s : State) :
    (s.glitchPedal p).now = s.now ∧ (s.glitchPedal p).system = s.system ∧ (s.glitchPedal p).scanner = s.scanner ∧
    (s.glitchPedal p).strokes = s.strokes ∧ (s.glitchPedal p).rail = s.rail ∧
    (s.glitchPedal p).transfer = s.transfer ∧ (s.glitchPedal p).pending = s.pending := by
  simp only [State.glitchPedal]
  (repeat' split) <;> simp

@[simp] theorem State.faultPedal_frame (p : PedalId) (r : Nat) (s : State) :
    (s.faultPedal p r).now = s.now ∧ (s.faultPedal p r).system = s.system ∧ (s.faultPedal p r).scanner = s.scanner ∧
    (s.faultPedal p r).strokes = s.strokes ∧ (s.faultPedal p r).rail = s.rail ∧
    (s.faultPedal p r).transfer = s.transfer ∧ (s.faultPedal p r).pending = s.pending := by
  simp only [State.faultPedal]
  (repeat' split) <;> simp

@[simp] theorem State.samplePedal_frame (p : PedalId) (r : Nat) (s : State) :
    (s.samplePedal p r).now = s.now ∧ (s.samplePedal p r).system = s.system ∧
    (s.samplePedal p r).scanner = s.scanner ∧ (s.samplePedal p r).strokes = s.strokes ∧
    (s.samplePedal p r).rail = s.rail ∧ (s.samplePedal p r).transfer = s.transfer ∧
    (s.samplePedal p r).pending = s.pending := by
  simp only [State.samplePedal]
  (repeat' split) <;> simp

@[simp] theorem State.writePedal_frame (p : PedalId) (c : PedalCal) (s : State) :
    (s.writePedal p c).now = s.now ∧ (s.writePedal p c).system = s.system ∧ (s.writePedal p c).scanner = s.scanner ∧
    (s.writePedal p c).strokes = s.strokes ∧ (s.writePedal p c).rail = s.rail ∧
    (s.writePedal p c).transfer = s.transfer ∧ (s.writePedal p c).pending = s.pending := by
  simp only [State.writePedal]
  (repeat' split) <;> simp

end Sys2Proof.Machine
end

