-- ==== Sys2Proof/Laws/RequestFrames.lean ====
section
/-! SUPPORT. The frames of the shared operations of the requests: for each operation, the blocks it
leaves as they were. Later proofs cite these lemmas and do not unfold the operations. -/

namespace Sys2Proof.Machine

open Sys2Proof

@[simp] theorem State.changeLines_frame (l : LineSet) (s : State) :
    (s.changeLines l).now = s.now ∧ (s.changeLines l).system = s.system ∧ (s.changeLines l).pedals = s.pedals ∧
    (s.changeLines l).router = s.router ∧ (s.changeLines l).tone = s.tone ∧ (s.changeLines l).rail = s.rail ∧
    (s.changeLines l).audio = s.audio ∧ (s.changeLines l).store = s.store ∧
    (s.changeLines l).transport = s.transport ∧ (s.changeLines l).transfer = s.transfer ∧
    (s.changeLines l).linkT = s.linkT ∧ (s.changeLines l).linkP = s.linkP ∧ (s.changeLines l).panel = s.panel ∧
    (s.changeLines l).pending = s.pending := by
  simp [State.changeLines]

@[simp] theorem judgeCalWrite_frame (p : List Byte) (s : State) :
    ((judgeCalWrite p s).state s).now = s.now ∧ ((judgeCalWrite p s).state s).system = s.system ∧
    ((judgeCalWrite p s).state s).transfer = s.transfer ∧ ((judgeCalWrite p s).state s).pending = s.pending := by
  simp only [judgeCalWrite]
  (repeat' split) <;> simp

@[simp] theorem judgeCalRead_frame (p : List Byte) (s : State) :
    ((judgeCalRead p s).state s).now = s.now ∧ ((judgeCalRead p s).state s).system = s.system ∧
    ((judgeCalRead p s).state s).scanner = s.scanner ∧ ((judgeCalRead p s).state s).strokes = s.strokes ∧
    ((judgeCalRead p s).state s).pedals = s.pedals ∧ ((judgeCalRead p s).state s).router = s.router ∧
    ((judgeCalRead p s).state s).tone = s.tone ∧ ((judgeCalRead p s).state s).rail = s.rail ∧
    ((judgeCalRead p s).state s).audio = s.audio ∧ ((judgeCalRead p s).state s).store = s.store ∧
    ((judgeCalRead p s).state s).transport = s.transport ∧ ((judgeCalRead p s).state s).transfer = s.transfer ∧
    ((judgeCalRead p s).state s).linkT = s.linkT ∧ ((judgeCalRead p s).state s).linkP = s.linkP ∧
    ((judgeCalRead p s).state s).panel = s.panel ∧ ((judgeCalRead p s).state s).pending = s.pending := by
  simp only [judgeCalRead]
  (repeat' split) <;> simp

@[simp] theorem judgeCalCaptureRest_frame (s : State) :
    ((judgeCalCaptureRest s).state s).now = s.now ∧ ((judgeCalCaptureRest s).state s).system = s.system ∧
    ((judgeCalCaptureRest s).state s).pedals = s.pedals ∧ ((judgeCalCaptureRest s).state s).transfer = s.transfer ∧
    ((judgeCalCaptureRest s).state s).pending = s.pending := by
  simp only [judgeCalCaptureRest]
  (repeat' split) <;> simp

@[simp] theorem judgeCalCaptureBottom_frame (p : List Byte) (s : State) :
    ((judgeCalCaptureBottom p s).state s).now = s.now ∧ ((judgeCalCaptureBottom p s).state s).system = s.system ∧
    ((judgeCalCaptureBottom p s).state s).pedals = s.pedals ∧
    ((judgeCalCaptureBottom p s).state s).transfer = s.transfer ∧
    ((judgeCalCaptureBottom p s).state s).pending = s.pending := by
  simp only [judgeCalCaptureBottom]
  (repeat' split) <;> simp

@[simp] theorem judgeKeyWatch_frame (p : List Byte) (s : State) :
    ((judgeKeyWatch p s).state s).now = s.now ∧ ((judgeKeyWatch p s).state s).system = s.system ∧
    ((judgeKeyWatch p s).state s).strokes = s.strokes ∧ ((judgeKeyWatch p s).state s).pedals = s.pedals ∧
    ((judgeKeyWatch p s).state s).router = s.router ∧ ((judgeKeyWatch p s).state s).tone = s.tone ∧
    ((judgeKeyWatch p s).state s).rail = s.rail ∧ ((judgeKeyWatch p s).state s).audio = s.audio ∧
    ((judgeKeyWatch p s).state s).store = s.store ∧ ((judgeKeyWatch p s).state s).transport = s.transport ∧
    ((judgeKeyWatch p s).state s).transfer = s.transfer ∧ ((judgeKeyWatch p s).state s).linkT = s.linkT ∧
    ((judgeKeyWatch p s).state s).linkP = s.linkP ∧ ((judgeKeyWatch p s).state s).panel = s.panel ∧
    ((judgeKeyWatch p s).state s).pending = s.pending := by
  simp only [judgeKeyWatch]
  (repeat' split) <;> simp

@[simp] theorem judgeKeyReport_frame (p : List Byte) (s : State) :
    ((judgeKeyReport p s).state s).now = s.now ∧ ((judgeKeyReport p s).state s).system = s.system ∧
    ((judgeKeyReport p s).state s).strokes = s.strokes ∧ ((judgeKeyReport p s).state s).pedals = s.pedals ∧
    ((judgeKeyReport p s).state s).router = s.router ∧ ((judgeKeyReport p s).state s).tone = s.tone ∧
    ((judgeKeyReport p s).state s).rail = s.rail ∧ ((judgeKeyReport p s).state s).audio = s.audio ∧
    ((judgeKeyReport p s).state s).store = s.store ∧ ((judgeKeyReport p s).state s).transport = s.transport ∧
    ((judgeKeyReport p s).state s).transfer = s.transfer ∧ ((judgeKeyReport p s).state s).linkT = s.linkT ∧
    ((judgeKeyReport p s).state s).linkP = s.linkP ∧ ((judgeKeyReport p s).state s).panel = s.panel ∧
    ((judgeKeyReport p s).state s).pending = s.pending := by
  simp only [judgeKeyReport]
  (repeat' split) <;> simp

@[simp] theorem judgeKeyLines_frame (p : List Byte) (s : State) :
    ((judgeKeyLines p s).state s).now = s.now ∧ ((judgeKeyLines p s).state s).system = s.system ∧
    ((judgeKeyLines p s).state s).pedals = s.pedals ∧ ((judgeKeyLines p s).state s).router = s.router ∧
    ((judgeKeyLines p s).state s).tone = s.tone ∧ ((judgeKeyLines p s).state s).rail = s.rail ∧
    ((judgeKeyLines p s).state s).audio = s.audio ∧ ((judgeKeyLines p s).state s).store = s.store ∧
    ((judgeKeyLines p s).state s).transport = s.transport ∧ ((judgeKeyLines p s).state s).transfer = s.transfer ∧
    ((judgeKeyLines p s).state s).linkT = s.linkT ∧ ((judgeKeyLines p s).state s).linkP = s.linkP ∧
    ((judgeKeyLines p s).state s).panel = s.panel ∧ ((judgeKeyLines p s).state s).pending = s.pending := by
  simp only [judgeKeyLines]
  (repeat' split) <;> simp

@[simp] theorem judgeCurveWrite_frame (p : List Byte) (s : State) :
    ((judgeCurveWrite p s).state s).now = s.now ∧ ((judgeCurveWrite p s).state s).system = s.system ∧
    ((judgeCurveWrite p s).state s).scanner = s.scanner ∧ ((judgeCurveWrite p s).state s).pedals = s.pedals ∧
    ((judgeCurveWrite p s).state s).router = s.router ∧ ((judgeCurveWrite p s).state s).tone = s.tone ∧
    ((judgeCurveWrite p s).state s).rail = s.rail ∧ ((judgeCurveWrite p s).state s).audio = s.audio ∧
    ((judgeCurveWrite p s).state s).store = s.store ∧ ((judgeCurveWrite p s).state s).transport = s.transport ∧
    ((judgeCurveWrite p s).state s).transfer = s.transfer ∧ ((judgeCurveWrite p s).state s).linkT = s.linkT ∧
    ((judgeCurveWrite p s).state s).linkP = s.linkP ∧ ((judgeCurveWrite p s).state s).panel = s.panel ∧
    ((judgeCurveWrite p s).state s).pending = s.pending := by
  simp only [judgeCurveWrite]
  (repeat' split) <;> simp

@[simp] theorem judgeCurveSelect_frame (p : List Byte) (s : State) :
    ((judgeCurveSelect p s).state s).now = s.now ∧ ((judgeCurveSelect p s).state s).system = s.system ∧
    ((judgeCurveSelect p s).state s).scanner = s.scanner ∧ ((judgeCurveSelect p s).state s).pedals = s.pedals ∧
    ((judgeCurveSelect p s).state s).router = s.router ∧ ((judgeCurveSelect p s).state s).tone = s.tone ∧
    ((judgeCurveSelect p s).state s).rail = s.rail ∧ ((judgeCurveSelect p s).state s).audio = s.audio ∧
    ((judgeCurveSelect p s).state s).store = s.store ∧ ((judgeCurveSelect p s).state s).transport = s.transport ∧
    ((judgeCurveSelect p s).state s).transfer = s.transfer ∧ ((judgeCurveSelect p s).state s).linkT = s.linkT ∧
    ((judgeCurveSelect p s).state s).linkP = s.linkP ∧ ((judgeCurveSelect p s).state s).panel = s.panel ∧
    ((judgeCurveSelect p s).state s).pending = s.pending := by
  simp only [judgeCurveSelect]
  (repeat' split) <;> simp

@[simp] theorem judgeCurveRead_frame (p : List Byte) (s : State) :
    ((judgeCurveRead p s).state s).now = s.now ∧ ((judgeCurveRead p s).state s).system = s.system ∧
    ((judgeCurveRead p s).state s).scanner = s.scanner ∧ ((judgeCurveRead p s).state s).strokes = s.strokes ∧
    ((judgeCurveRead p s).state s).pedals = s.pedals ∧ ((judgeCurveRead p s).state s).router = s.router ∧
    ((judgeCurveRead p s).state s).tone = s.tone ∧ ((judgeCurveRead p s).state s).rail = s.rail ∧
    ((judgeCurveRead p s).state s).audio = s.audio ∧ ((judgeCurveRead p s).state s).store = s.store ∧
    ((judgeCurveRead p s).state s).transport = s.transport ∧ ((judgeCurveRead p s).state s).transfer = s.transfer ∧
    ((judgeCurveRead p s).state s).linkT = s.linkT ∧ ((judgeCurveRead p s).state s).linkP = s.linkP ∧
    ((judgeCurveRead p s).state s).panel = s.panel ∧ ((judgeCurveRead p s).state s).pending = s.pending := by
  simp only [judgeCurveRead]
  (repeat' split) <;> simp

@[simp] theorem judgeStrokeSlowLimit_frame (p : List Byte) (s : State) :
    ((judgeStrokeSlowLimit p s).state s).now = s.now ∧ ((judgeStrokeSlowLimit p s).state s).system = s.system ∧
    ((judgeStrokeSlowLimit p s).state s).scanner = s.scanner ∧
    ((judgeStrokeSlowLimit p s).state s).pedals = s.pedals ∧ ((judgeStrokeSlowLimit p s).state s).router = s.router ∧
    ((judgeStrokeSlowLimit p s).state s).tone = s.tone ∧ ((judgeStrokeSlowLimit p s).state s).rail = s.rail ∧
    ((judgeStrokeSlowLimit p s).state s).audio = s.audio ∧ ((judgeStrokeSlowLimit p s).state s).store = s.store ∧
    ((judgeStrokeSlowLimit p s).state s).transport = s.transport ∧
    ((judgeStrokeSlowLimit p s).state s).transfer = s.transfer ∧
    ((judgeStrokeSlowLimit p s).state s).linkT = s.linkT ∧ ((judgeStrokeSlowLimit p s).state s).linkP = s.linkP ∧
    ((judgeStrokeSlowLimit p s).state s).panel = s.panel ∧ ((judgeStrokeSlowLimit p s).state s).pending = s.pending := by
  simp [judgeStrokeSlowLimit]

@[simp] theorem judgeNoteCopy_frame (p : List Byte) (s : State) :
    ((judgeNoteCopy p s).state s).now = s.now ∧ ((judgeNoteCopy p s).state s).system = s.system ∧
    ((judgeNoteCopy p s).state s).scanner = s.scanner ∧ ((judgeNoteCopy p s).state s).strokes = s.strokes ∧
    ((judgeNoteCopy p s).state s).pedals = s.pedals ∧ ((judgeNoteCopy p s).state s).tone = s.tone ∧
    ((judgeNoteCopy p s).state s).rail = s.rail ∧ ((judgeNoteCopy p s).state s).audio = s.audio ∧
    ((judgeNoteCopy p s).state s).store = s.store ∧ ((judgeNoteCopy p s).state s).transport = s.transport ∧
    ((judgeNoteCopy p s).state s).transfer = s.transfer ∧ ((judgeNoteCopy p s).state s).linkT = s.linkT ∧
    ((judgeNoteCopy p s).state s).linkP = s.linkP ∧ ((judgeNoteCopy p s).state s).panel = s.panel ∧
    ((judgeNoteCopy p s).state s).pending = s.pending := by
  simp only [judgeNoteCopy]
  (repeat' split) <;> simp

@[simp] theorem judgeSoundingReport_frame (p : List Byte) (s : State) :
    ((judgeSoundingReport p s).state s).now = s.now ∧ ((judgeSoundingReport p s).state s).system = s.system ∧
    ((judgeSoundingReport p s).state s).scanner = s.scanner ∧
    ((judgeSoundingReport p s).state s).strokes = s.strokes ∧ ((judgeSoundingReport p s).state s).pedals = s.pedals ∧
    ((judgeSoundingReport p s).state s).tone = s.tone ∧ ((judgeSoundingReport p s).state s).rail = s.rail ∧
    ((judgeSoundingReport p s).state s).audio = s.audio ∧ ((judgeSoundingReport p s).state s).store = s.store ∧
    ((judgeSoundingReport p s).state s).transport = s.transport ∧
    ((judgeSoundingReport p s).state s).transfer = s.transfer ∧ ((judgeSoundingReport p s).state s).linkT = s.linkT ∧
    ((judgeSoundingReport p s).state s).linkP = s.linkP ∧ ((judgeSoundingReport p s).state s).panel = s.panel ∧
    ((judgeSoundingReport p s).state s).pending = s.pending := by
  simp only [judgeSoundingReport]
  (repeat' split) <;> simp

@[simp] theorem judgeAllNotesOff_frame (s : State) :
    ((judgeAllNotesOff s).state s).now = s.now ∧ ((judgeAllNotesOff s).state s).system = s.system ∧
    ((judgeAllNotesOff s).state s).scanner = s.scanner ∧ ((judgeAllNotesOff s).state s).strokes = s.strokes ∧
    ((judgeAllNotesOff s).state s).pedals = s.pedals ∧ ((judgeAllNotesOff s).state s).rail = s.rail ∧
    ((judgeAllNotesOff s).state s).audio = s.audio ∧ ((judgeAllNotesOff s).state s).store = s.store ∧
    ((judgeAllNotesOff s).state s).transport = s.transport ∧ ((judgeAllNotesOff s).state s).transfer = s.transfer ∧
    ((judgeAllNotesOff s).state s).pending = s.pending := by
  simp [judgeAllNotesOff]

@[simp] theorem State.setupTone_frame (m : Option ReadyMode) (t : Option Nat) (c : Bool) (s : State) :
    (s.setupTone m t c).1.now = s.now ∧ (s.setupTone m t c).1.system = s.system ∧
    (s.setupTone m t c).1.scanner = s.scanner ∧ (s.setupTone m t c).1.strokes = s.strokes ∧
    (s.setupTone m t c).1.pedals = s.pedals ∧ (s.setupTone m t c).1.router = s.router ∧
    (s.setupTone m t c).1.rail = s.rail ∧ (s.setupTone m t c).1.audio = s.audio ∧
    (s.setupTone m t c).1.store = s.store ∧ (s.setupTone m t c).1.transport = s.transport ∧
    (s.setupTone m t c).1.transfer = s.transfer ∧ (s.setupTone m t c).1.linkT = s.linkT ∧
    (s.setupTone m t c).1.linkP = s.linkP ∧ (s.setupTone m t c).1.panel = s.panel ∧
    (s.setupTone m t c).1.pending = s.pending := by
  simp [State.setupTone]

@[simp] theorem judgeToneStreamSetup_frame (p : List Byte) (s : State) :
    ((judgeToneStreamSetup p s).state s).now = s.now ∧ ((judgeToneStreamSetup p s).state s).system = s.system ∧
    ((judgeToneStreamSetup p s).state s).scanner = s.scanner ∧
    ((judgeToneStreamSetup p s).state s).strokes = s.strokes ∧
    ((judgeToneStreamSetup p s).state s).pedals = s.pedals ∧ ((judgeToneStreamSetup p s).state s).router = s.router ∧
    ((judgeToneStreamSetup p s).state s).rail = s.rail ∧ ((judgeToneStreamSetup p s).state s).audio = s.audio ∧
    ((judgeToneStreamSetup p s).state s).store = s.store ∧
    ((judgeToneStreamSetup p s).state s).transport = s.transport ∧
    ((judgeToneStreamSetup p s).state s).transfer = s.transfer ∧
    ((judgeToneStreamSetup p s).state s).linkT = s.linkT ∧ ((judgeToneStreamSetup p s).state s).linkP = s.linkP ∧
    ((judgeToneStreamSetup p s).state s).panel = s.panel ∧ ((judgeToneStreamSetup p s).state s).pending = s.pending := by
  simp only [judgeToneStreamSetup, Judged.state_bind]
  (repeat' split) <;> simp

@[simp] theorem judgeFlushTone_frame (s : State) :
    ((judgeFlushTone s).state s).now = s.now ∧ ((judgeFlushTone s).state s).system = s.system ∧
    ((judgeFlushTone s).state s).scanner = s.scanner ∧ ((judgeFlushTone s).state s).strokes = s.strokes ∧
    ((judgeFlushTone s).state s).pedals = s.pedals ∧ ((judgeFlushTone s).state s).rail = s.rail ∧
    ((judgeFlushTone s).state s).audio = s.audio ∧ ((judgeFlushTone s).state s).store = s.store ∧
    ((judgeFlushTone s).state s).transport = s.transport ∧ ((judgeFlushTone s).state s).transfer = s.transfer ∧
    ((judgeFlushTone s).state s).linkT = s.linkT ∧ ((judgeFlushTone s).state s).linkP = s.linkP ∧
    ((judgeFlushTone s).state s).panel = s.panel ∧ ((judgeFlushTone s).state s).pending = s.pending := by
  simp [judgeFlushTone]

@[simp] theorem judgeMove_frame (t : Target) (s : State) :
    ((judgeMove t s).state s).now = s.now ∧ ((judgeMove t s).state s).system = s.system ∧
    ((judgeMove t s).state s).scanner = s.scanner ∧ ((judgeMove t s).state s).strokes = s.strokes ∧
    ((judgeMove t s).state s).pedals = s.pedals ∧ ((judgeMove t s).state s).router = s.router ∧
    ((judgeMove t s).state s).tone = s.tone ∧ ((judgeMove t s).state s).store = s.store ∧
    ((judgeMove t s).state s).transport = s.transport ∧ ((judgeMove t s).state s).transfer = s.transfer ∧
    ((judgeMove t s).state s).panel = s.panel ∧ ((judgeMove t s).state s).pending = s.pending := by
  simp [judgeMove]

@[simp] theorem judgeRailEngage_frame (s : State) :
    ((judgeRailEngage s).state s).now = s.now ∧ ((judgeRailEngage s).state s).system = s.system ∧
    ((judgeRailEngage s).state s).scanner = s.scanner ∧ ((judgeRailEngage s).state s).strokes = s.strokes ∧
    ((judgeRailEngage s).state s).pedals = s.pedals ∧ ((judgeRailEngage s).state s).router = s.router ∧
    ((judgeRailEngage s).state s).tone = s.tone ∧ ((judgeRailEngage s).state s).store = s.store ∧
    ((judgeRailEngage s).state s).transport = s.transport ∧ ((judgeRailEngage s).state s).transfer = s.transfer ∧
    ((judgeRailEngage s).state s).panel = s.panel ∧ ((judgeRailEngage s).state s).pending = s.pending := by
  simp [judgeRailEngage]

@[simp] theorem judgeRailRetract_frame (s : State) :
    ((judgeRailRetract s).state s).now = s.now ∧ ((judgeRailRetract s).state s).system = s.system ∧
    ((judgeRailRetract s).state s).scanner = s.scanner ∧ ((judgeRailRetract s).state s).strokes = s.strokes ∧
    ((judgeRailRetract s).state s).pedals = s.pedals ∧ ((judgeRailRetract s).state s).router = s.router ∧
    ((judgeRailRetract s).state s).tone = s.tone ∧ ((judgeRailRetract s).state s).store = s.store ∧
    ((judgeRailRetract s).state s).transport = s.transport ∧ ((judgeRailRetract s).state s).transfer = s.transfer ∧
    ((judgeRailRetract s).state s).panel = s.panel ∧ ((judgeRailRetract s).state s).pending = s.pending := by
  simp [judgeRailRetract]

@[simp] theorem judgeRailStatus_frame (p : List Byte) (s : State) :
    ((judgeRailStatus p s).state s).now = s.now ∧ ((judgeRailStatus p s).state s).system = s.system ∧
    ((judgeRailStatus p s).state s).scanner = s.scanner ∧ ((judgeRailStatus p s).state s).strokes = s.strokes ∧
    ((judgeRailStatus p s).state s).pedals = s.pedals ∧ ((judgeRailStatus p s).state s).router = s.router ∧
    ((judgeRailStatus p s).state s).tone = s.tone ∧ ((judgeRailStatus p s).state s).audio = s.audio ∧
    ((judgeRailStatus p s).state s).store = s.store ∧ ((judgeRailStatus p s).state s).transport = s.transport ∧
    ((judgeRailStatus p s).state s).transfer = s.transfer ∧ ((judgeRailStatus p s).state s).linkT = s.linkT ∧
    ((judgeRailStatus p s).state s).linkP = s.linkP ∧ ((judgeRailStatus p s).state s).panel = s.panel ∧
    ((judgeRailStatus p s).state s).pending = s.pending := by
  simp only [judgeRailStatus]
  (repeat' split) <;> simp

@[simp] theorem judgeRailAck_frame (s : State) :
    ((judgeRailAck s).state s).now = s.now ∧ ((judgeRailAck s).state s).system = s.system ∧
    ((judgeRailAck s).state s).scanner = s.scanner ∧ ((judgeRailAck s).state s).strokes = s.strokes ∧
    ((judgeRailAck s).state s).pedals = s.pedals ∧ ((judgeRailAck s).state s).router = s.router ∧
    ((judgeRailAck s).state s).tone = s.tone ∧ ((judgeRailAck s).state s).store = s.store ∧
    ((judgeRailAck s).state s).transport = s.transport ∧ ((judgeRailAck s).state s).transfer = s.transfer ∧
    ((judgeRailAck s).state s).linkT = s.linkT ∧ ((judgeRailAck s).state s).linkP = s.linkP ∧
    ((judgeRailAck s).state s).panel = s.panel ∧ ((judgeRailAck s).state s).pending = s.pending := by
  simp only [judgeRailAck]
  (repeat' split) <;> simp

@[simp] theorem judgeRailClearDisturbed_frame (s : State) :
    ((judgeRailClearDisturbed s).state s).now = s.now ∧ ((judgeRailClearDisturbed s).state s).system = s.system ∧
    ((judgeRailClearDisturbed s).state s).scanner = s.scanner ∧
    ((judgeRailClearDisturbed s).state s).strokes = s.strokes ∧
    ((judgeRailClearDisturbed s).state s).pedals = s.pedals ∧
    ((judgeRailClearDisturbed s).state s).router = s.router ∧ ((judgeRailClearDisturbed s).state s).tone = s.tone ∧
    ((judgeRailClearDisturbed s).state s).audio = s.audio ∧ ((judgeRailClearDisturbed s).state s).store = s.store ∧
    ((judgeRailClearDisturbed s).state s).transport = s.transport ∧
    ((judgeRailClearDisturbed s).state s).transfer = s.transfer ∧
    ((judgeRailClearDisturbed s).state s).linkT = s.linkT ∧ ((judgeRailClearDisturbed s).state s).linkP = s.linkP ∧
    ((judgeRailClearDisturbed s).state s).panel = s.panel ∧ ((judgeRailClearDisturbed s).state s).pending = s.pending := by
  simp [judgeRailClearDisturbed]

@[simp] theorem judgeRailProfile_frame (p : List Byte) (s : State) :
    ((judgeRailProfile p s).state s).now = s.now ∧ ((judgeRailProfile p s).state s).system = s.system ∧
    ((judgeRailProfile p s).state s).scanner = s.scanner ∧ ((judgeRailProfile p s).state s).strokes = s.strokes ∧
    ((judgeRailProfile p s).state s).pedals = s.pedals ∧ ((judgeRailProfile p s).state s).router = s.router ∧
    ((judgeRailProfile p s).state s).tone = s.tone ∧ ((judgeRailProfile p s).state s).audio = s.audio ∧
    ((judgeRailProfile p s).state s).store = s.store ∧ ((judgeRailProfile p s).state s).transport = s.transport ∧
    ((judgeRailProfile p s).state s).transfer = s.transfer ∧ ((judgeRailProfile p s).state s).linkT = s.linkT ∧
    ((judgeRailProfile p s).state s).linkP = s.linkP ∧ ((judgeRailProfile p s).state s).panel = s.panel ∧
    ((judgeRailProfile p s).state s).pending = s.pending := by
  simp only [judgeRailProfile, Judged.state_bind]
  (repeat' split) <;> simp

@[simp] theorem judgeAudioSetup_frame (p : List Byte) (s : State) :
    ((judgeAudioSetup p s).state s).now = s.now ∧ ((judgeAudioSetup p s).state s).system = s.system ∧
    ((judgeAudioSetup p s).state s).scanner = s.scanner ∧ ((judgeAudioSetup p s).state s).strokes = s.strokes ∧
    ((judgeAudioSetup p s).state s).pedals = s.pedals ∧ ((judgeAudioSetup p s).state s).router = s.router ∧
    ((judgeAudioSetup p s).state s).tone = s.tone ∧ ((judgeAudioSetup p s).state s).rail = s.rail ∧
    ((judgeAudioSetup p s).state s).store = s.store ∧ ((judgeAudioSetup p s).state s).transport = s.transport ∧
    ((judgeAudioSetup p s).state s).transfer = s.transfer ∧ ((judgeAudioSetup p s).state s).linkT = s.linkT ∧
    ((judgeAudioSetup p s).state s).linkP = s.linkP ∧ ((judgeAudioSetup p s).state s).panel = s.panel ∧
    ((judgeAudioSetup p s).state s).pending = s.pending := by
  simp only [judgeAudioSetup, Judged.state_bind]
  (repeat' split) <;> simp

@[simp] theorem judgeAudioMute_frame (p : List Byte) (s : State) :
    ((judgeAudioMute p s).state s).now = s.now ∧ ((judgeAudioMute p s).state s).system = s.system ∧
    ((judgeAudioMute p s).state s).scanner = s.scanner ∧ ((judgeAudioMute p s).state s).strokes = s.strokes ∧
    ((judgeAudioMute p s).state s).pedals = s.pedals ∧ ((judgeAudioMute p s).state s).router = s.router ∧
    ((judgeAudioMute p s).state s).tone = s.tone ∧ ((judgeAudioMute p s).state s).rail = s.rail ∧
    ((judgeAudioMute p s).state s).store = s.store ∧ ((judgeAudioMute p s).state s).transport = s.transport ∧
    ((judgeAudioMute p s).state s).transfer = s.transfer ∧ ((judgeAudioMute p s).state s).linkT = s.linkT ∧
    ((judgeAudioMute p s).state s).linkP = s.linkP ∧ ((judgeAudioMute p s).state s).panel = s.panel ∧
    ((judgeAudioMute p s).state s).pending = s.pending := by
  simp only [judgeAudioMute]
  (repeat' split) <;> simp

@[simp] theorem setMetro_frame (a b c : Option Nat) (d : Option Bool) (s : State) :
    ((setMetro a b c d s).state s).now = s.now ∧ ((setMetro a b c d s).state s).system = s.system ∧
    ((setMetro a b c d s).state s).scanner = s.scanner ∧ ((setMetro a b c d s).state s).strokes = s.strokes ∧
    ((setMetro a b c d s).state s).pedals = s.pedals ∧ ((setMetro a b c d s).state s).router = s.router ∧
    ((setMetro a b c d s).state s).tone = s.tone ∧ ((setMetro a b c d s).state s).rail = s.rail ∧
    ((setMetro a b c d s).state s).store = s.store ∧ ((setMetro a b c d s).state s).transport = s.transport ∧
    ((setMetro a b c d s).state s).transfer = s.transfer ∧ ((setMetro a b c d s).state s).linkT = s.linkT ∧
    ((setMetro a b c d s).state s).linkP = s.linkP ∧ ((setMetro a b c d s).state s).panel = s.panel ∧
    ((setMetro a b c d s).state s).pending = s.pending := by
  simp only [setMetro]
  (repeat' split) <;> simp

@[simp] theorem judgeMetroSet_frame (p : List Byte) (s : State) :
    ((judgeMetroSet p s).state s).now = s.now ∧ ((judgeMetroSet p s).state s).system = s.system ∧
    ((judgeMetroSet p s).state s).scanner = s.scanner ∧ ((judgeMetroSet p s).state s).strokes = s.strokes ∧
    ((judgeMetroSet p s).state s).pedals = s.pedals ∧ ((judgeMetroSet p s).state s).router = s.router ∧
    ((judgeMetroSet p s).state s).tone = s.tone ∧ ((judgeMetroSet p s).state s).rail = s.rail ∧
    ((judgeMetroSet p s).state s).store = s.store ∧ ((judgeMetroSet p s).state s).transport = s.transport ∧
    ((judgeMetroSet p s).state s).transfer = s.transfer ∧ ((judgeMetroSet p s).state s).linkT = s.linkT ∧
    ((judgeMetroSet p s).state s).linkP = s.linkP ∧ ((judgeMetroSet p s).state s).panel = s.panel ∧
    ((judgeMetroSet p s).state s).pending = s.pending := by
  simp only [judgeMetroSet, Judged.state_bind]
  (repeat' split) <;> simp

@[simp] theorem judgeMetroRun_frame (p : List Byte) (s : State) :
    ((judgeMetroRun p s).state s).now = s.now ∧ ((judgeMetroRun p s).state s).system = s.system ∧
    ((judgeMetroRun p s).state s).scanner = s.scanner ∧ ((judgeMetroRun p s).state s).strokes = s.strokes ∧
    ((judgeMetroRun p s).state s).pedals = s.pedals ∧ ((judgeMetroRun p s).state s).router = s.router ∧
    ((judgeMetroRun p s).state s).tone = s.tone ∧ ((judgeMetroRun p s).state s).rail = s.rail ∧
    ((judgeMetroRun p s).state s).store = s.store ∧ ((judgeMetroRun p s).state s).transport = s.transport ∧
    ((judgeMetroRun p s).state s).transfer = s.transfer ∧ ((judgeMetroRun p s).state s).linkT = s.linkT ∧
    ((judgeMetroRun p s).state s).linkP = s.linkP ∧ ((judgeMetroRun p s).state s).pending = s.pending := by
  simp only [judgeMetroRun]
  (repeat' split) <;> simp

@[simp] theorem judgeAudioReport_frame (p : List Byte) (s : State) :
    ((judgeAudioReport p s).state s).now = s.now ∧ ((judgeAudioReport p s).state s).system = s.system ∧
    ((judgeAudioReport p s).state s).scanner = s.scanner ∧ ((judgeAudioReport p s).state s).strokes = s.strokes ∧
    ((judgeAudioReport p s).state s).pedals = s.pedals ∧ ((judgeAudioReport p s).state s).router = s.router ∧
    ((judgeAudioReport p s).state s).tone = s.tone ∧ ((judgeAudioReport p s).state s).rail = s.rail ∧
    ((judgeAudioReport p s).state s).store = s.store ∧ ((judgeAudioReport p s).state s).transport = s.transport ∧
    ((judgeAudioReport p s).state s).transfer = s.transfer ∧ ((judgeAudioReport p s).state s).linkT = s.linkT ∧
    ((judgeAudioReport p s).state s).linkP = s.linkP ∧ ((judgeAudioReport p s).state s).panel = s.panel ∧
    ((judgeAudioReport p s).state s).pending = s.pending := by
  simp only [judgeAudioReport]
  (repeat' split) <;> simp

@[simp] theorem judgeTakeList_frame (p : List Byte) (s : State) :
    ((judgeTakeList p s).state s).now = s.now ∧ ((judgeTakeList p s).state s).system = s.system ∧
    ((judgeTakeList p s).state s).scanner = s.scanner ∧ ((judgeTakeList p s).state s).strokes = s.strokes ∧
    ((judgeTakeList p s).state s).pedals = s.pedals ∧ ((judgeTakeList p s).state s).router = s.router ∧
    ((judgeTakeList p s).state s).tone = s.tone ∧ ((judgeTakeList p s).state s).rail = s.rail ∧
    ((judgeTakeList p s).state s).audio = s.audio ∧ ((judgeTakeList p s).state s).store = s.store ∧
    ((judgeTakeList p s).state s).transport = s.transport ∧ ((judgeTakeList p s).state s).transfer = s.transfer ∧
    ((judgeTakeList p s).state s).linkT = s.linkT ∧ ((judgeTakeList p s).state s).linkP = s.linkP ∧
    ((judgeTakeList p s).state s).panel = s.panel ∧ ((judgeTakeList p s).state s).pending = s.pending := by
  simp only [judgeTakeList]
  (repeat' split) <;> simp

@[simp] theorem judgeTakeDelete_frame (p : List Byte) (s : State) :
    ((judgeTakeDelete p s).state s).now = s.now ∧ ((judgeTakeDelete p s).state s).system = s.system ∧
    ((judgeTakeDelete p s).state s).scanner = s.scanner ∧ ((judgeTakeDelete p s).state s).strokes = s.strokes ∧
    ((judgeTakeDelete p s).state s).pedals = s.pedals ∧ ((judgeTakeDelete p s).state s).router = s.router ∧
    ((judgeTakeDelete p s).state s).tone = s.tone ∧ ((judgeTakeDelete p s).state s).rail = s.rail ∧
    ((judgeTakeDelete p s).state s).audio = s.audio ∧ ((judgeTakeDelete p s).state s).transport = s.transport ∧
    ((judgeTakeDelete p s).state s).transfer = s.transfer ∧ ((judgeTakeDelete p s).state s).linkT = s.linkT ∧
    ((judgeTakeDelete p s).state s).linkP = s.linkP ∧ ((judgeTakeDelete p s).state s).panel = s.panel ∧
    ((judgeTakeDelete p s).state s).pending = s.pending := by
  simp only [judgeTakeDelete]
  (repeat' split) <;> simp

@[simp] theorem judgeTakeName_frame (p : List Byte) (s : State) :
    ((judgeTakeName p s).state s).now = s.now ∧ ((judgeTakeName p s).state s).system = s.system ∧
    ((judgeTakeName p s).state s).scanner = s.scanner ∧ ((judgeTakeName p s).state s).strokes = s.strokes ∧
    ((judgeTakeName p s).state s).pedals = s.pedals ∧ ((judgeTakeName p s).state s).router = s.router ∧
    ((judgeTakeName p s).state s).tone = s.tone ∧ ((judgeTakeName p s).state s).rail = s.rail ∧
    ((judgeTakeName p s).state s).audio = s.audio ∧ ((judgeTakeName p s).state s).transport = s.transport ∧
    ((judgeTakeName p s).state s).transfer = s.transfer ∧ ((judgeTakeName p s).state s).linkT = s.linkT ∧
    ((judgeTakeName p s).state s).linkP = s.linkP ∧ ((judgeTakeName p s).state s).panel = s.panel ∧
    ((judgeTakeName p s).state s).pending = s.pending := by
  simp only [judgeTakeName]
  (repeat' split) <;> simp

@[simp] theorem judgeMemoryReport_frame (s : State) :
    ((judgeMemoryReport s).state s).now = s.now ∧ ((judgeMemoryReport s).state s).system = s.system ∧
    ((judgeMemoryReport s).state s).scanner = s.scanner ∧ ((judgeMemoryReport s).state s).strokes = s.strokes ∧
    ((judgeMemoryReport s).state s).pedals = s.pedals ∧ ((judgeMemoryReport s).state s).router = s.router ∧
    ((judgeMemoryReport s).state s).tone = s.tone ∧ ((judgeMemoryReport s).state s).rail = s.rail ∧
    ((judgeMemoryReport s).state s).audio = s.audio ∧ ((judgeMemoryReport s).state s).store = s.store ∧
    ((judgeMemoryReport s).state s).transport = s.transport ∧ ((judgeMemoryReport s).state s).transfer = s.transfer ∧
    ((judgeMemoryReport s).state s).linkT = s.linkT ∧ ((judgeMemoryReport s).state s).linkP = s.linkP ∧
    ((judgeMemoryReport s).state s).panel = s.panel ∧ ((judgeMemoryReport s).state s).pending = s.pending := by
  simp [judgeMemoryReport]

@[simp] theorem State.beginRecording_frame (n : Nat) (a : ArmMode) (c : Bool) (s : State) :
    (s.beginRecording n a c).now = s.now ∧ (s.beginRecording n a c).system = s.system ∧
    (s.beginRecording n a c).scanner = s.scanner ∧ (s.beginRecording n a c).strokes = s.strokes ∧
    (s.beginRecording n a c).pedals = s.pedals ∧ (s.beginRecording n a c).router = s.router ∧
    (s.beginRecording n a c).tone = s.tone ∧ (s.beginRecording n a c).rail = s.rail ∧
    (s.beginRecording n a c).transfer = s.transfer ∧ (s.beginRecording n a c).pending = s.pending := by
  simp only [State.beginRecording]
  (repeat' split) <;> simp

@[simp] theorem takeRecordWith_frame (n k : Nat) (a : ArmMode) (c : Bool) (s : State) :
    ((takeRecordWith n k a c s).state s).now = s.now ∧ ((takeRecordWith n k a c s).state s).system = s.system ∧
    ((takeRecordWith n k a c s).state s).scanner = s.scanner ∧
    ((takeRecordWith n k a c s).state s).strokes = s.strokes ∧
    ((takeRecordWith n k a c s).state s).pedals = s.pedals ∧ ((takeRecordWith n k a c s).state s).router = s.router ∧
    ((takeRecordWith n k a c s).state s).tone = s.tone ∧ ((takeRecordWith n k a c s).state s).rail = s.rail ∧
    ((takeRecordWith n k a c s).state s).transfer = s.transfer ∧
    ((takeRecordWith n k a c s).state s).pending = s.pending := by
  simp only [takeRecordWith]
  (repeat' split) <;> simp

@[simp] theorem judgeTakeRecord_frame (p : List Byte) (s : State) :
    ((judgeTakeRecord p s).state s).now = s.now ∧ ((judgeTakeRecord p s).state s).system = s.system ∧
    ((judgeTakeRecord p s).state s).scanner = s.scanner ∧ ((judgeTakeRecord p s).state s).strokes = s.strokes ∧
    ((judgeTakeRecord p s).state s).pedals = s.pedals ∧ ((judgeTakeRecord p s).state s).router = s.router ∧
    ((judgeTakeRecord p s).state s).tone = s.tone ∧ ((judgeTakeRecord p s).state s).rail = s.rail ∧
    ((judgeTakeRecord p s).state s).transfer = s.transfer ∧ ((judgeTakeRecord p s).state s).pending = s.pending := by
  simp only [judgeTakeRecord]
  (repeat' split) <;> simp

@[simp] theorem State.beginPlayback_frame (n m v : Nat) (q : Parts) (w c : Bool) (s : State) :
    (s.beginPlayback n m v q w c).now = s.now ∧ (s.beginPlayback n m v q w c).system = s.system ∧
    (s.beginPlayback n m v q w c).scanner = s.scanner ∧ (s.beginPlayback n m v q w c).strokes = s.strokes ∧
    (s.beginPlayback n m v q w c).pedals = s.pedals ∧ (s.beginPlayback n m v q w c).router = s.router ∧
    (s.beginPlayback n m v q w c).tone = s.tone ∧ (s.beginPlayback n m v q w c).rail = s.rail ∧
    (s.beginPlayback n m v q w c).transfer = s.transfer ∧ (s.beginPlayback n m v q w c).pending = s.pending := by
  simp only [State.beginPlayback]
  (repeat' split) <;> simp

@[simp] theorem takePlayWith_frame (n m v : Nat) (q : Parts) (w c : Bool) (s : State) :
    ((takePlayWith n m v q w c s).state s).now = s.now ∧ ((takePlayWith n m v q w c s).state s).system = s.system ∧
    ((takePlayWith n m v q w c s).state s).scanner = s.scanner ∧
    ((takePlayWith n m v q w c s).state s).strokes = s.strokes ∧
    ((takePlayWith n m v q w c s).state s).pedals = s.pedals ∧
    ((takePlayWith n m v q w c s).state s).router = s.router ∧ ((takePlayWith n m v q w c s).state s).tone = s.tone ∧
    ((takePlayWith n m v q w c s).state s).rail = s.rail ∧
    ((takePlayWith n m v q w c s).state s).transfer = s.transfer ∧
    ((takePlayWith n m v q w c s).state s).pending = s.pending := by
  simp only [takePlayWith]
  (repeat' split) <;> simp

@[simp] theorem judgeTakePlay_frame (p : List Byte) (s : State) :
    ((judgeTakePlay p s).state s).now = s.now ∧ ((judgeTakePlay p s).state s).system = s.system ∧
    ((judgeTakePlay p s).state s).scanner = s.scanner ∧ ((judgeTakePlay p s).state s).strokes = s.strokes ∧
    ((judgeTakePlay p s).state s).pedals = s.pedals ∧ ((judgeTakePlay p s).state s).router = s.router ∧
    ((judgeTakePlay p s).state s).tone = s.tone ∧ ((judgeTakePlay p s).state s).rail = s.rail ∧
    ((judgeTakePlay p s).state s).transfer = s.transfer ∧ ((judgeTakePlay p s).state s).pending = s.pending := by
  simp only [judgeTakePlay, Judged.state_bind]
  (repeat' split) <;> simp

@[simp] theorem judgeTakeStop_frame (s : State) :
    ((judgeTakeStop s).state s).now = s.now ∧ ((judgeTakeStop s).state s).system = s.system ∧
    ((judgeTakeStop s).state s).scanner = s.scanner ∧ ((judgeTakeStop s).state s).strokes = s.strokes ∧
    ((judgeTakeStop s).state s).rail = s.rail ∧ ((judgeTakeStop s).state s).transfer = s.transfer ∧
    ((judgeTakeStop s).state s).pending = s.pending := by
  simp only [judgeTakeStop]
  (repeat' split) <;> simp

@[simp] theorem State.pauseTake_frame (s : State) :
    (s.pauseTake).now = s.now ∧ (s.pauseTake).system = s.system ∧ (s.pauseTake).scanner = s.scanner ∧
    (s.pauseTake).strokes = s.strokes ∧ (s.pauseTake).rail = s.rail ∧ (s.pauseTake).audio = s.audio ∧
    (s.pauseTake).store = s.store ∧ (s.pauseTake).transfer = s.transfer ∧ (s.pauseTake).pending = s.pending := by
  simp [State.pauseTake]

@[simp] theorem State.setPausePending_frame (b : Bool) (s : State) :
    (s.setPausePending b).now = s.now ∧ (s.setPausePending b).system = s.system ∧
    (s.setPausePending b).scanner = s.scanner ∧ (s.setPausePending b).strokes = s.strokes ∧
    (s.setPausePending b).pedals = s.pedals ∧ (s.setPausePending b).router = s.router ∧
    (s.setPausePending b).tone = s.tone ∧ (s.setPausePending b).rail = s.rail ∧
    (s.setPausePending b).audio = s.audio ∧ (s.setPausePending b).store = s.store ∧
    (s.setPausePending b).transfer = s.transfer ∧ (s.setPausePending b).linkT = s.linkT ∧
    (s.setPausePending b).linkP = s.linkP ∧ (s.setPausePending b).panel = s.panel ∧
    (s.setPausePending b).pending = s.pending := by
  simp [State.setPausePending]

@[simp] theorem judgeTakePause_frame (s : State) :
    ((judgeTakePause s).state s).now = s.now ∧ ((judgeTakePause s).state s).system = s.system ∧
    ((judgeTakePause s).state s).scanner = s.scanner ∧ ((judgeTakePause s).state s).strokes = s.strokes ∧
    ((judgeTakePause s).state s).rail = s.rail ∧ ((judgeTakePause s).state s).audio = s.audio ∧
    ((judgeTakePause s).state s).store = s.store ∧ ((judgeTakePause s).state s).transfer = s.transfer ∧
    ((judgeTakePause s).state s).pending = s.pending := by
  simp only [judgeTakePause]
  (repeat' split) <;> simp

@[simp] theorem judgeTakeResume_frame (s : State) :
    ((judgeTakeResume s).state s).now = s.now ∧ ((judgeTakeResume s).state s).system = s.system ∧
    ((judgeTakeResume s).state s).scanner = s.scanner ∧ ((judgeTakeResume s).state s).strokes = s.strokes ∧
    ((judgeTakeResume s).state s).rail = s.rail ∧ ((judgeTakeResume s).state s).transfer = s.transfer ∧
    ((judgeTakeResume s).state s).pending = s.pending := by
  simp only [judgeTakeResume]
  (repeat' split) <;> simp

@[simp] theorem judgeTakeSpeed_frame (p : List Byte) (s : State) :
    ((judgeTakeSpeed p s).state s).now = s.now ∧ ((judgeTakeSpeed p s).state s).system = s.system ∧
    ((judgeTakeSpeed p s).state s).scanner = s.scanner ∧ ((judgeTakeSpeed p s).state s).strokes = s.strokes ∧
    ((judgeTakeSpeed p s).state s).pedals = s.pedals ∧ ((judgeTakeSpeed p s).state s).router = s.router ∧
    ((judgeTakeSpeed p s).state s).tone = s.tone ∧ ((judgeTakeSpeed p s).state s).rail = s.rail ∧
    ((judgeTakeSpeed p s).state s).store = s.store ∧ ((judgeTakeSpeed p s).state s).transfer = s.transfer ∧
    ((judgeTakeSpeed p s).state s).linkT = s.linkT ∧ ((judgeTakeSpeed p s).state s).linkP = s.linkP ∧
    ((judgeTakeSpeed p s).state s).pending = s.pending := by
  simp only [judgeTakeSpeed]
  (repeat' split) <;> simp

@[simp] theorem State.seekTake_frame (n : Nat) (s : State) :
    (s.seekTake n).now = s.now ∧ (s.seekTake n).system = s.system ∧ (s.seekTake n).scanner = s.scanner ∧
    (s.seekTake n).strokes = s.strokes ∧ (s.seekTake n).rail = s.rail ∧ (s.seekTake n).audio = s.audio ∧
    (s.seekTake n).store = s.store ∧ (s.seekTake n).transfer = s.transfer ∧ (s.seekTake n).pending = s.pending := by
  simp only [State.seekTake]
  (repeat' split) <;> simp

@[simp] theorem judgeTakeSeek_frame (p : List Byte) (s : State) :
    ((judgeTakeSeek p s).state s).now = s.now ∧ ((judgeTakeSeek p s).state s).system = s.system ∧
    ((judgeTakeSeek p s).state s).scanner = s.scanner ∧ ((judgeTakeSeek p s).state s).strokes = s.strokes ∧
    ((judgeTakeSeek p s).state s).rail = s.rail ∧ ((judgeTakeSeek p s).state s).audio = s.audio ∧
    ((judgeTakeSeek p s).state s).store = s.store ∧ ((judgeTakeSeek p s).state s).transfer = s.transfer ∧
    ((judgeTakeSeek p s).state s).pending = s.pending := by
  simp only [judgeTakeSeek]
  (repeat' split) <;> simp

@[simp] theorem State.setLoop_frame (a b n : Nat) (s : State) :
    (s.setLoop a b n).now = s.now ∧ (s.setLoop a b n).system = s.system ∧ (s.setLoop a b n).scanner = s.scanner ∧
    (s.setLoop a b n).strokes = s.strokes ∧ (s.setLoop a b n).pedals = s.pedals ∧
    (s.setLoop a b n).router = s.router ∧ (s.setLoop a b n).tone = s.tone ∧ (s.setLoop a b n).rail = s.rail ∧
    (s.setLoop a b n).audio = s.audio ∧ (s.setLoop a b n).store = s.store ∧ (s.setLoop a b n).transfer = s.transfer ∧
    (s.setLoop a b n).linkT = s.linkT ∧ (s.setLoop a b n).linkP = s.linkP ∧ (s.setLoop a b n).panel = s.panel ∧
    (s.setLoop a b n).pending = s.pending := by
  simp only [State.setLoop]
  (repeat' split) <;> simp

@[simp] theorem judgeLoopSet_frame (p : List Byte) (s : State) :
    ((judgeLoopSet p s).state s).now = s.now ∧ ((judgeLoopSet p s).state s).system = s.system ∧
    ((judgeLoopSet p s).state s).scanner = s.scanner ∧ ((judgeLoopSet p s).state s).strokes = s.strokes ∧
    ((judgeLoopSet p s).state s).pedals = s.pedals ∧ ((judgeLoopSet p s).state s).router = s.router ∧
    ((judgeLoopSet p s).state s).tone = s.tone ∧ ((judgeLoopSet p s).state s).rail = s.rail ∧
    ((judgeLoopSet p s).state s).audio = s.audio ∧ ((judgeLoopSet p s).state s).store = s.store ∧
    ((judgeLoopSet p s).state s).transfer = s.transfer ∧ ((judgeLoopSet p s).state s).linkT = s.linkT ∧
    ((judgeLoopSet p s).state s).linkP = s.linkP ∧ ((judgeLoopSet p s).state s).panel = s.panel ∧
    ((judgeLoopSet p s).state s).pending = s.pending := by
  simp only [judgeLoopSet]
  (repeat' split) <;> simp

@[simp] theorem State.clearLoop_frame (s : State) :
    (s.clearLoop).now = s.now ∧ (s.clearLoop).system = s.system ∧ (s.clearLoop).scanner = s.scanner ∧
    (s.clearLoop).strokes = s.strokes ∧ (s.clearLoop).pedals = s.pedals ∧ (s.clearLoop).router = s.router ∧
    (s.clearLoop).tone = s.tone ∧ (s.clearLoop).rail = s.rail ∧ (s.clearLoop).audio = s.audio ∧
    (s.clearLoop).store = s.store ∧ (s.clearLoop).transfer = s.transfer ∧ (s.clearLoop).linkT = s.linkT ∧
    (s.clearLoop).linkP = s.linkP ∧ (s.clearLoop).panel = s.panel ∧ (s.clearLoop).pending = s.pending := by
  simp only [State.clearLoop]
  (repeat' split) <;> simp

@[simp] theorem judgeLoopClear_frame (s : State) :
    ((judgeLoopClear s).state s).now = s.now ∧ ((judgeLoopClear s).state s).system = s.system ∧
    ((judgeLoopClear s).state s).scanner = s.scanner ∧ ((judgeLoopClear s).state s).strokes = s.strokes ∧
    ((judgeLoopClear s).state s).pedals = s.pedals ∧ ((judgeLoopClear s).state s).router = s.router ∧
    ((judgeLoopClear s).state s).tone = s.tone ∧ ((judgeLoopClear s).state s).rail = s.rail ∧
    ((judgeLoopClear s).state s).audio = s.audio ∧ ((judgeLoopClear s).state s).store = s.store ∧
    ((judgeLoopClear s).state s).transfer = s.transfer ∧ ((judgeLoopClear s).state s).linkT = s.linkT ∧
    ((judgeLoopClear s).state s).linkP = s.linkP ∧ ((judgeLoopClear s).state s).panel = s.panel ∧
    ((judgeLoopClear s).state s).pending = s.pending := by
  simp only [judgeLoopClear]
  (repeat' split) <;> simp

@[simp] theorem judgeTransportReport_frame (s : State) :
    ((judgeTransportReport s).state s).now = s.now ∧ ((judgeTransportReport s).state s).system = s.system ∧
    ((judgeTransportReport s).state s).scanner = s.scanner ∧ ((judgeTransportReport s).state s).strokes = s.strokes ∧
    ((judgeTransportReport s).state s).pedals = s.pedals ∧ ((judgeTransportReport s).state s).router = s.router ∧
    ((judgeTransportReport s).state s).tone = s.tone ∧ ((judgeTransportReport s).state s).rail = s.rail ∧
    ((judgeTransportReport s).state s).audio = s.audio ∧ ((judgeTransportReport s).state s).store = s.store ∧
    ((judgeTransportReport s).state s).transport = s.transport ∧
    ((judgeTransportReport s).state s).transfer = s.transfer ∧ ((judgeTransportReport s).state s).linkT = s.linkT ∧
    ((judgeTransportReport s).state s).linkP = s.linkP ∧ ((judgeTransportReport s).state s).panel = s.panel ∧
    ((judgeTransportReport s).state s).pending = s.pending := by
  simp [judgeTransportReport]

@[simp] theorem State.endWaitMode_frame (s : State) :
    (s.endWaitMode).now = s.now ∧ (s.endWaitMode).system = s.system ∧ (s.endWaitMode).scanner = s.scanner ∧
    (s.endWaitMode).strokes = s.strokes ∧ (s.endWaitMode).pedals = s.pedals ∧ (s.endWaitMode).router = s.router ∧
    (s.endWaitMode).tone = s.tone ∧ (s.endWaitMode).rail = s.rail ∧ (s.endWaitMode).audio = s.audio ∧
    (s.endWaitMode).store = s.store ∧ (s.endWaitMode).transfer = s.transfer ∧ (s.endWaitMode).panel = s.panel ∧
    (s.endWaitMode).pending = s.pending := by
  simp [State.endWaitMode]

@[simp] theorem State.practice_frame (q : Option Parts) (w : Option Bool) (c l : Option Nat) (s : State) :
    (s.practice q w c l).now = s.now ∧ (s.practice q w c l).system = s.system ∧
    (s.practice q w c l).scanner = s.scanner ∧ (s.practice q w c l).strokes = s.strokes ∧
    (s.practice q w c l).pedals = s.pedals ∧ (s.practice q w c l).router = s.router ∧
    (s.practice q w c l).tone = s.tone ∧ (s.practice q w c l).rail = s.rail ∧ (s.practice q w c l).audio = s.audio ∧
    (s.practice q w c l).store = s.store ∧ (s.practice q w c l).transfer = s.transfer ∧
    (s.practice q w c l).panel = s.panel ∧ (s.practice q w c l).pending = s.pending := by
  simp only [State.practice]
  (repeat' split) <;> simp

@[simp] theorem judgePracticeSet_frame (p : List Byte) (s : State) :
    ((judgePracticeSet p s).state s).now = s.now ∧ ((judgePracticeSet p s).state s).system = s.system ∧
    ((judgePracticeSet p s).state s).scanner = s.scanner ∧ ((judgePracticeSet p s).state s).strokes = s.strokes ∧
    ((judgePracticeSet p s).state s).pedals = s.pedals ∧ ((judgePracticeSet p s).state s).router = s.router ∧
    ((judgePracticeSet p s).state s).tone = s.tone ∧ ((judgePracticeSet p s).state s).rail = s.rail ∧
    ((judgePracticeSet p s).state s).audio = s.audio ∧ ((judgePracticeSet p s).state s).store = s.store ∧
    ((judgePracticeSet p s).state s).transfer = s.transfer ∧ ((judgePracticeSet p s).state s).panel = s.panel ∧
    ((judgePracticeSet p s).state s).pending = s.pending := by
  simp only [judgePracticeSet, Judged.state_bind]
  (repeat' split) <;> simp

@[simp] theorem judgeWaitReport_frame (p : List Byte) (s : State) :
    ((judgeWaitReport p s).state s).now = s.now ∧ ((judgeWaitReport p s).state s).system = s.system ∧
    ((judgeWaitReport p s).state s).scanner = s.scanner ∧ ((judgeWaitReport p s).state s).strokes = s.strokes ∧
    ((judgeWaitReport p s).state s).pedals = s.pedals ∧ ((judgeWaitReport p s).state s).router = s.router ∧
    ((judgeWaitReport p s).state s).tone = s.tone ∧ ((judgeWaitReport p s).state s).rail = s.rail ∧
    ((judgeWaitReport p s).state s).audio = s.audio ∧ ((judgeWaitReport p s).state s).store = s.store ∧
    ((judgeWaitReport p s).state s).transfer = s.transfer ∧ ((judgeWaitReport p s).state s).linkT = s.linkT ∧
    ((judgeWaitReport p s).state s).linkP = s.linkP ∧ ((judgeWaitReport p s).state s).panel = s.panel ∧
    ((judgeWaitReport p s).state s).pending = s.pending := by
  simp only [judgeWaitReport]
  (repeat' split) <;> simp

@[simp] theorem judgeExportOpen_frame (p : List Byte) (s : State) :
    ((judgeExportOpen p s).state s).now = s.now ∧ ((judgeExportOpen p s).state s).system = s.system ∧
    ((judgeExportOpen p s).state s).scanner = s.scanner ∧ ((judgeExportOpen p s).state s).strokes = s.strokes ∧
    ((judgeExportOpen p s).state s).pedals = s.pedals ∧ ((judgeExportOpen p s).state s).router = s.router ∧
    ((judgeExportOpen p s).state s).tone = s.tone ∧ ((judgeExportOpen p s).state s).rail = s.rail ∧
    ((judgeExportOpen p s).state s).audio = s.audio ∧ ((judgeExportOpen p s).state s).transport = s.transport ∧
    ((judgeExportOpen p s).state s).linkT = s.linkT ∧ ((judgeExportOpen p s).state s).linkP = s.linkP ∧
    ((judgeExportOpen p s).state s).panel = s.panel ∧ ((judgeExportOpen p s).state s).pending = s.pending := by
  simp only [judgeExportOpen]
  (repeat' split) <;> simp

@[simp] theorem judgeExportRead_frame (p : List Byte) (s : State) :
    ((judgeExportRead p s).state s).now = s.now ∧ ((judgeExportRead p s).state s).system = s.system ∧
    ((judgeExportRead p s).state s).scanner = s.scanner ∧ ((judgeExportRead p s).state s).strokes = s.strokes ∧
    ((judgeExportRead p s).state s).pedals = s.pedals ∧ ((judgeExportRead p s).state s).router = s.router ∧
    ((judgeExportRead p s).state s).tone = s.tone ∧ ((judgeExportRead p s).state s).rail = s.rail ∧
    ((judgeExportRead p s).state s).audio = s.audio ∧ ((judgeExportRead p s).state s).store = s.store ∧
    ((judgeExportRead p s).state s).transport = s.transport ∧ ((judgeExportRead p s).state s).linkT = s.linkT ∧
    ((judgeExportRead p s).state s).linkP = s.linkP ∧ ((judgeExportRead p s).state s).panel = s.panel ∧
    ((judgeExportRead p s).state s).pending = s.pending := by
  simp only [judgeExportRead]
  (repeat' split) <;> simp

@[simp] theorem State.endExport_frame (x : Export) (r : TransferResult) (s : State) :
    (s.endExport x r).now = s.now ∧ (s.endExport x r).system = s.system ∧ (s.endExport x r).scanner = s.scanner ∧
    (s.endExport x r).strokes = s.strokes ∧ (s.endExport x r).pedals = s.pedals ∧
    (s.endExport x r).router = s.router ∧ (s.endExport x r).tone = s.tone ∧ (s.endExport x r).rail = s.rail ∧
    (s.endExport x r).audio = s.audio ∧ (s.endExport x r).transport = s.transport ∧
    (s.endExport x r).panel = s.panel ∧ (s.endExport x r).pending = s.pending := by
  simp [State.endExport]

@[simp] theorem judgeExportClose_frame (s : State) :
    ((judgeExportClose s).state s).now = s.now ∧ ((judgeExportClose s).state s).system = s.system ∧
    ((judgeExportClose s).state s).scanner = s.scanner ∧ ((judgeExportClose s).state s).strokes = s.strokes ∧
    ((judgeExportClose s).state s).pedals = s.pedals ∧ ((judgeExportClose s).state s).router = s.router ∧
    ((judgeExportClose s).state s).tone = s.tone ∧ ((judgeExportClose s).state s).rail = s.rail ∧
    ((judgeExportClose s).state s).audio = s.audio ∧ ((judgeExportClose s).state s).transport = s.transport ∧
    ((judgeExportClose s).state s).panel = s.panel ∧ ((judgeExportClose s).state s).pending = s.pending := by
  simp only [judgeExportClose]
  (repeat' split) <;> simp

@[simp] theorem judgeImportOpen_frame (p : List Byte) (s : State) :
    ((judgeImportOpen p s).state s).now = s.now ∧ ((judgeImportOpen p s).state s).system = s.system ∧
    ((judgeImportOpen p s).state s).scanner = s.scanner ∧ ((judgeImportOpen p s).state s).strokes = s.strokes ∧
    ((judgeImportOpen p s).state s).pedals = s.pedals ∧ ((judgeImportOpen p s).state s).router = s.router ∧
    ((judgeImportOpen p s).state s).tone = s.tone ∧ ((judgeImportOpen p s).state s).rail = s.rail ∧
    ((judgeImportOpen p s).state s).audio = s.audio ∧ ((judgeImportOpen p s).state s).transport = s.transport ∧
    ((judgeImportOpen p s).state s).linkT = s.linkT ∧ ((judgeImportOpen p s).state s).linkP = s.linkP ∧
    ((judgeImportOpen p s).state s).panel = s.panel ∧ ((judgeImportOpen p s).state s).pending = s.pending := by
  simp only [judgeImportOpen]
  (repeat' split) <;> simp

@[simp] theorem State.endImport_frame (x : Import) (r : TransferResult) (s : State) :
    (s.endImport x r).now = s.now ∧ (s.endImport x r).system = s.system ∧ (s.endImport x r).scanner = s.scanner ∧
    (s.endImport x r).strokes = s.strokes ∧ (s.endImport x r).pedals = s.pedals ∧
    (s.endImport x r).router = s.router ∧ (s.endImport x r).tone = s.tone ∧ (s.endImport x r).rail = s.rail ∧
    (s.endImport x r).audio = s.audio ∧ (s.endImport x r).store = s.store ∧
    (s.endImport x r).transport = s.transport ∧ (s.endImport x r).panel = s.panel ∧
    (s.endImport x r).pending = s.pending := by
  simp [State.endImport]

@[simp] theorem State.failTransfer_frame (x : Import) (r : TransferResult) (s : State) :
    (s.failTransfer x r).now = s.now ∧ (s.failTransfer x r).system = s.system ∧
    (s.failTransfer x r).scanner = s.scanner ∧ (s.failTransfer x r).strokes = s.strokes ∧
    (s.failTransfer x r).pedals = s.pedals ∧ (s.failTransfer x r).router = s.router ∧
    (s.failTransfer x r).tone = s.tone ∧ (s.failTransfer x r).rail = s.rail ∧ (s.failTransfer x r).audio = s.audio ∧
    (s.failTransfer x r).transport = s.transport ∧ (s.failTransfer x r).panel = s.panel ∧
    (s.failTransfer x r).pending = s.pending := by
  simp [State.failTransfer]

@[simp] theorem judgeImportWrite_frame (p : List Byte) (s : State) :
    ((judgeImportWrite p s).state s).now = s.now ∧ ((judgeImportWrite p s).state s).system = s.system ∧
    ((judgeImportWrite p s).state s).scanner = s.scanner ∧ ((judgeImportWrite p s).state s).strokes = s.strokes ∧
    ((judgeImportWrite p s).state s).pedals = s.pedals ∧ ((judgeImportWrite p s).state s).router = s.router ∧
    ((judgeImportWrite p s).state s).tone = s.tone ∧ ((judgeImportWrite p s).state s).rail = s.rail ∧
    ((judgeImportWrite p s).state s).audio = s.audio ∧ ((judgeImportWrite p s).state s).transport = s.transport ∧
    ((judgeImportWrite p s).state s).panel = s.panel ∧ ((judgeImportWrite p s).state s).pending = s.pending := by
  simp only [judgeImportWrite]
  (repeat' split) <;> simp

@[simp] theorem judgeImportClose_frame (s : State) :
    ((judgeImportClose s).state s).now = s.now ∧ ((judgeImportClose s).state s).system = s.system ∧
    ((judgeImportClose s).state s).scanner = s.scanner ∧ ((judgeImportClose s).state s).strokes = s.strokes ∧
    ((judgeImportClose s).state s).pedals = s.pedals ∧ ((judgeImportClose s).state s).router = s.router ∧
    ((judgeImportClose s).state s).tone = s.tone ∧ ((judgeImportClose s).state s).rail = s.rail ∧
    ((judgeImportClose s).state s).audio = s.audio ∧ ((judgeImportClose s).state s).transport = s.transport ∧
    ((judgeImportClose s).state s).panel = s.panel ∧ ((judgeImportClose s).state s).pending = s.pending := by
  simp only [judgeImportClose]
  (repeat' split) <;> simp

end Sys2Proof.Machine
end

