-- ==== Sys2Proof/Laws/LinkFrames.lean ====
section
/-! SUPPORT. The frames of the shared operations of the Link Interfaces: for each operation, the blocks it
leaves as they were. Later proofs cite these lemmas and do not unfold the operations. -/

namespace Sys2Proof.Machine

open Sys2Proof

@[simp] theorem judgeIdentify_frame (s : State) :
    ((judgeIdentify s).state s).now = s.now ∧ ((judgeIdentify s).state s).system = s.system ∧
    ((judgeIdentify s).state s).scanner = s.scanner ∧ ((judgeIdentify s).state s).strokes = s.strokes ∧
    ((judgeIdentify s).state s).pedals = s.pedals ∧ ((judgeIdentify s).state s).router = s.router ∧
    ((judgeIdentify s).state s).tone = s.tone ∧ ((judgeIdentify s).state s).rail = s.rail ∧
    ((judgeIdentify s).state s).audio = s.audio ∧ ((judgeIdentify s).state s).store = s.store ∧
    ((judgeIdentify s).state s).transport = s.transport ∧ ((judgeIdentify s).state s).transfer = s.transfer ∧
    ((judgeIdentify s).state s).linkT = s.linkT ∧ ((judgeIdentify s).state s).linkP = s.linkP ∧
    ((judgeIdentify s).state s).panel = s.panel ∧ ((judgeIdentify s).state s).pending = s.pending := by
  simp [judgeIdentify]

@[simp] theorem State.clearCounters_frame (l : Link) (s : State) :
    (s.clearCounters l).now = s.now ∧ (s.clearCounters l).system = s.system ∧
    (s.clearCounters l).scanner = s.scanner ∧ (s.clearCounters l).strokes = s.strokes ∧
    (s.clearCounters l).pedals = s.pedals ∧ (s.clearCounters l).router = s.router ∧
    (s.clearCounters l).tone = s.tone ∧ (s.clearCounters l).rail = s.rail ∧ (s.clearCounters l).audio = s.audio ∧
    (s.clearCounters l).store = s.store ∧ (s.clearCounters l).transport = s.transport ∧
    (s.clearCounters l).transfer = s.transfer ∧ (s.clearCounters l).pending = s.pending := by
  simp only [State.clearCounters]
  (repeat' split) <;> simp

@[simp] theorem judgeLinkReport_frame (l : Link) (p : List Byte) (s : State) :
    ((judgeLinkReport l p s).state s).now = s.now ∧ ((judgeLinkReport l p s).state s).system = s.system ∧
    ((judgeLinkReport l p s).state s).scanner = s.scanner ∧ ((judgeLinkReport l p s).state s).strokes = s.strokes ∧
    ((judgeLinkReport l p s).state s).pedals = s.pedals ∧ ((judgeLinkReport l p s).state s).router = s.router ∧
    ((judgeLinkReport l p s).state s).tone = s.tone ∧ ((judgeLinkReport l p s).state s).rail = s.rail ∧
    ((judgeLinkReport l p s).state s).audio = s.audio ∧ ((judgeLinkReport l p s).state s).store = s.store ∧
    ((judgeLinkReport l p s).state s).transport = s.transport ∧
    ((judgeLinkReport l p s).state s).transfer = s.transfer ∧ ((judgeLinkReport l p s).state s).pending = s.pending := by
  simp only [judgeLinkReport]
  (repeat' split) <;> simp

@[simp] theorem judgeRestart_frame (l : Link) (taken : Time) (s : State) :
    ((judgeRestart l taken s).state s).now = s.now ∧ ((judgeRestart l taken s).state s).scanner = s.scanner ∧
    ((judgeRestart l taken s).state s).strokes = s.strokes ∧ ((judgeRestart l taken s).state s).pedals = s.pedals ∧
    ((judgeRestart l taken s).state s).router = s.router ∧ ((judgeRestart l taken s).state s).tone = s.tone ∧
    ((judgeRestart l taken s).state s).rail = s.rail ∧ ((judgeRestart l taken s).state s).audio = s.audio ∧
    ((judgeRestart l taken s).state s).store = s.store ∧ ((judgeRestart l taken s).state s).transport = s.transport ∧
    ((judgeRestart l taken s).state s).transfer = s.transfer ∧ ((judgeRestart l taken s).state s).linkT = s.linkT ∧
    ((judgeRestart l taken s).state s).linkP = s.linkP ∧ ((judgeRestart l taken s).state s).panel = s.panel ∧
    ((judgeRestart l taken s).state s).pending = s.pending := by
  simp only [judgeRestart]
  (repeat' split) <;> simp

@[simp] theorem judgeStatusMask_frame (l : Link) (p : List Byte) (s : State) :
    ((judgeStatusMask l p s).state s).now = s.now ∧ ((judgeStatusMask l p s).state s).system = s.system ∧
    ((judgeStatusMask l p s).state s).scanner = s.scanner ∧ ((judgeStatusMask l p s).state s).strokes = s.strokes ∧
    ((judgeStatusMask l p s).state s).pedals = s.pedals ∧ ((judgeStatusMask l p s).state s).router = s.router ∧
    ((judgeStatusMask l p s).state s).tone = s.tone ∧ ((judgeStatusMask l p s).state s).rail = s.rail ∧
    ((judgeStatusMask l p s).state s).audio = s.audio ∧ ((judgeStatusMask l p s).state s).store = s.store ∧
    ((judgeStatusMask l p s).state s).transport = s.transport ∧
    ((judgeStatusMask l p s).state s).transfer = s.transfer ∧ ((judgeStatusMask l p s).state s).panel = s.panel ∧
    ((judgeStatusMask l p s).state s).pending = s.pending := by
  simp only [judgeStatusMask]
  (repeat' split) <;> simp

@[simp] theorem State.countMalformed_frame (l : Link) (s : State) :
    (s.countMalformed l).now = s.now ∧ (s.countMalformed l).system = s.system ∧
    (s.countMalformed l).scanner = s.scanner ∧ (s.countMalformed l).strokes = s.strokes ∧
    (s.countMalformed l).pedals = s.pedals ∧ (s.countMalformed l).router = s.router ∧
    (s.countMalformed l).tone = s.tone ∧ (s.countMalformed l).rail = s.rail ∧ (s.countMalformed l).audio = s.audio ∧
    (s.countMalformed l).store = s.store ∧ (s.countMalformed l).transport = s.transport ∧
    (s.countMalformed l).transfer = s.transfer ∧ (s.countMalformed l).panel = s.panel ∧
    (s.countMalformed l).pending = s.pending := by
  simp [State.countMalformed]

@[simp] theorem State.countLost_frame (l : Link) (s : State) :
    (s.countLost l).now = s.now ∧ (s.countLost l).system = s.system ∧ (s.countLost l).scanner = s.scanner ∧
    (s.countLost l).strokes = s.strokes ∧ (s.countLost l).pedals = s.pedals ∧ (s.countLost l).router = s.router ∧
    (s.countLost l).tone = s.tone ∧ (s.countLost l).rail = s.rail ∧ (s.countLost l).audio = s.audio ∧
    (s.countLost l).store = s.store ∧ (s.countLost l).transport = s.transport ∧
    (s.countLost l).transfer = s.transfer ∧ (s.countLost l).panel = s.panel ∧ (s.countLost l).pending = s.pending := by
  simp [State.countLost]

@[simp] theorem State.malformedFrame_frame (l : Link) (x : Status) (s : State) :
    (s.malformedFrame l x).1.now = s.now ∧ (s.malformedFrame l x).1.system = s.system ∧
    (s.malformedFrame l x).1.scanner = s.scanner ∧ (s.malformedFrame l x).1.strokes = s.strokes ∧
    (s.malformedFrame l x).1.pedals = s.pedals ∧ (s.malformedFrame l x).1.router = s.router ∧
    (s.malformedFrame l x).1.tone = s.tone ∧ (s.malformedFrame l x).1.rail = s.rail ∧
    (s.malformedFrame l x).1.audio = s.audio ∧ (s.malformedFrame l x).1.store = s.store ∧
    (s.malformedFrame l x).1.transport = s.transport ∧ (s.malformedFrame l x).1.transfer = s.transfer ∧
    (s.malformedFrame l x).1.panel = s.panel ∧ (s.malformedFrame l x).1.pending = s.pending := by
  simp [State.malformedFrame]

@[simp] theorem State.placeReply_frame (l : Link) (r : Reply) (s : State) :
    (s.placeReply l r).now = s.now ∧ (s.placeReply l r).system = s.system ∧ (s.placeReply l r).scanner = s.scanner ∧
    (s.placeReply l r).strokes = s.strokes ∧ (s.placeReply l r).pedals = s.pedals ∧
    (s.placeReply l r).router = s.router ∧ (s.placeReply l r).tone = s.tone ∧ (s.placeReply l r).rail = s.rail ∧
    (s.placeReply l r).audio = s.audio ∧ (s.placeReply l r).store = s.store ∧
    (s.placeReply l r).transport = s.transport ∧ (s.placeReply l r).transfer = s.transfer ∧
    (s.placeReply l r).panel = s.panel ∧ (s.placeReply l r).pending = s.pending := by
  simp [State.placeReply]

@[simp] theorem State.writePointer_frame (v : Nat) (s : State) :
    (s.writePointer v).now = s.now ∧ (s.writePointer v).system = s.system ∧ (s.writePointer v).scanner = s.scanner ∧
    (s.writePointer v).strokes = s.strokes ∧ (s.writePointer v).pedals = s.pedals ∧
    (s.writePointer v).router = s.router ∧ (s.writePointer v).tone = s.tone ∧ (s.writePointer v).rail = s.rail ∧
    (s.writePointer v).audio = s.audio ∧ (s.writePointer v).store = s.store ∧
    (s.writePointer v).transport = s.transport ∧ (s.writePointer v).transfer = s.transfer ∧
    (s.writePointer v).pending = s.pending := by
  simp only [State.writePointer]
  (repeat' split) <;> simp

/-- An exchange whose transaction reaches the part acts; any other leaves the part as it is (R193). -/
theorem State.addressed_cases (l : Link) (address : BitVec 7) (f : State → State) (s : State) :
    (s.answers l address = true ∧ s.addressed l address f = f s) ∨ (s.answers l address = false ∧ s.addressed l address f = s) := by
  cases h : s.answers l address <;> simp [State.addressed, h]

/-- The time base and the rest of the part but the strap pins leave the address as it is. -/
theorem State.answers_congr {s t : State} (h : t.system.strap = s.system.strap) (l : Link) (address : BitVec 7) :
    t.answers l address = s.answers l address := by
  unfold State.answers State.linkAddress; rw [h]

@[simp] theorem State.answers_t (address : BitVec 7) (s : State) : s.answers .t address = true := rfl

@[simp] theorem State.beginExchange_frame (l : Link) (s : State) :
    (s.beginExchange l).now = s.now ∧ (s.beginExchange l).system = s.system ∧
    (s.beginExchange l).scanner = s.scanner ∧ (s.beginExchange l).strokes = s.strokes ∧
    (s.beginExchange l).pedals = s.pedals ∧ (s.beginExchange l).router = s.router ∧
    (s.beginExchange l).rail = s.rail ∧ (s.beginExchange l).audio = s.audio ∧ (s.beginExchange l).store = s.store ∧
    (s.beginExchange l).transport = s.transport ∧ (s.beginExchange l).transfer = s.transfer ∧
    (s.beginExchange l).pending = s.pending := by
  simp only [State.beginExchange]
  (repeat' split) <;> simp

@[simp] theorem State.beginExchange_p_frame (s : State) :
    (s.beginExchange .p).now = s.now ∧ (s.beginExchange .p).system = s.system ∧
    (s.beginExchange .p).scanner = s.scanner ∧ (s.beginExchange .p).strokes = s.strokes ∧
    (s.beginExchange .p).pedals = s.pedals ∧ (s.beginExchange .p).router = s.router ∧
    (s.beginExchange .p).tone = s.tone ∧ (s.beginExchange .p).rail = s.rail ∧ (s.beginExchange .p).audio = s.audio ∧
    (s.beginExchange .p).store = s.store ∧ (s.beginExchange .p).transport = s.transport ∧
    (s.beginExchange .p).transfer = s.transfer ∧ (s.beginExchange .p).linkT = s.linkT ∧
    (s.beginExchange .p).pending = s.pending := by
  simp [State.beginExchange]

@[simp] theorem State.beginExchange_t_frame (s : State) :
    (s.beginExchange .t).now = s.now ∧ (s.beginExchange .t).system = s.system ∧
    (s.beginExchange .t).scanner = s.scanner ∧ (s.beginExchange .t).strokes = s.strokes ∧
    (s.beginExchange .t).pedals = s.pedals ∧ (s.beginExchange .t).router = s.router ∧
    (s.beginExchange .t).rail = s.rail ∧ (s.beginExchange .t).audio = s.audio ∧
    (s.beginExchange .t).store = s.store ∧ (s.beginExchange .t).transport = s.transport ∧
    (s.beginExchange .t).transfer = s.transfer ∧ (s.beginExchange .t).linkP = s.linkP ∧
    (s.beginExchange .t).panel = s.panel ∧ (s.beginExchange .t).pending = s.pending := by
  simp [State.beginExchange]

@[simp] theorem State.replyTaken_frame (l : Link) (r : Reply) (s : State) :
    (s.replyTaken l r).now = s.now ∧ (s.replyTaken l r).scanner = s.scanner ∧
    (s.replyTaken l r).strokes = s.strokes ∧ (s.replyTaken l r).pedals = s.pedals ∧
    (s.replyTaken l r).router = s.router ∧ (s.replyTaken l r).tone = s.tone ∧ (s.replyTaken l r).rail = s.rail ∧
    (s.replyTaken l r).audio = s.audio ∧ (s.replyTaken l r).store = s.store ∧
    (s.replyTaken l r).transport = s.transport ∧ (s.replyTaken l r).transfer = s.transfer ∧
    (s.replyTaken l r).panel = s.panel ∧ (s.replyTaken l r).pending = s.pending := by
  simp only [State.replyTaken]
  (repeat' split) <;> simp

@[simp] theorem State.readBuffer_frame (l : Link) (b : Bool) (s : State) :
    (s.readBuffer l b).now = s.now ∧ (s.readBuffer l b).scanner = s.scanner ∧
    (s.readBuffer l b).strokes = s.strokes ∧ (s.readBuffer l b).pedals = s.pedals ∧
    (s.readBuffer l b).router = s.router ∧ (s.readBuffer l b).tone = s.tone ∧ (s.readBuffer l b).rail = s.rail ∧
    (s.readBuffer l b).audio = s.audio ∧ (s.readBuffer l b).store = s.store ∧
    (s.readBuffer l b).transport = s.transport ∧ (s.readBuffer l b).transfer = s.transfer ∧
    (s.readBuffer l b).pending = s.pending := by
  simp only [State.readBuffer]
  (repeat' split) <;> simp

@[simp] theorem State.endStretch_frame (s : State) :
    (s.endStretch).now = s.now ∧ (s.endStretch).system = s.system ∧ (s.endStretch).scanner = s.scanner ∧
    (s.endStretch).strokes = s.strokes ∧ (s.endStretch).pedals = s.pedals ∧ (s.endStretch).router = s.router ∧
    (s.endStretch).tone = s.tone ∧ (s.endStretch).rail = s.rail ∧ (s.endStretch).audio = s.audio ∧
    (s.endStretch).store = s.store ∧ (s.endStretch).transport = s.transport ∧ (s.endStretch).transfer = s.transfer ∧
    (s.endStretch).pending = s.pending := by
  simp only [State.endStretch]
  (repeat' split) <;> simp

@[simp] theorem State.readStatus_frame (l : Link) (s : State) :
    (s.readStatus l).now = s.now ∧ (s.readStatus l).system = s.system ∧ (s.readStatus l).scanner = s.scanner ∧
    (s.readStatus l).strokes = s.strokes ∧ (s.readStatus l).pedals = s.pedals ∧ (s.readStatus l).router = s.router ∧
    (s.readStatus l).rail = s.rail ∧ (s.readStatus l).audio = s.audio ∧ (s.readStatus l).store = s.store ∧
    (s.readStatus l).transport = s.transport ∧ (s.readStatus l).transfer = s.transfer ∧
    (s.readStatus l).pending = s.pending := by
  simp only [State.readStatus]
  (repeat' split) <;> simp

@[simp] theorem State.abandonStatus_frame (l : Link) (s : State) :
    (s.abandonStatus l).now = s.now ∧ (s.abandonStatus l).system = s.system ∧
    (s.abandonStatus l).scanner = s.scanner ∧ (s.abandonStatus l).strokes = s.strokes ∧
    (s.abandonStatus l).pedals = s.pedals ∧ (s.abandonStatus l).router = s.router ∧
    (s.abandonStatus l).tone = s.tone ∧ (s.abandonStatus l).rail = s.rail ∧ (s.abandonStatus l).audio = s.audio ∧
    (s.abandonStatus l).store = s.store ∧ (s.abandonStatus l).transport = s.transport ∧
    (s.abandonStatus l).transfer = s.transfer ∧ (s.abandonStatus l).panel = s.panel ∧
    (s.abandonStatus l).pending = s.pending := by
  simp only [State.abandonStatus]
  (repeat' split) <;> simp

@[simp] theorem State.readStream_frame (n : Nat) (s : State) :
    (s.readStream n).now = s.now ∧ (s.readStream n).system = s.system ∧ (s.readStream n).scanner = s.scanner ∧
    (s.readStream n).strokes = s.strokes ∧ (s.readStream n).pedals = s.pedals ∧ (s.readStream n).router = s.router ∧
    (s.readStream n).tone = s.tone ∧ (s.readStream n).rail = s.rail ∧ (s.readStream n).audio = s.audio ∧
    (s.readStream n).store = s.store ∧ (s.readStream n).transport = s.transport ∧
    (s.readStream n).transfer = s.transfer ∧ (s.readStream n).pending = s.pending := by
  simp only [State.readStream]
  (repeat' split) <;> simp

@[simp] theorem State.shiftOut_frame (b : List Byte) (s : State) :
    (s.shiftOut b).now = s.now ∧ (s.shiftOut b).system = s.system ∧ (s.shiftOut b).scanner = s.scanner ∧
    (s.shiftOut b).strokes = s.strokes ∧ (s.shiftOut b).pedals = s.pedals ∧ (s.shiftOut b).router = s.router ∧
    (s.shiftOut b).tone = s.tone ∧ (s.shiftOut b).rail = s.rail ∧ (s.shiftOut b).audio = s.audio ∧
    (s.shiftOut b).store = s.store ∧ (s.shiftOut b).transport = s.transport ∧ (s.shiftOut b).transfer = s.transfer ∧
    (s.shiftOut b).linkP = s.linkP ∧ (s.shiftOut b).panel = s.panel ∧ (s.shiftOut b).pending = s.pending := by
  simp [State.shiftOut]

@[simp] theorem State.beginDrain_frame (s : State) :
    (s.beginDrain).now = s.now ∧ (s.beginDrain).system = s.system ∧ (s.beginDrain).scanner = s.scanner ∧
    (s.beginDrain).strokes = s.strokes ∧ (s.beginDrain).pedals = s.pedals ∧ (s.beginDrain).router = s.router ∧
    (s.beginDrain).rail = s.rail ∧ (s.beginDrain).audio = s.audio ∧ (s.beginDrain).store = s.store ∧
    (s.beginDrain).transport = s.transport ∧ (s.beginDrain).transfer = s.transfer ∧ (s.beginDrain).linkP = s.linkP ∧
    (s.beginDrain).panel = s.panel ∧ (s.beginDrain).pending = s.pending := by
  simp [State.beginDrain]

@[simp] theorem State.startSlot_frame (s : State) :
    (s.startSlot).now = s.now ∧ (s.startSlot).system = s.system ∧ (s.startSlot).scanner = s.scanner ∧
    (s.startSlot).strokes = s.strokes ∧ (s.startSlot).pedals = s.pedals ∧ (s.startSlot).router = s.router ∧
    (s.startSlot).rail = s.rail ∧ (s.startSlot).audio = s.audio ∧ (s.startSlot).store = s.store ∧
    (s.startSlot).transport = s.transport ∧ (s.startSlot).transfer = s.transfer ∧
    (s.startSlot).linkP = s.linkP ∧ (s.startSlot).panel = s.panel ∧ (s.startSlot).pending = s.pending := by
  simp only [State.startSlot]
  (repeat' split) <;> simp

@[simp] theorem State.completeSlot_frame (s : State) :
    (s.completeSlot).now = s.now ∧ (s.completeSlot).system = s.system ∧ (s.completeSlot).scanner = s.scanner ∧
    (s.completeSlot).strokes = s.strokes ∧ (s.completeSlot).pedals = s.pedals ∧ (s.completeSlot).router = s.router ∧
    (s.completeSlot).rail = s.rail ∧ (s.completeSlot).audio = s.audio ∧ (s.completeSlot).store = s.store ∧
    (s.completeSlot).transport = s.transport ∧ (s.completeSlot).transfer = s.transfer ∧
    (s.completeSlot).linkP = s.linkP ∧ (s.completeSlot).panel = s.panel ∧ (s.completeSlot).pending = s.pending := by
  simp only [State.completeSlot]
  (repeat' split) <;> simp

@[simp] theorem State.abandonSlot_frame (s : State) :
    (s.abandonSlot).now = s.now ∧ (s.abandonSlot).system = s.system ∧ (s.abandonSlot).scanner = s.scanner ∧
    (s.abandonSlot).strokes = s.strokes ∧ (s.abandonSlot).pedals = s.pedals ∧ (s.abandonSlot).router = s.router ∧
    (s.abandonSlot).rail = s.rail ∧ (s.abandonSlot).audio = s.audio ∧ (s.abandonSlot).store = s.store ∧
    (s.abandonSlot).transport = s.transport ∧ (s.abandonSlot).transfer = s.transfer ∧
    (s.abandonSlot).linkT = s.linkT ∧ (s.abandonSlot).linkP = s.linkP ∧ (s.abandonSlot).panel = s.panel ∧
    (s.abandonSlot).pending = s.pending := by
  simp [State.abandonSlot]

end Sys2Proof.Machine
end

