-- ==== Sys2Proof/Laws/EventFrames.lean ====
section
/-! SUPPORT. The frames of the shared operations of the events: for each operation, the blocks it
leaves as they were. Later proofs cite these lemmas and do not unfold the operations. -/

namespace Sys2Proof.Machine

open Sys2Proof

@[simp] theorem State.onRestComplete_frame (s : State) :
    (s.onRestComplete).now = s.now ∧ (s.onRestComplete).system = s.system ∧ (s.onRestComplete).strokes = s.strokes ∧
    (s.onRestComplete).pedals = s.pedals ∧ (s.onRestComplete).router = s.router ∧ (s.onRestComplete).tone = s.tone ∧
    (s.onRestComplete).rail = s.rail ∧ (s.onRestComplete).audio = s.audio ∧ (s.onRestComplete).store = s.store ∧
    (s.onRestComplete).transport = s.transport ∧ (s.onRestComplete).transfer = s.transfer ∧
    (s.onRestComplete).panel = s.panel ∧ (s.onRestComplete).pending = s.pending := by
  simp only [State.onRestComplete]
  (repeat' split) <;> simp

@[simp] theorem State.onBottomComplete_frame (r : Nat) (s : State) :
    (s.onBottomComplete r).now = s.now ∧ (s.onBottomComplete r).system = s.system ∧
    (s.onBottomComplete r).pedals = s.pedals ∧ (s.onBottomComplete r).transfer = s.transfer ∧
    (s.onBottomComplete r).pending = s.pending := by
  simp only [State.onBottomComplete]
  (repeat' split) <;> simp

@[simp] theorem State.onAge_frame (s : State) :
    (s.onAge).now = s.now ∧ (s.onAge).system = s.system ∧ (s.onAge).scanner = s.scanner ∧
    (s.onAge).strokes = s.strokes ∧ (s.onAge).pedals = s.pedals ∧ (s.onAge).router = s.router ∧
    (s.onAge).rail = s.rail ∧ (s.onAge).audio = s.audio ∧ (s.onAge).store = s.store ∧
    (s.onAge).transport = s.transport ∧ (s.onAge).transfer = s.transfer ∧ (s.onAge).linkT = s.linkT ∧
    (s.onAge).linkP = s.linkP ∧ (s.onAge).panel = s.panel ∧ (s.onAge).pending = s.pending := by
  simp only [State.onAge]
  (repeat' split) <;> simp

@[simp] theorem State.onQuietWait_frame (s : State) :
    (s.onQuietWait).now = s.now ∧ (s.onQuietWait).system = s.system ∧ (s.onQuietWait).scanner = s.scanner ∧
    (s.onQuietWait).strokes = s.strokes ∧ (s.onQuietWait).pedals = s.pedals ∧ (s.onQuietWait).router = s.router ∧
    (s.onQuietWait).tone = s.tone ∧ (s.onQuietWait).store = s.store ∧ (s.onQuietWait).transport = s.transport ∧
    (s.onQuietWait).transfer = s.transfer ∧ (s.onQuietWait).panel = s.panel ∧ (s.onQuietWait).pending = s.pending := by
  simp only [State.onQuietWait]
  (repeat' split) <;> simp

@[simp] theorem State.setRun_frame (x : Run) (s : State) :
    (s.setRun x).now = s.now ∧ (s.setRun x).system = s.system ∧ (s.setRun x).scanner = s.scanner ∧
    (s.setRun x).strokes = s.strokes ∧ (s.setRun x).pedals = s.pedals ∧ (s.setRun x).router = s.router ∧
    (s.setRun x).tone = s.tone ∧ (s.setRun x).audio = s.audio ∧ (s.setRun x).store = s.store ∧
    (s.setRun x).transport = s.transport ∧ (s.setRun x).transfer = s.transfer ∧ (s.setRun x).linkT = s.linkT ∧
    (s.setRun x).linkP = s.linkP ∧ (s.setRun x).panel = s.panel ∧ (s.setRun x).pending = s.pending := by
  simp [State.setRun]

@[simp] theorem State.onKickEnd_frame (s : State) :
    (s.onKickEnd).now = s.now ∧ (s.onKickEnd).system = s.system ∧ (s.onKickEnd).scanner = s.scanner ∧
    (s.onKickEnd).strokes = s.strokes ∧ (s.onKickEnd).pedals = s.pedals ∧ (s.onKickEnd).router = s.router ∧
    (s.onKickEnd).tone = s.tone ∧ (s.onKickEnd).audio = s.audio ∧ (s.onKickEnd).store = s.store ∧
    (s.onKickEnd).transport = s.transport ∧ (s.onKickEnd).transfer = s.transfer ∧ (s.onKickEnd).linkT = s.linkT ∧
    (s.onKickEnd).linkP = s.linkP ∧ (s.onKickEnd).panel = s.panel ∧ (s.onKickEnd).pending = s.pending := by
  simp only [State.onKickEnd]
  (repeat' split) <;> simp

@[simp] theorem State.onDutyStep_frame (s : State) :
    (s.onDutyStep).now = s.now ∧ (s.onDutyStep).system = s.system ∧ (s.onDutyStep).scanner = s.scanner ∧
    (s.onDutyStep).strokes = s.strokes ∧ (s.onDutyStep).pedals = s.pedals ∧ (s.onDutyStep).router = s.router ∧
    (s.onDutyStep).tone = s.tone ∧ (s.onDutyStep).audio = s.audio ∧ (s.onDutyStep).store = s.store ∧
    (s.onDutyStep).transport = s.transport ∧ (s.onDutyStep).transfer = s.transfer ∧ (s.onDutyStep).linkT = s.linkT ∧
    (s.onDutyStep).linkP = s.linkP ∧ (s.onDutyStep).panel = s.panel ∧ (s.onDutyStep).pending = s.pending := by
  simp only [State.onDutyStep]
  (repeat' split) <;> simp

@[simp] theorem State.onStallTimer_frame (s : State) :
    (s.onStallTimer).now = s.now ∧ (s.onStallTimer).system = s.system ∧ (s.onStallTimer).scanner = s.scanner ∧
    (s.onStallTimer).strokes = s.strokes ∧ (s.onStallTimer).pedals = s.pedals ∧ (s.onStallTimer).router = s.router ∧
    (s.onStallTimer).tone = s.tone ∧ (s.onStallTimer).store = s.store ∧ (s.onStallTimer).transport = s.transport ∧
    (s.onStallTimer).transfer = s.transfer ∧ (s.onStallTimer).panel = s.panel ∧ (s.onStallTimer).pending = s.pending := by
  simp only [State.onStallTimer]
  (repeat' split) <;> simp

@[simp] theorem State.onRetryDwell_frame (s : State) :
    (s.onRetryDwell).now = s.now ∧ (s.onRetryDwell).system = s.system ∧ (s.onRetryDwell).scanner = s.scanner ∧
    (s.onRetryDwell).strokes = s.strokes ∧ (s.onRetryDwell).pedals = s.pedals ∧ (s.onRetryDwell).router = s.router ∧
    (s.onRetryDwell).tone = s.tone ∧ (s.onRetryDwell).audio = s.audio ∧ (s.onRetryDwell).store = s.store ∧
    (s.onRetryDwell).transport = s.transport ∧ (s.onRetryDwell).transfer = s.transfer ∧
    (s.onRetryDwell).linkT = s.linkT ∧ (s.onRetryDwell).linkP = s.linkP ∧ (s.onRetryDwell).panel = s.panel ∧
    (s.onRetryDwell).pending = s.pending := by
  simp only [State.onRetryDwell]
  (repeat' split) <;> simp

@[simp] theorem State.onReversalDwell_frame (s : State) :
    (s.onReversalDwell).now = s.now ∧ (s.onReversalDwell).system = s.system ∧
    (s.onReversalDwell).scanner = s.scanner ∧ (s.onReversalDwell).strokes = s.strokes ∧
    (s.onReversalDwell).pedals = s.pedals ∧ (s.onReversalDwell).router = s.router ∧
    (s.onReversalDwell).tone = s.tone ∧ (s.onReversalDwell).store = s.store ∧
    (s.onReversalDwell).transport = s.transport ∧ (s.onReversalDwell).transfer = s.transfer ∧
    (s.onReversalDwell).panel = s.panel ∧ (s.onReversalDwell).pending = s.pending := by
  simp only [State.onReversalDwell]
  (repeat' split) <;> simp

@[simp] theorem State.onMoveTimer_frame (s : State) :
    (s.onMoveTimer).now = s.now ∧ (s.onMoveTimer).system = s.system ∧ (s.onMoveTimer).scanner = s.scanner ∧
    (s.onMoveTimer).strokes = s.strokes ∧ (s.onMoveTimer).pedals = s.pedals ∧ (s.onMoveTimer).router = s.router ∧
    (s.onMoveTimer).tone = s.tone ∧ (s.onMoveTimer).store = s.store ∧ (s.onMoveTimer).transport = s.transport ∧
    (s.onMoveTimer).transfer = s.transfer ∧ (s.onMoveTimer).panel = s.panel ∧ (s.onMoveTimer).pending = s.pending := by
  simp only [State.onMoveTimer]
  (repeat' split) <;> simp

@[simp] theorem State.park_frame (s : State) :
    (s.park).now = s.now ∧ (s.park).system = s.system ∧ (s.park).scanner = s.scanner ∧ (s.park).strokes = s.strokes ∧
    (s.park).pedals = s.pedals ∧ (s.park).router = s.router ∧ (s.park).tone = s.tone ∧ (s.park).store = s.store ∧
    (s.park).transport = s.transport ∧ (s.park).transfer = s.transfer ∧ (s.park).panel = s.panel ∧
    (s.park).pending = s.pending := by
  simp only [State.park]
  (repeat' split) <;> simp

@[simp] theorem State.onFallboardClose_frame (s : State) :
    (s.onFallboardClose).now = s.now ∧ (s.onFallboardClose).system = s.system ∧
    (s.onFallboardClose).pedals = s.pedals ∧ (s.onFallboardClose).transfer = s.transfer ∧
    (s.onFallboardClose).pending = s.pending := by
  simp only [State.onFallboardClose]
  (repeat' split) <;> simp

@[simp] theorem State.onFallboardOpen_frame (s : State) :
    (s.onFallboardOpen).now = s.now ∧ (s.onFallboardOpen).system = s.system ∧
    (s.onFallboardOpen).scanner = s.scanner ∧ (s.onFallboardOpen).strokes = s.strokes ∧
    (s.onFallboardOpen).pedals = s.pedals ∧ (s.onFallboardOpen).router = s.router ∧
    (s.onFallboardOpen).tone = s.tone ∧ (s.onFallboardOpen).audio = s.audio ∧ (s.onFallboardOpen).store = s.store ∧
    (s.onFallboardOpen).transport = s.transport ∧ (s.onFallboardOpen).transfer = s.transfer ∧
    (s.onFallboardOpen).panel = s.panel ∧ (s.onFallboardOpen).pending = s.pending := by
  simp only [State.onFallboardOpen]
  (repeat' split) <;> simp

@[simp] theorem State.onJack_frame (j : Jack) (b : Bool) (s : State) :
    (s.onJack j b).now = s.now ∧ (s.onJack j b).system = s.system ∧ (s.onJack j b).scanner = s.scanner ∧
    (s.onJack j b).strokes = s.strokes ∧ (s.onJack j b).pedals = s.pedals ∧ (s.onJack j b).router = s.router ∧
    (s.onJack j b).tone = s.tone ∧ (s.onJack j b).rail = s.rail ∧ (s.onJack j b).store = s.store ∧
    (s.onJack j b).transport = s.transport ∧ (s.onJack j b).transfer = s.transfer ∧ (s.onJack j b).panel = s.panel ∧
    (s.onJack j b).pending = s.pending := by
  simp only [State.onJack]
  (repeat' split) <;> simp

@[simp] theorem State.onOutputFrame_frame (s : State) :
    (s.onOutputFrame).now = s.now ∧ (s.onOutputFrame).system = s.system ∧ (s.onOutputFrame).scanner = s.scanner ∧
    (s.onOutputFrame).strokes = s.strokes ∧ (s.onOutputFrame).pedals = s.pedals ∧
    (s.onOutputFrame).router = s.router ∧ (s.onOutputFrame).tone = s.tone ∧ (s.onOutputFrame).rail = s.rail ∧
    (s.onOutputFrame).store = s.store ∧ (s.onOutputFrame).transport = s.transport ∧
    (s.onOutputFrame).transfer = s.transfer ∧ (s.onOutputFrame).panel = s.panel ∧
    (s.onOutputFrame).pending = s.pending := by
  simp only [State.onOutputFrame]
  (repeat' split) <;> simp

@[simp] theorem State.clockBeat_frame (m : Time) (p : BeatPos) (s : State) :
    (s.clockBeat m p).now = s.now ∧ (s.clockBeat m p).system = s.system ∧ (s.clockBeat m p).scanner = s.scanner ∧
    (s.clockBeat m p).strokes = s.strokes ∧ (s.clockBeat m p).pedals = s.pedals ∧
    (s.clockBeat m p).router = s.router ∧ (s.clockBeat m p).tone = s.tone ∧ (s.clockBeat m p).rail = s.rail ∧
    (s.clockBeat m p).store = s.store ∧ (s.clockBeat m p).transport = s.transport ∧
    (s.clockBeat m p).transfer = s.transfer ∧ (s.clockBeat m p).linkT = s.linkT ∧ (s.clockBeat m p).linkP = s.linkP ∧
    (s.clockBeat m p).pending = s.pending := by
  simp [State.clockBeat]

@[simp] theorem State.onBeatTime_frame (s : State) :
    (s.onBeatTime).now = s.now ∧ (s.onBeatTime).system = s.system ∧ (s.onBeatTime).scanner = s.scanner ∧
    (s.onBeatTime).strokes = s.strokes ∧ (s.onBeatTime).pedals = s.pedals ∧ (s.onBeatTime).router = s.router ∧
    (s.onBeatTime).tone = s.tone ∧ (s.onBeatTime).rail = s.rail ∧ (s.onBeatTime).transfer = s.transfer ∧
    (s.onBeatTime).pending = s.pending := by
  simp only [State.onBeatTime]
  (repeat' split) <;> simp

@[simp] theorem State.onGap_frame (s : State) :
    (s.onGap).now = s.now ∧ (s.onGap).system = s.system ∧ (s.onGap).scanner = s.scanner ∧
    (s.onGap).strokes = s.strokes ∧ (s.onGap).pedals = s.pedals ∧ (s.onGap).router = s.router ∧
    (s.onGap).tone = s.tone ∧ (s.onGap).rail = s.rail ∧ (s.onGap).transfer = s.transfer ∧
    (s.onGap).pending = s.pending := by
  simp only [State.onGap]
  (repeat' split) <;> simp

@[simp] theorem State.onLimit_frame (s : State) :
    (s.onLimit).now = s.now ∧ (s.onLimit).system = s.system ∧ (s.onLimit).scanner = s.scanner ∧
    (s.onLimit).strokes = s.strokes ∧ (s.onLimit).pedals = s.pedals ∧ (s.onLimit).router = s.router ∧
    (s.onLimit).tone = s.tone ∧ (s.onLimit).rail = s.rail ∧ (s.onLimit).transfer = s.transfer ∧
    (s.onLimit).pending = s.pending := by
  simp only [State.onLimit]
  (repeat' split) <;> simp

@[simp] theorem State.onSeek_frame (s : State) :
    (s.onSeek).now = s.now ∧ (s.onSeek).system = s.system ∧ (s.onSeek).scanner = s.scanner ∧
    (s.onSeek).strokes = s.strokes ∧ (s.onSeek).rail = s.rail ∧ (s.onSeek).transfer = s.transfer ∧
    (s.onSeek).pending = s.pending := by
  simp only [State.onSeek]
  (repeat' split) <;> simp

@[simp] theorem State.onDelivery_frame (s : State) :
    (s.onDelivery).now = s.now ∧ (s.onDelivery).system = s.system ∧ (s.onDelivery).scanner = s.scanner ∧
    (s.onDelivery).strokes = s.strokes ∧ (s.onDelivery).rail = s.rail ∧ (s.onDelivery).transfer = s.transfer ∧
    (s.onDelivery).pending = s.pending := by
  simp only [State.onDelivery]
  (repeat' split) <;> simp

@[simp] theorem State.onLoopJump_frame (s : State) :
    (s.onLoopJump).now = s.now ∧ (s.onLoopJump).system = s.system ∧ (s.onLoopJump).scanner = s.scanner ∧
    (s.onLoopJump).strokes = s.strokes ∧ (s.onLoopJump).rail = s.rail ∧ (s.onLoopJump).audio = s.audio ∧
    (s.onLoopJump).store = s.store ∧ (s.onLoopJump).transfer = s.transfer ∧ (s.onLoopJump).pending = s.pending := by
  simp only [State.onLoopJump]
  (repeat' split) <;> simp

@[simp] theorem State.onWaitingMs_frame (s : State) :
    (s.onWaitingMs).now = s.now ∧ (s.onWaitingMs).system = s.system ∧ (s.onWaitingMs).scanner = s.scanner ∧
    (s.onWaitingMs).strokes = s.strokes ∧ (s.onWaitingMs).pedals = s.pedals ∧ (s.onWaitingMs).router = s.router ∧
    (s.onWaitingMs).tone = s.tone ∧ (s.onWaitingMs).rail = s.rail ∧ (s.onWaitingMs).audio = s.audio ∧
    (s.onWaitingMs).store = s.store ∧ (s.onWaitingMs).transfer = s.transfer ∧ (s.onWaitingMs).linkT = s.linkT ∧
    (s.onWaitingMs).linkP = s.linkP ∧ (s.onWaitingMs).panel = s.panel ∧ (s.onWaitingMs).pending = s.pending := by
  simp only [State.onWaitingMs]
  (repeat' split) <;> simp

@[simp] theorem State.onExportIdle_frame (s : State) :
    (s.onExportIdle).now = s.now ∧ (s.onExportIdle).system = s.system ∧ (s.onExportIdle).scanner = s.scanner ∧
    (s.onExportIdle).strokes = s.strokes ∧ (s.onExportIdle).pedals = s.pedals ∧ (s.onExportIdle).router = s.router ∧
    (s.onExportIdle).tone = s.tone ∧ (s.onExportIdle).rail = s.rail ∧ (s.onExportIdle).audio = s.audio ∧
    (s.onExportIdle).transport = s.transport ∧ (s.onExportIdle).panel = s.panel ∧
    (s.onExportIdle).pending = s.pending := by
  simp only [State.onExportIdle]
  (repeat' split) <;> simp

@[simp] theorem State.onImportIdle_frame (s : State) :
    (s.onImportIdle).now = s.now ∧ (s.onImportIdle).system = s.system ∧ (s.onImportIdle).scanner = s.scanner ∧
    (s.onImportIdle).strokes = s.strokes ∧ (s.onImportIdle).pedals = s.pedals ∧ (s.onImportIdle).router = s.router ∧
    (s.onImportIdle).tone = s.tone ∧ (s.onImportIdle).rail = s.rail ∧ (s.onImportIdle).audio = s.audio ∧
    (s.onImportIdle).transport = s.transport ∧ (s.onImportIdle).panel = s.panel ∧
    (s.onImportIdle).pending = s.pending := by
  simp only [State.onImportIdle]
  (repeat' split) <;> simp

end Sys2Proof.Machine
end

