-- ==== Sys2Proof/Laws/Memory.lean ====
section
/-! SUPPORT. Take memory: what a read after a write gives, and that every operation of the Take Store keeps the canonical form.
-/

namespace Sys2Proof.Machine

open Sys2Proof

/-! ### The canonical form -/

theorem Memory.wfFrom_mono {low low' : Nat} (hl : low' ≤ low) {m : List Host.Cell} (h : Memory.wfFrom low m = true) :
    Memory.wfFrom low' m = true := by
  cases m with
  | nil => rfl
  | cons c rest =>
    simp only [Memory.wfFrom, Bool.and_eq_true, decide_eq_true_eq] at h ⊢
    exact ⟨⟨by omega, h.1.2⟩, h.2⟩

theorem Memory.write_wfFrom (a : Nat) (v : Byte) (m : List Host.Cell) :
    ∀ low, low ≤ a → Memory.wfFrom low m = true → Memory.wfFrom low (Memory.write a v m) = true := by
  induction m with
  | nil =>
    intro low hl _
    simp only [Memory.write]
    split <;> simp_all [Memory.wfFrom]
  | cons c rest ih =>
    intro low hl h
    obtain ⟨b, w⟩ := c
    simp only [Memory.wfFrom, Bool.and_eq_true, decide_eq_true_eq] at h
    simp only [Memory.write]
    split
    · split
      · simp only [Memory.wfFrom, Bool.and_eq_true, decide_eq_true_eq]; exact h
      · simp only [Memory.wfFrom, Bool.and_eq_true, decide_eq_true_eq]
        refine ⟨⟨hl, by assumption⟩, ⟨by omega, h.1.2⟩, h.2⟩
    · split
      · split
        · exact Memory.wfFrom_mono (by omega) h.2
        · simp only [Memory.wfFrom, Bool.and_eq_true, decide_eq_true_eq]
          refine ⟨⟨hl, by assumption⟩, ?_⟩
          have hab : a = b := by assumption
          exact hab ▸ h.2
      · simp only [Memory.wfFrom, Bool.and_eq_true, decide_eq_true_eq]
        exact ⟨h.1, ih (b + 1) (by omega) h.2⟩

/-- A write keeps the canonical form. -/
@[simp] theorem Memory.write_wf (a : Nat) (v : Byte) (m : List Host.Cell) (h : Memory.wf m = true) :
    Memory.wf (Memory.write a v m) = true :=
  Memory.write_wfFrom a v m 0 (Nat.zero_le a) h

@[simp] theorem Memory.writeBytes_wf (l : List Byte) (a : Nat) (m : List Host.Cell) (h : Memory.wf m = true) :
    Memory.wf (Memory.writeBytes a l m) = true := by
  induction l generalizing a m with
  | nil => exact h
  | cons v vs ih => exact ih (a + 1) _ (Memory.write_wf a v m h)

/-! ### Reading what was written -/

theorem Memory.read_below {low a : Nat} {m : List Host.Cell} (h : Memory.wfFrom low m = true) (ha : a < low) :
    Memory.read m a = 0 := by
  cases m with
  | nil => rfl
  | cons c rest =>
    obtain ⟨b, w⟩ := c
    simp only [Memory.wfFrom, Bool.and_eq_true, decide_eq_true_eq] at h
    simp only [Memory.read]
    rw [if_neg (by omega), if_pos (by omega)]

theorem Memory.read_write_from (a : Nat) (v : Byte) (m : List Host.Cell) :
    ∀ low, Memory.wfFrom low m = true → ∀ x, Memory.read (Memory.write a v m) x = if x = a then v else Memory.read m x := by
  induction m with
  | nil =>
    intro low _ x
    by_cases hv : v = 0
    · simp [Memory.write, Memory.read, hv]
    · simp only [Memory.write, Memory.read, hv, if_false]
      split <;> simp
  | cons c rest ih =>
    intro low h x
    obtain ⟨b, w⟩ := c
    simp only [Memory.wfFrom, Bool.and_eq_true, decide_eq_true_eq] at h
    simp only [Memory.write]
    by_cases hab : a < b
    · simp only [hab, if_true]
      by_cases hv : v = 0
      · simp only [hv, if_true]
        by_cases hx : x = a
        · subst hx
          simp only [Memory.read, if_true]
          rw [if_neg (by omega), if_pos hab]
        · simp [hx]
      · simp only [hv, if_false, Memory.read]
        by_cases hx : x = a
        · simp [hx]
        · simp only [hx, if_false]
          by_cases hxa : x < a
          · rw [if_pos hxa, if_neg (by omega), if_pos (by omega)]
          · rw [if_neg hxa]
    · simp only [hab, if_false]
      by_cases he : a = b
      · subst he
        simp only [if_true]
        by_cases hv : v = 0
        · simp only [hv, if_true, Memory.read]
          by_cases hx : x = a
          · subst hx
            simp only [if_true]
            exact Memory.read_below h.2 (by omega)
          · simp only [hx, if_false]
            by_cases hxa : x < a
            · rw [if_pos hxa]; exact Memory.read_below h.2 (by omega)
            · rw [if_neg hxa]
        · simp only [hv, if_false, Memory.read]
          by_cases hx : x = a <;> simp [hx]
      · simp only [he, if_false, Memory.read]
        by_cases hxb : x = b
        · subst hxb
          rw [if_pos rfl, if_pos rfl, if_neg (by omega)]
        · simp only [hxb, if_false]
          by_cases hlt : x < b
          · rw [if_pos hlt, if_pos hlt, if_neg (by omega)]
          · simp only [hlt, if_false]
            exact ih (b + 1) h.2 x

/-- A byte read after a write to its own address is the byte written; any other address reads as before. -/
theorem Memory.read_write (a : Nat) (v : Byte) (m : List Host.Cell) (h : Memory.wf m = true) (x : Nat) :
    Memory.read (Memory.write a v m) x = if x = a then v else Memory.read m x :=
  Memory.read_write_from a v m 0 h x

/-- A write of bytes leaves every address outside the bytes as it was. -/
theorem Memory.read_writeBytes_outside (l : List Byte) (a : Nat) (m : List Host.Cell) (h : Memory.wf m = true) (x : Nat)
    (hx : x < a ∨ a + l.length ≤ x) : Memory.read (Memory.writeBytes a l m) x = Memory.read m x := by
  induction l generalizing a m with
  | nil => rfl
  | cons v vs ih =>
    simp only [List.length_cons] at hx
    simp only [Memory.writeBytes]
    rw [ih (a + 1) _ (Memory.write_wf a v m h) (by omega), Memory.read_write a v m h, if_neg (by omega)]

/-- Bytes read back from where they were written are the bytes written. -/
theorem Memory.readBytes_writeBytes (l : List Byte) (a : Nat) (m : List Host.Cell) (h : Memory.wf m = true) :
    Memory.readBytes (Memory.writeBytes a l m) a l.length = l := by
  induction l generalizing a m with
  | nil => rfl
  | cons v vs ih =>
    simp only [Memory.writeBytes, List.length_cons, Memory.readBytes]
    rw [ih (a + 1) _ (Memory.write_wf a v m h),
      Memory.read_writeBytes_outside vs (a + 1) _ (Memory.write_wf a v m h) a (by omega), Memory.read_write a v m h,
      if_pos rfl]

/-- Take memory right after reset has the canonical form. -/
theorem Memory.reset_wf : Memory.wf State.reset.store.memory = true := rfl

/-! ### The Take Store's operations keep the canonical form -/

@[simp] theorem Store.setEntry_memory (st : Store) (n : Nat) (e : Option Take) : (st.setEntry n e).memory = st.memory := rfl
@[simp] theorem Store.modEntry_memory (st : Store) (n : Nat) (f : Take → Take) : (st.modEntry n f).memory = st.memory := rfl
@[simp] theorem Store.setBlock_memory (st : Store) (b : Nat) (e : BlockEntry) : (st.setBlock b e).memory = st.memory := rfl
@[simp] theorem Store.setPlaying_memory (st : Store) (n : Nat) (b : Bool) : (st.setPlaying n b).memory = st.memory := rfl
@[simp] theorem Store.setExporting_memory (st : Store) (n : Nat) (b : Bool) : (st.setExporting n b).memory = st.memory := rfl
@[simp] theorem Store.clearMarks_memory (st : Store) : st.clearMarks.memory = st.memory := rfl
@[simp] theorem Store.clockStart_memory (st : Store) (m : Time) : (st.clockStart m).memory = st.memory := rfl

/-- A release touches no byte of take memory. -/
@[simp] theorem Store.releaseTake_memory (st : Store) (n : Nat) : (st.releaseTake n).memory = st.memory := by
  simp only [Store.releaseTake]
  split
  · rfl
  · exact foldl_keeps Store.memory _ (fun acc b => Store.setBlock_memory acc b .free) _ _

theorem Store.allocate_memory {st st' : Store} {n : Nat} {t t' : Take} (h : st.allocate n t = some (st', t')) :
    st'.memory = st.memory := by
  simp only [Store.allocate] at h
  split at h
  · simp at h
  · simp only [Option.some.injEq, Prod.mk.injEq] at h
    obtain ⟨rfl, -⟩ := h
    rfl

theorem Store.createTake_memory {st st' : Store} {n : Nat} {x : TakeState} {tempo : Option Tempo} {split : Nat}
    (h : st.createTake n x tempo split = some st') : st'.memory = st.memory := by
  simp only [Store.createTake] at h
  split at h
  · simp at h
  · simp only [Option.some.injEq] at h
    subst h
    rfl

theorem Store.openRecording_memory {st : Store} {take split : Nat} {tempo : Option Tempo} {r : Store × Nat}
    (h : st.openRecording take split tempo = .ok r) : r.1.memory = st.memory := by
  simp only [Store.openRecording] at h
  repeat' split at h
  all_goals first
    | (simp only [reduceCtorEq] at h)
    | (rename_i hc
       simp only [Except.ok.injEq] at h
       subst h
       exact (Store.createTake_memory hc :))

theorem Store.openImport_memory {st st' : Store} {n : Nat} (h : st.openImport n = .ok st') : st'.memory = st.memory := by
  simp only [Store.openImport] at h
  repeat' split at h
  all_goals first
    | (simp only [reduceCtorEq] at h)
    | (rename_i hc
       simp only [Except.ok.injEq] at h
       subst h
       exact (Store.createTake_memory hc :))

theorem Store.writeSlot_wf {st : Store} (h : Memory.wf st.memory = true) (n : Nat) (t : Take) (r : Record) :
    Memory.wf (st.writeSlot n t r).memory = true :=
  Memory.writeBytes_wf _ _ _ h

/-- An appended record keeps the canonical form. -/
theorem Store.append_wf {st st' : Store} (h : Memory.wf st.memory = true) {n keep : Nat} {r : Record}
    (e : st.append n keep r = some st') : Memory.wf st'.memory = true := by
  simp only [Store.append] at e
  split at e
  · simp at e
  · split at e
    · split at e
      · simp only [Option.map_eq_some_iff, Prod.exists] at e
        obtain ⟨st1, t1, ha, rfl⟩ := e
        exact Store.writeSlot_wf ((Store.allocate_memory ha).symm ▸ h) _ _ _
      · simp at e
    · simp only [Option.some.injEq] at e
      subst e
      exact Store.writeSlot_wf h _ _ _

theorem Store.writeAt_wf {st st' : Store} (h : Memory.wf st.memory = true) {keep : Nat} {p : Payload} {position : Nat}
    {stamp : Time} (e : st.writeAt keep p position stamp = some st') : Memory.wf st'.memory = true := by
  simp only [Store.writeAt] at e
  split at e
  · simp at e
  · simp only [Option.map_eq_some_iff] at e
    obtain ⟨st1, ha, rfl⟩ := e
    exact (Store.append_wf h ha :)

theorem Store.writeClosing_wf {st : Store} (h : Memory.wf st.memory = true) (position : Nat) (stamp : Time) (p : Payload) :
    Memory.wf (st.writeClosing position stamp p).memory = true := by
  simp only [Store.writeClosing]
  cases e : st.writeAt 0 p position stamp with
  | none => exact h
  | some st' => exact Store.writeAt_wf h e

theorem Store.closeAt_wf {st : Store} (h : Memory.wf st.memory = true) (position : Nat) (stamp : Time) :
    Memory.wf (st.closeAt position stamp).memory = true := by
  simp only [Store.closeAt]
  split
  · exact h
  · exact foldl_holds (fun u : Store => Memory.wf u.memory = true) _ (fun u p hu => Store.writeClosing_wf hu position stamp p) _ _ h

theorem Store.truncateAt_wf {st : Store} (h : Memory.wf st.memory = true) (position : Nat) (stamp : Time) :
    Memory.wf (st.truncateAt position stamp).memory = true := by
  simp only [Store.truncateAt]
  split
  · exact h
  · exact Store.closeAt_wf (by simpa using h) _ _

theorem Store.writeOrTruncate_wf {st : Store} (h : Memory.wf st.memory = true) (p : Payload) (position : Nat) (stamp : Time) :
    Memory.wf (st.writeOrTruncate p position stamp).1.memory = true := by
  simp only [Store.writeOrTruncate]
  split
  · rename_i hw
    exact Store.writeAt_wf h hw
  · exact Store.truncateAt_wf h _ _

@[simp] theorem Store.writeGap_wf {st : Store} (h : Memory.wf st.memory = true) : Memory.wf st.writeGap.1.memory = true := by
  simp only [Store.writeGap]
  split
  · exact h
  · exact Store.writeOrTruncate_wf h _ _ _

theorem Store.writeGaps_wf (n : Nat) {st : Store} (h : Memory.wf st.memory = true) :
    Memory.wf (Store.writeGaps n st).1.memory = true := by
  induction n generalizing st with
  | zero => exact h
  | succ n ih =>
    simp only [Store.writeGaps]
    split
    · exact Store.writeGap_wf h
    · exact ih (Store.writeGap_wf h)

/-- A record handed to the recorder keeps the canonical form. -/
@[simp] theorem Store.record_wf {st : Store} (h : Memory.wf st.memory = true) (p : Payload) (stamp : Time) :
    Memory.wf (Store.record p stamp st).1.memory = true := by
  simp only [Store.record]
  split
  · exact h
  · split
    · split
      · exact Store.writeGaps_wf _ h
      · exact Store.writeOrTruncate_wf (Store.writeGaps_wf _ h) _ _ _
    · exact h

@[simp] theorem Store.writeOverdue_wf {st : Store} (h : Memory.wf st.memory = true) (stamp : Time) :
    Memory.wf (Store.writeOverdue stamp st).1.memory = true := by
  simp only [Store.writeOverdue]
  split
  · exact h
  · split
    · exact Store.writeGaps_wf _ h
    · exact h

@[simp] theorem Store.recordNoteOn_wf {st : Store} (h : Memory.wf st.memory = true) (key velocity : Nat) (stamp : Time) :
    Memory.wf (Store.recordNoteOn key velocity stamp st).1.memory = true := by
  simp only [Store.recordNoteOn]
  split
  · exact h
  · split
    · split
      · exact Store.record_wf h _ _
      · exact Store.record_wf (Store.record_wf h _ _) _ _
    · exact Store.record_wf h _ _

@[simp] theorem Store.recordNoteOff_wf {st : Store} (h : Memory.wf st.memory = true) (key velocity : Nat) (stamp : Time) :
    Memory.wf (Store.recordNoteOff key velocity stamp st).1.memory = true := by
  simp only [Store.recordNoteOff]
  split
  · exact h
  · split
    · exact Store.record_wf h _ _
    · exact h

/-- A closing keeps the canonical form. -/
@[simp] theorem Store.closeRecording_wf {st : Store} (h : Memory.wf st.memory = true) (stamp : Option Time) :
    Memory.wf (Store.closeRecording stamp st).memory = true := by
  simp only [Store.closeRecording]
  split
  · exact h
  · split
    · split
      · exact Store.closeAt_wf h _ _
      · exact Store.closeAt_wf h _ _
    · simpa using h

theorem Store.importRecord_wf {st st' : Store} (h : Memory.wf st.memory = true) {r : Record}
    (e : st.importRecord r = some st') : Memory.wf st'.memory = true := by
  simp only [Store.importRecord] at e
  split at e
  · simp at e
  · simp only [Option.map_eq_some_iff] at e
    obtain ⟨st1, ha, rfl⟩ := e
    exact (Store.append_wf h ha :)

@[simp] theorem Store.failImport_memory (st : Store) : st.failImport.memory = st.memory := by
  simp only [Store.failImport]
  split <;> simp

@[simp] theorem Store.finishImport_memory (h : Header) (st : Store) : (Store.finishImport h st).memory = st.memory := by
  simp only [Store.finishImport]
  split <;> simp

@[simp] theorem Store.finishTakes_wf {st : Store} (h : Memory.wf st.memory = true) :
    Memory.wf st.finishTakes.1.memory = true := by
  simp only [Store.finishTakes]
  split
  · simpa using h
  · split
    · exact Store.closeRecording_wf (by simpa using h) _
    · exact Store.closeRecording_wf (by simpa using h) _

end Sys2Proof.Machine
end

