-- ==== Sys2Proof/Laws/PerInstr.lean ====
section
/-! SUPPORT. The laws made per command: one lemma for each constructor of `Instr`. -/

namespace Sys2Proof.Laws.FrameDecodes

open Sys2Proof Sys2Proof.Machine

/-- Where a well-formed command is a request, its kind byte and frame name it again (12.2). -/
def Statement (i : Instr) : Prop :=
  ∀ (code : Byte) (f : Frame), i.wellFormed = true → encodeRequest i = some (code, f) → decodeRequest code f = i

/-- A command that is no request has no frame. -/
theorem of_none {i : Instr} (e : encodeRequest i = none) : Statement i := by
  intro code f _ h
  rw [e] at h
  cases h

/-- A request whose frame is known, and is decoded to it. -/
theorem of_some {i : Instr} {code : Byte} {f : Frame} (e : encodeRequest i = some (code, f)) (d : decodeRequest code f = i) :
    Statement i := by
  intro code' f' _ h
  rw [e] at h
  cases h
  exact d

theorem keySample (now : Time) (key raw : Nat) : Statement (.keySample now key raw) := of_none rfl

theorem pedalSample (now : Time) (pedal : PedalId) (raw : Nat) : Statement (.pedalSample now pedal raw) := of_none rfl

theorem calWrite (frame : Frame) : Statement (.calWrite frame) := of_some rfl rfl

theorem calRead (frame : Frame) : Statement (.calRead frame) := of_some rfl rfl

theorem calCaptureRest (frame : Frame) : Statement (.calCaptureRest frame) := of_some rfl rfl

theorem restCaptureComplete (now : Time) : Statement (.restCaptureComplete now) := of_none rfl

theorem calCaptureBottom (frame : Frame) : Statement (.calCaptureBottom frame) := of_some rfl rfl

theorem bottomCaptureComplete (now : Time) (raw : Nat) : Statement (.bottomCaptureComplete now raw) := of_none rfl

theorem keyWatch (frame : Frame) : Statement (.keyWatch frame) := of_some rfl rfl

theorem keyReport (frame : Frame) : Statement (.keyReport frame) := of_some rfl rfl

theorem keyLines (frame : Frame) : Statement (.keyLines frame) := of_some rfl rfl

theorem curveWrite (frame : Frame) : Statement (.curveWrite frame) := of_some rfl rfl

theorem curveSelect (frame : Frame) : Statement (.curveSelect frame) := of_some rfl rfl

theorem curveRead (frame : Frame) : Statement (.curveRead frame) := of_some rfl rfl

theorem strokeSlowLimit (frame : Frame) : Statement (.strokeSlowLimit frame) := of_some rfl rfl

theorem noteCopy (frame : Frame) : Statement (.noteCopy frame) := of_some rfl rfl

theorem soundingReport (frame : Frame) : Statement (.soundingReport frame) := of_some rfl rfl

theorem allNotesOff (frame : Frame) : Statement (.allNotesOff frame) := of_some rfl rfl

theorem toneStreamSetup (frame : Frame) : Statement (.toneStreamSetup frame) := of_some rfl rfl

theorem flushTone (frame : Frame) : Statement (.flushTone frame) := of_some rfl rfl

theorem drain (now : Time) : Statement (.drain now) := of_none rfl

theorem drainSlotStart (now : Time) : Statement (.drainSlotStart now) := of_none rfl

theorem drainSlotComplete (now : Time) : Statement (.drainSlotComplete now) := of_none rfl

theorem drainSlotAbandon (now : Time) : Statement (.drainSlotAbandon now) := of_none rfl

theorem ageCondition (now : Time) : Statement (.ageCondition now) := of_none rfl

theorem railEngage (frame : Frame) : Statement (.railEngage frame) := of_some rfl rfl

theorem railRetract (frame : Frame) : Statement (.railRetract frame) := of_some rfl rfl

theorem quietWaitExpiry (now : Time) : Statement (.quietWaitExpiry now) := of_none rfl

theorem kickEnd (now : Time) : Statement (.kickEnd now) := of_none rfl

theorem dutyStep (now : Time) : Statement (.dutyStep now) := of_none rfl

theorem stallTimerExpiry (now : Time) : Statement (.stallTimerExpiry now) := of_none rfl

theorem retryDwellEnd (now : Time) : Statement (.retryDwellEnd now) := of_none rfl

theorem reversalDwellEnd (now : Time) : Statement (.reversalDwellEnd now) := of_none rfl

theorem moveTimeout (now : Time) : Statement (.moveTimeout now) := of_none rfl

theorem encoderPulse (now : Time) (direction : Direction) : Statement (.encoderPulse now direction) := of_none rfl

theorem endSwitchChange (now : Time) (switch : EndSwitch) (active : Bool) : Statement (.endSwitchChange now switch active) := of_none rfl

theorem currentSample (now : Time) (milliamps : Nat) : Statement (.currentSample now milliamps) := of_none rfl

theorem railProfile (frame : Frame) : Statement (.railProfile frame) := of_some rfl rfl

theorem railStatus (frame : Frame) : Statement (.railStatus frame) := of_some rfl rfl

theorem railAck (frame : Frame) : Statement (.railAck frame) := of_some rfl rfl

theorem railClearDisturbed (frame : Frame) : Statement (.railClearDisturbed frame) := of_some rfl rfl

theorem standbySwitchChange (switch : EndSwitch) (active : Bool) : Statement (.standbySwitchChange switch active) := of_none rfl

theorem fallboardClose (now : Time) : Statement (.fallboardClose now) := of_none rfl

theorem fallboardOpen (now : Time) : Statement (.fallboardOpen now) := of_none rfl

theorem jackChange (now : Time) (jack : Jack) (inserted : Bool) : Statement (.jackChange now jack inserted) := of_none rfl

theorem inputFrame (now : Time) (left right : Sample24) : Statement (.inputFrame now left right) := of_none rfl

theorem outputFrame (now : Time) : Statement (.outputFrame now) := of_none rfl

theorem clickEnd (now : Time) : Statement (.clickEnd now) := of_none rfl

theorem alertSegmentEnd (now : Time) : Statement (.alertSegmentEnd now) := of_none rfl

theorem nextBeatTime (now : Time) : Statement (.nextBeatTime now) := of_none rfl

theorem audioSetup (frame : Frame) : Statement (.audioSetup frame) := of_some rfl rfl

theorem audioMute (frame : Frame) : Statement (.audioMute frame) := of_some rfl rfl

theorem metroSet (frame : Frame) : Statement (.metroSet frame) := of_some rfl rfl

theorem metroRun (frame : Frame) : Statement (.metroRun frame) := of_some rfl rfl

theorem audioReport (frame : Frame) : Statement (.audioReport frame) := of_some rfl rfl

theorem takeList (frame : Frame) : Statement (.takeList frame) := of_some rfl rfl

theorem takeDelete (frame : Frame) : Statement (.takeDelete frame) := of_some rfl rfl

theorem takeName (frame : Frame) : Statement (.takeName frame) := of_some rfl rfl

theorem memoryReport (frame : Frame) : Statement (.memoryReport frame) := of_some rfl rfl

theorem gapExpiry (now : Time) : Statement (.gapExpiry now) := of_none rfl

theorem durationLimit (now : Time) : Statement (.durationLimit now) := of_none rfl

theorem takeRecord (frame : Frame) : Statement (.takeRecord frame) := of_some rfl rfl

theorem takePlay (frame : Frame) : Statement (.takePlay frame) := of_some rfl rfl

theorem takeStop (frame : Frame) : Statement (.takeStop frame) := of_some rfl rfl

theorem takePause (frame : Frame) : Statement (.takePause frame) := of_some rfl rfl

theorem takeResume (frame : Frame) : Statement (.takeResume frame) := of_some rfl rfl

theorem takeSpeed (frame : Frame) : Statement (.takeSpeed frame) := of_some rfl rfl

theorem takeSeek (frame : Frame) : Statement (.takeSeek frame) := of_some rfl rfl

theorem seekComplete (now : Time) : Statement (.seekComplete now) := of_none rfl

theorem loopSet (frame : Frame) : Statement (.loopSet frame) := of_some rfl rfl

theorem loopClear (frame : Frame) : Statement (.loopClear frame) := of_some rfl rfl

theorem transportReport (frame : Frame) : Statement (.transportReport frame) := of_some rfl rfl

theorem recordDelivery (now : Time) : Statement (.recordDelivery now) := of_none rfl

theorem loopJump (now : Time) : Statement (.loopJump now) := of_none rfl

theorem practiceSet (frame : Frame) : Statement (.practiceSet frame) := of_some rfl rfl

theorem waitReport (frame : Frame) : Statement (.waitReport frame) := of_some rfl rfl

theorem exportOpen (frame : Frame) : Statement (.exportOpen frame) := of_some rfl rfl

theorem exportRead (frame : Frame) : Statement (.exportRead frame) := of_some rfl rfl

theorem exportClose (frame : Frame) : Statement (.exportClose frame) := of_some rfl rfl

theorem exportIdleExpiry (now : Time) : Statement (.exportIdleExpiry now) := of_none rfl

theorem importOpen (frame : Frame) : Statement (.importOpen frame) := of_some rfl rfl

theorem importWrite (frame : Frame) : Statement (.importWrite frame) := of_some rfl rfl

theorem importClose (frame : Frame) : Statement (.importClose frame) := of_some rfl rfl

theorem importIdleExpiry (now : Time) : Statement (.importIdleExpiry now) := of_none rfl

theorem identify (frame : Frame) : Statement (.identify frame) := of_some rfl rfl

theorem linkReport (frame : Frame) : Statement (.linkReport frame) := of_some rfl rfl

theorem statusMask (frame : Frame) : Statement (.statusMask frame) := of_some rfl rfl

theorem restart (frame : Frame) : Statement (.restart frame) := of_some rfl rfl

theorem restartWarmStart (now : Time) (pins : Pins) : Statement (.restartWarmStart now pins) := of_none rfl

theorem restartTimeout (now : Time) (pins : Pins) : Statement (.restartTimeout now pins) := of_none rfl

theorem unknown (kind : Byte) (frame : Frame) : Statement (.unknown kind frame) := by
  intro code f w h
  cases h
  have known : reqOfCode kind.toNat = .unknown := by
    revert w
    have all : ∀ k : Byte, decide (k.toNat ∉ requestCodes) = true → reqOfCode k.toNat = .unknown := by decide +kernel
    exact all kind
  simp [decodeRequest, known, commandOf]

theorem badSelector (now : Time) : Statement (.badSelector now) := of_none rfl

theorem replyRead (now : Time) (link : Addressed Link) (toEnd judged : Bool) :
    Statement (.replyRead now link toEnd judged) := of_none rfl

theorem replyStretchTimeout (now : Time) : Statement (.replyStretchTimeout now) := of_none rfl

theorem pointerWrite (now : Time) (value : Addressed Byte) : Statement (.pointerWrite now value) := of_none rfl

theorem statusRead (now : Time) (link : Addressed Link) : Statement (.statusRead now link) := of_none rfl

theorem statusReadAbandon (now : Time) (link : Link) : Statement (.statusReadAbandon now link) := of_none rfl

theorem streamRead (now : Time) (bytes : Addressed Nat) : Statement (.streamRead now bytes) := of_none rfl

theorem powerOn (now : Time) (pins : Pins) : Statement (.powerOn now pins) := of_none rfl

theorem resetPin (now : Time) (pins : Pins) : Statement (.resetPin now pins) := of_none rfl

theorem waitingCountRise (now : Time) : Statement (.waitingCountRise now) := of_none rfl

theorem mainPowerLoss : Statement .mainPowerLoss := of_none rfl

theorem standbySupplyLoss : Statement .standbySupplyLoss := of_none rfl

end Sys2Proof.Laws.FrameDecodes
end

