-- ==== Sys2Proof/Laws/Router.lean ====
section
/-! SUPPORT. What a read of a key's record, of a Sounding Table entry or of a directory entry gives after an update, and what the
Note Router's offers and silencings leave of owners, released marks and the Sostenuto Set. -/

namespace Sys2Proof.Machine

open Sys2Proof

/-! ### Reading a table after an update -/

/-- Two numbers share a place of a table of at most 2048 items only when they are equal, once that place lies in the table. -/
theorem slotOf_inj {j k n : Nat} (hn : n ≤ 2048) (hk : slotOf k < n) (h : slotOf j = slotOf k) : j = k := by
  simp only [slotOf, Config.takeBlocks] at *
  split at h <;> split at h <;> simp_all <;> omega

/-- A place of the table of keys is that of a key 1..88. -/
theorem slotOf_lt {k n : Nat} (hn : n ≤ 2048) : slotOf k < n ↔ 1 ≤ k ∧ k ≤ n := by
  simp only [slotOf, Config.takeBlocks]
  split <;> omega

theorem State.key_setKey (s : State) (k j : Nat) (x : Key) :
    (s.setKey k x).key j = if j = k ∧ 1 ≤ k ∧ k ≤ 88 then x else s.key j := by
  have hlt := @slotOf_lt k 88 (by omega)
  simp only [State.key, State.setKey, Vector.getElem?_setIfInBounds]
  by_cases hk : slotOf k < 88
  · by_cases hj : slotOf k = slotOf j
    · have : j = k := slotOf_inj (by omega) hk hj.symm
      subst this
      simp [hk, hlt.1 hk]
    · have : j ≠ k := fun h => hj (h ▸ rfl)
      simp [hj, this]
  · have hk' : ¬(1 ≤ k ∧ k ≤ 88) := fun h => hk (hlt.2 h)
    by_cases hj : slotOf k = slotOf j
    · have : ¬slotOf j < 88 := hj ▸ hk
      simp [hj, hk', this]
    · simp [hj, hk']

theorem State.sound_setSound (s : State) (k j : Nat) (x : SoundEntry) :
    (s.setSound k x).sound j = if j = k ∧ 1 ≤ k ∧ k ≤ 88 then x else s.sound j := by
  have hlt := @slotOf_lt k 88 (by omega)
  simp only [State.sound, State.setSound, Vector.getElem?_setIfInBounds]
  by_cases hk : slotOf k < 88
  · by_cases hj : slotOf k = slotOf j
    · have : j = k := slotOf_inj (by omega) hk hj.symm
      subst this
      simp [hk, hlt.1 hk]
    · have : j ≠ k := fun h => hj (h ▸ rfl)
      simp [hj, this]
  · have hk' : ¬(1 ≤ k ∧ k ≤ 88) := fun h => hk (hlt.2 h)
    by_cases hj : slotOf k = slotOf j
    · have : ¬slotOf j < 88 := hj ▸ hk
      simp [hj, hk', this]
    · simp [hj, hk']

theorem Store.entry_setEntry (st : Store) (n m : Nat) (e : Option Take) :
    (st.setEntry n e).entry m = if m = n ∧ 1 ≤ n ∧ n ≤ 16 then e else st.entry m := by
  have hlt := @slotOf_lt n 16 (by omega)
  simp only [Store.entry, Store.setEntry, Vector.getElem?_setIfInBounds]
  by_cases hk : slotOf n < 16
  · by_cases hj : slotOf n = slotOf m
    · have : m = n := slotOf_inj (by omega) hk hj.symm
      subst this
      simp [hk, hlt.1 hk]
    · have : m ≠ n := fun h => hj (h ▸ rfl)
      simp [hj, this]
  · have hk' : ¬(1 ≤ n ∧ n ≤ 16) := fun h => hk (hlt.2 h)
    by_cases hj : slotOf n = slotOf m
    · have : ¬slotOf m < 16 := hj ▸ hk
      simp [hj, hk', this]
    · simp [hj, hk']

/-- A second update of a key's record replaces the first. -/
@[simp] theorem State.setKey_setKey (s : State) (k : Nat) (x y : Key) : (s.setKey k x).setKey k y = s.setKey k y := by
  simp [State.setKey]

@[simp] theorem State.setSound_setSound (s : State) (k : Nat) (x y : SoundEntry) :
    (s.setSound k x).setSound k y = s.setSound k y := by
  simp [State.setSound]

/-- A number outside 1..88 names a SILENT entry. -/
theorem State.sound_outside (s : State) {k : Nat} (h : ¬(1 ≤ k ∧ k ≤ 88)) : s.sound k = SoundEntry.initial := by
  have : ¬slotOf k < 88 := fun hk => h ((slotOf_lt (by omega)).1 hk)
  have hn : (s.router.table[slotOf k]?) = none := by simp; omega
  simp [State.sound, hn]

/-- Entries are read from the table alone. -/
theorem State.sound_congr {s t : State} (h : t.router = s.router) (k : Nat) : t.sound k = s.sound k := by
  simp only [State.sound, h]

/-- Keys are read from the Scanner alone. -/
theorem State.key_congr {s t : State} (h : t.scanner = s.scanner) (k : Nat) : t.key k = s.key k := by
  simp only [State.key, h]

/-! ### What an offer leaves of the Sounding Table -/

/-- Clearing the announced marks leaves owner, last velocity and released mark of every entry (R57). -/
theorem State.sound_clearAnnounced (s : State) (j : Nat) :
    s.clearAnnounced.sound j = { s.sound j with announced := false } := by
  simp only [State.sound, State.clearAnnounced, Vector.getElem?_map]
  cases s.router.table[slotOf j]? <;> rfl

/-- The two parts of an entry that an offer may not change, and the Sostenuto Set. -/
def State.sameSounding (s t : State) : Prop :=
  t.router.sostenutoSet = s.router.sostenutoSet ∧
    ∀ j, (t.sound j).owner = (s.sound j).owner ∧ (t.sound j).released = (s.sound j).released

theorem State.sameSounding_refl (s : State) : s.sameSounding s := ⟨rfl, fun _ => ⟨rfl, rfl⟩⟩

theorem State.sameSounding_trans {s t u : State} (h : s.sameSounding t) (h' : t.sameSounding u) : s.sameSounding u :=
  ⟨h'.1.trans h.1, fun j => ⟨(h'.2 j).1.trans (h.2 j).1, (h'.2 j).2.trans (h.2 j).2⟩⟩

theorem State.sameSounding_of_router {s t : State} (h : t.router = s.router) : s.sameSounding t :=
  ⟨by rw [h], fun j => by rw [State.sound_congr h j]; exact ⟨rfl, rfl⟩⟩

theorem State.sameSounding_clearAnnounced (s : State) : s.sameSounding s.clearAnnounced :=
  ⟨rfl, fun j => by rw [State.sound_clearAnnounced]; exact ⟨rfl, rfl⟩⟩

theorem State.sameSounding_overflow (s : State) : s.sameSounding s.overflow :=
  State.sameSounding_trans (t := State.clearAnnounced { s with tone := _ })
    (State.sameSounding_trans (State.sameSounding_of_router rfl) (State.sameSounding_clearAnnounced _))
    (State.sameSounding_of_router rfl)

/-- An offer to the Tone Stream leaves who sounds and which marks are released (R57, R72). -/
theorem State.sameSounding_offerTone (e : ToneEntry) (s : State) : s.sameSounding (s.offerTone e).1 := by
  simp only [State.offerTone]
  repeat' split
  all_goals first
    | exact State.sameSounding_of_router rfl
    | exact State.sameSounding_overflow s

theorem State.sameSounding_panelOffer (e : PanelEntry) (s : State) : s.sameSounding (s.panelOffer e) :=
  State.sameSounding_of_router (by simp)

/-- An offer of a note entry leaves who sounds and which marks are released (R57). -/
theorem State.sameSounding_offerNote (e : ToneEntry) (k : Nat) (c : Option Cause) (s : State) :
    s.sameSounding (s.offerNote e k c).1 := by
  simp only [State.offerNote]
  split
  · exact State.sameSounding_trans (State.sameSounding_offerTone e s) (State.sameSounding_panelOffer _ _)
  · exact State.sameSounding_offerTone e s

/-! ### Silencing -/

/-- A silencing leaves the Sostenuto Set and every other key, and its key has no owner and no released mark (R60, R61, R64). -/
theorem State.silenceWith_sound (k v : Nat) (o : Source) (f : NoteFlags) (c : Option Cause) (m : Time) (s : State) :
    (s.silenceWith k v o f c m).router.sostenutoSet = s.router.sostenutoSet ∧
    ∀ j, ((s.silenceWith k v o f c m).sound j).owner = (if j = k then none else (s.sound j).owner) ∧
      ((s.silenceWith k v o f c m).sound j).released = (if j = k then false else (s.sound j).released) := by
  have base : (s.silence k).router.sostenutoSet = s.router.sostenutoSet ∧
      ∀ j, ((s.silence k).sound j).owner = (if j = k then none else (s.sound j).owner) ∧
        ((s.silence k).sound j).released = (if j = k then false else (s.sound j).released) := by
    refine ⟨rfl, fun j => ?_⟩
    simp only [State.silence, State.sound_setSound]
    by_cases hj : j = k
    · subst hj
      by_cases hr : 1 ≤ j ∧ j ≤ 88
      · simp [hr, SoundEntry.silenced]
      · simp [hr, s.sound_outside hr, SoundEntry.initial]
    · simp [hj]
  simp only [State.silenceWith]
  split
  · have h := State.sameSounding_offerNote (.noteOff k v o f m) k c (s.silence k)
    exact ⟨h.1.trans base.1, fun j => ⟨(h.2 j).1.trans (base.2 j).1, (h.2 j).2.trans (base.2 j).2⟩⟩
  · exact base

end Sys2Proof.Machine
end

