-- ==== Sys2Proof/Laws/Transfers.lean ====
section
/-! SUPPORT. What the bytes of an import can do to the Take Store: nothing, or write one record. -/

namespace Sys2Proof.Machine

open Sys2Proof

/-- The store a taken byte leaves. -/
def Taken.store : Taken → Store
  | .goes _ st => st
  | .aborts _ st _ => st

theorem Import.headerByte_store (b : Byte) (x : Import) (st : Store) : (x.headerByte b st).store = st := by
  simp only [Import.headerByte]
  repeat' split
  all_goals rfl

/-- A byte of the records leaves the store, or completes a record that the store writes. -/
theorem Import.recordByte_store (b : Byte) (x : Import) (st : Store) :
    (x.recordByte b st).store = st ∨ ∃ r, st.importRecord r = some (x.recordByte b st).store := by
  simp only [Import.recordByte]
  split
  · exact .inl rfl
  · split
    · exact .inl rfl
    · split
      · exact .inl rfl
      · rename_i hr
        exact .inr ⟨_, hr⟩

/-- One byte of an import leaves the store, or completes a record that the store writes. -/
theorem Import.takeByte_store (b : Byte) (x : Import) (st : Store) :
    (x.takeByte b st).store = st ∨ ∃ r, st.importRecord r = some (x.takeByte b st).store := by
  simp only [Import.takeByte]
  split
  · split
    · exact .inl (Import.headerByte_store _ _ _)
    · exact Import.recordByte_store _ _ _
  · exact .inl rfl

/-- What every written record keeps, the bytes of an import keep. -/
theorem Import.takeBytes_holds {P : Store → Prop} (hP : ∀ st st' r, P st → Store.importRecord st r = some st' → P st')
    (l : List Byte) (x : Import) (st : Store) (h : P st) : P (x.takeBytes st l).store := by
  induction l generalizing x st with
  | nil => exact h
  | cons b rest ih =>
    have hb : P (x.takeByte b st).store := by
      rcases Import.takeByte_store b x st with he | ⟨r, he⟩
      · exact he.symm ▸ h
      · exact hP _ _ _ h he
    simp only [Import.takeBytes]
    cases e : x.takeByte b st with
    | goes y st' => rw [e] at hb; exact ih y st' hb
    | aborts y st' r => rw [e] at hb; exact hb

/-- The bytes of an import keep the canonical form of take memory. -/
theorem Import.takeBytes_wf (l : List Byte) (x : Import) {st : Store} (h : Memory.wf st.memory = true) :
    Memory.wf (x.takeBytes st l).store.memory = true :=
  Import.takeBytes_holds (P := fun st => Memory.wf st.memory = true) (fun _ _ _ h e => Store.importRecord_wf h e) l x st h

end Sys2Proof.Machine
end

