-- ==== Sys2Proof/Tests/Slice0.lean ====
section
/-! SUPPORT. The model's own tests: the refusals of `Instr.wellFormed`, decoded frames, worked numbers of the manual, and for every
statement of Obligations.lean that has hypotheses a named witness (`test_meets_…`): concrete states and operands that meet the
hypotheses of each of its clauses, at the ends of their ranges. -/

namespace Sys2Proof.Tests

open Sys2Proof Sys2Proof.Machine

/-! ### Helpers -/

/-- A request frame on Link T that ends at 1,000 µs and is judged at once. -/
def frame (p : List Byte) : Frame :=
  { now := 1000, link := .t, address := 0, body := BitVec.ofNat 8 p.length :: p, deferred := false }

theorem takes (s : State) (p : List Byte) (on : s.system.mainOn = true) (empty : s.linkT.buffer = .empty)
    (short : p.length ≤ 255) : s.canTake (frame p) p := by
  refine ⟨on, rfl, ?_, rfl, short, rfl⟩
  intro kind begun h
  have e : s.linkT.buffer = .handling kind begun := h
  rw [empty] at e
  cases e

/-- The next state's value of a test on states, false when there is no next state. -/
def gives (o : Host.Outcome State Fault Refusal) (p : State → Bool) : Bool :=
  match o with
  | .next t => p t
  | .fault _ => false
  | .refused _ => false

/-- The reply that stands READY on Link T. -/
def replyOf (s : State) : Option Reply :=
  match s.linkT.buffer with
  | .ready r => some r
  | .empty => none
  | .handling _ _ => none

/-- The machine after reset with every key's record replaced. -/
def keysIn (k : Key) : State := { State.reset with scanner := { Scanner.initial with keys := Vector.replicate 88 k } }

/-- A key with rest raw 700 and bottom raw 300. -/
def goodKey : Key := { Key.initial with cal := { restRaw := 700, bottomRaw := 300, trim := 15, enabled := true }, state := .rest }

/-- The machine after reset with `n` PEDAL entries in the Tone Queue. -/
def toneIn (n : Nat) : State :=
  { State.reset with
    tone := { Tone.initial with queue := List.replicate n { entry := .pedal .damper 1 .live 0, admitted := 0 } } }

/-- The machine after reset with every Sounding Table entry replaced. -/
def soundsIn (e : SoundEntry) (sostenuto : List Nat) (on : Bool) : State :=
  { State.reset with
    router := { Router.initial with table := Vector.replicate 88 e, sostenutoSet := sostenuto }
    pedals := { PedalUnit.initial with sostenuto := { SwitchPedal.initial with effective := on, live := on } } }

/-- The machine after reset with another rail record. -/
def railIn (r : Rail) : State := { State.reset with rail := r }

/-- The machine after reset with another Transport record. -/
def transportIn (t : Transport) : State := { State.reset with transport := t }

/-- One record of each kind, in order, 8,195 ms in all: NOTE_ON 60 HIGH, NOTE_OFF 60, DAMPER 100, SOSTENUTO 127, SOFT 20, a beat,
GAP, NOTE_ON 17 LOW and END. -/
def takeBytes : List Byte :=
  [0x10, 0x00, 0xBC, 0x40] ++ [0x20, 0x05, 0x3C, 0x1E] ++ [0x30, 0x00, 0x01, 0x64] ++ [0x30, 0x00, 0x02, 0x7F] ++
  [0x30, 0x00, 0x03, 0x14] ++ [0x40, 0x00, 0x00, 0x11] ++ [0x5F, 0xFF, 0x00, 0x00] ++ [0x1F, 0xFF, 0x11, 0x01] ++
  [0x60, 0x00, 0x00, 0x00]

/-- A CLOSED take of those records in block 0. -/
def closedTake : Take :=
  { state := .closed, flags := {}, count := 9, duration := 8195, tempo := none, split := 45, name := none, serial := 1,
    first := 0, last := 0, playing := false, exporting := false }

/-- A Take Store with one entry as take 1, its records in block 0, and the given blocks free. -/
def storeIn (e : Take) (free : List Nat) : Store :=
  { Store.initial with
    memory := Memory.writeBytes 0 takeBytes [], directory := (Vector.replicate 16 none).setIfInBounds 0 (some e)
    blockMap := (Vector.replicate 2048 .free).setIfInBounds 0 (.used 1 none), freeList := free, serial := 1 }

/-- The machine after reset with that Take Store. -/
def takesIn (e : Take) (free : List Nat) : State := { State.reset with store := storeIn e free }

/-- A recording context of take 1 with its clock started at 0 µs and the given notes open. -/
def openContext (notes : List Nat) : RecordingContext :=
  { take := 1, started := true, position := 0, lastTime := 0, lastStamp := 0, openNotes := notes, levels := PedalLevels.zero }

/-- Take 1 with `count` records and a recording of it going on. -/
def openTake (count : Nat) : Take := { closedTake with state := .recording, count := count }

/-- A machine with that recording. -/
def recordingFrom (s : State) (count : Nat) (notes free : List Nat) : State :=
  { s with
    store := { storeIn (openTake count) free with recording := some (openContext notes) }
    transport := { Transport.initial with state := .recording, take := some 1 } }

/-- A record that needs a block with 4 free, at the moment of the first GAP expiry, can be taken as it comes. -/
theorem records_at_the_ends (s : State) (notes : List Nat) :
    (recordingFrom s 32 notes [1, 2, 3, 4]).transport.state = .recording ∧
    (recordingFrom s 32 notes [1, 2, 3, 4]).records (openContext notes) (openTake 32) 4095000 :=
  ⟨rfl, show Memory.wf (Memory.writeBytes 0 takeBytes []) = true by decide, rfl, rfl, Nat.le_refl 1,
    show 1 ≤ 16 by decide, show (storeIn (openTake 32) [1, 2, 3, 4]).entry 1 = some (openTake 32) by decide,
    show (openContext []).positionAt 4095000 ≤ (0 + 4095) * 1000 by decide, fun _ => show 3 < 4 by decide⟩

/-- The machine armed for a take with its clock not started, the damper and the sostenuto pedal held down. -/
def armedAt (click : Bool) : State :=
  { State.reset with
    store := { storeIn (openTake 0) [1, 2, 3, 4] with recording := some { openContext [] with started := false } }
    transport := { Transport.initial with state := .armed, take := some 1, armMode := some .firstNote, click := click }
    pedals :=
      { PedalUnit.initial with
        damper := { LevelPedal.initial with live := 127, effective := 127 }
        sostenuto := { SwitchPedal.initial with live := true, effective := true } } }

/-! ### What is refused as no event of the part -/

theorem test_illFormed_key_0 : (Instr.keySample 0 0 500).wellFormed = false := by decide
theorem test_illFormed_key_89 : (Instr.keySample 0 89 500).wellFormed = false := by decide
theorem test_illFormed_key_raw_1024 : (Instr.keySample 0 1 1024).wellFormed = false := by decide
theorem test_illFormed_pedal_raw_1024 : (Instr.pedalSample 0 .damper 1024).wellFormed = false := by decide
theorem test_illFormed_bottom_raw_1024 : (Instr.bottomCaptureComplete 0 1024).wellFormed = false := by decide
theorem test_illFormed_current_above_2040 : (Instr.currentSample 0 2048).wellFormed = false := by decide
theorem test_illFormed_current_no_step_of_8 : (Instr.currentSample 0 12).wellFormed = false := by decide
theorem test_illFormed_unknown_of_a_known_kind : (Instr.unknown 0x10 (frame [])).wellFormed = false := by decide
theorem test_illFormed_is_refused : exec (.keySample 0 89 500) State.reset = .refused .illFormed := rfl
theorem test_wellFormed_at_the_ends :
    (Instr.keySample 0 88 1023).wellFormed = true ∧ (Instr.currentSample 0 2040).wellFormed = true ∧
      (Instr.unknown 0x00 (frame [])).wellFormed = true := by decide

/-! ### Frames and kind codes (12.2, R192, R193) -/

theorem test_decode_one_kind_of_each_family :
    decodeRequest 0x10 (frame [1]) = .calWrite (frame [1]) ∧
      decodeRequest 0x15 (frame []) = .keyReport (frame []) ∧
      decodeRequest 0x19 (frame []) = .curveWrite (frame []) ∧
      decodeRequest 0x22 (frame []) = .allNotesOff (frame []) ∧
      decodeRequest 0x24 (frame []) = .toneStreamSetup (frame []) ∧
      decodeRequest 0x2D (frame []) = .railProfile (frame []) ∧
      decodeRequest 0x33 (frame []) = .metroRun (frame []) ∧
      decodeRequest 0x3A (frame []) = .takeName (frame []) ∧
      decodeRequest 0x47 (frame []) = .loopSet (frame []) ∧
      decodeRequest 0x4D (frame []) = .waitReport (frame []) ∧
      decodeRequest 0x54 (frame []) = .importWrite (frame []) ∧
      decodeRequest 0x5B (frame []) = .statusMask (frame []) := by decide
theorem test_decode_unlisted_codes :
    decodeRequest 0x1F (frame []) = .unknown 0x1F (frame []) ∧ decodeRequest 0x0F (frame []) = .unknown 0x0F (frame []) ∧
      decodeRequest 0xFF (frame []) = .unknown 0xFF (frame []) := by decide
theorem test_table_spells_no_command : decodeTableWord 16 0x1234 = none := rfl
theorem test_fetch_word_leaves_the_queue : (State.reset.withFetchWord 16 0x1234).pending = [] := rfl


/-! ### Witnesses: the block as a whole -/

theorem test_meets_StepRunsTheFrontCommand : State.reset.pending = [] := rfl

theorem test_meets_CommandsLeaveTheQueueAlone :
    exec .standbySupplyLoss State.reset = .next { State.reset with system := { System.initial with marker := false } } := rfl

theorem test_meets_WellFormedCommandsGoOn :
    (Instr.keySample 0 88 1023).wellFormed = true ∧ (Instr.keySample 0 89 1023).wellFormed = false := by decide

theorem test_meets_MainPowerOffHoldsTheState :
    ({ State.reset with system := { System.initial with mainOn := false } } : State).system.mainOn = false ∧
      (Instr.drain 5).wellFormed = true ∧ (∀ now pins, Instr.drain 5 ≠ .powerOn now pins) ∧
      (∀ w active, Instr.drain 5 ≠ .standbySwitchChange w active) ∧ Instr.drain 5 ≠ .mainPowerLoss ∧
      Instr.drain 5 ≠ .standbySupplyLoss :=
  ⟨rfl, rfl, fun _ _ => nofun, fun _ _ => nofun, nofun, nofun⟩

theorem test_meets_RequestFramesRoundTrip :
    (Instr.calRead (frame [88])).wellFormed = true ∧
      encodeRequest (.calRead (frame [88])) = some (0x11, frame [88]) := by decide

/-- A link that handles a request, with room for one more or not. -/
def handling (held : Option (ReqKind × Frame)) : State :=
  { State.reset with linkT := { LinkIf.initial startMaskT with buffer := .handling .identify (frame []), held := held } }

/-- A write on Link P to an address, with the bytes after its kind byte. -/
def pFrame (address : BitVec 7) (body : List Byte) : Frame :=
  { now := 1000, link := .p, address := address, body := body, deferred := false }

theorem test_meets_MalformedFramesAreAnsweredByTheLink :
    (let f : Frame := { frame [88] with body := [2, 88] }
    encodeRequest (.calRead f) = some (0x11, f) ∧ f.body = (2 : Byte) :: [88] ∧ reqOfCode 0x11 ≠ .unknown ∧
      (2 : Byte).toNat ≠ [88].length) ∧
    (encodeRequest (.calWrite (frame [1, 2, 3, 4, 5, 6])) = some (0x10, frame [1, 2, 3, 4, 5, 6]) ∧
      ([1, 2, 3, 4, 5, 6] : List Byte).length < reqMinLength (reqOfCode 0x10)) ∧
    (encodeRequest (.keyLines (frame [0, 50, 0, 70, 0, 90, 3])) = some (0x18, frame [0, 50, 0, 70, 0, 90, 3]) ∧
      paramsFit (reqOfCode 0x18) [0, 50, 0, 70, 0, 90, 3] = false) ∧
    ((Instr.unknown 0x0F (frame [])).wellFormed = true ∧
      encodeRequest (.unknown 0x0F (frame [])) = some (0x0F, frame []) ∧ reqOfCode 0x0F = .unknown) ∧
    (encodeRequest (.calRead (pFrame 0x5C [])) = some (0x11, pFrame 0x5C []) ∧ State.reset.answers .p 0x5C = true ∧
      (pFrame 0x5D [0]).address ≠ 0x5C#7 + State.reset.system.strap.setWidth 7) ∧
    State.reset.idleLink .t ∧ { frame [] with body := [] }.body = [] ∧
    ((handling none).link .t).held = none ∧ ((handling (some (.calRead, frame [1]))).link .t).held = some (.calRead, frame [1]) :=
  ⟨by decide, by decide, by decide, by decide, by decide, (takes State.reset [] rfl rfl (by decide)).2.2.1, rfl, rfl, rfl⟩

theorem test_meets_RequestsWaitForTheOneInHandling :
    (encodeRequest (.calRead { frame [88] with deferred := true }) = some (0x11, { frame [88] with deferred := true }) ∧
      (frame [88]).body = BitVec.ofNat 8 1 :: [88] ∧ reqMinLength (reqOfCode 0x11) ≤ 1 ∧
      paramsFit (reqOfCode 0x11) [88] = true ∧ reqOfCode 0x11 ≠ .unknown) ∧
    (State.reset.idleLink .t ∧ State.reset.answers .t 0 = true) ∧
    ((handling none).system.mainOn = true ∧ ((handling none).link .t).buffer = .handling .identify (frame []) ∧
      ((handling none).link .t).held = none) ∧
    ((handling (some (.calRead, frame [1]))).link .t).held = some (.calRead, frame [1]) :=
  ⟨by decide, ⟨(takes State.reset [] rfl rfl (by decide)).2.2.1, rfl⟩, ⟨rfl, rfl, rfl⟩, rfl⟩

/-! ### Witnesses: the invariants -/

/-- The machine after reset with the loss of the standby supply waiting. -/
def waits : State := { State.reset with pending := [.standbySupplyLoss] }

theorem waits_step :
    step waits = .next { State.reset with system := { System.initial with marker := false } } := rfl

theorem waits_key (k : Nat) : waits.key k = Key.initial := by
  simp [waits, State.key, State.reset, Scanner.initial, Vector.getElem?_replicate]
  split <;> rfl

theorem waits_sound (k : Nat) : waits.sound k = SoundEntry.initial := by
  simp [waits, State.sound, State.reset, Router.initial, Vector.getElem?_replicate]
  split <;> rfl

theorem test_meets_StepKeepsTakeMemoryCanonical : waits.memoryCanonical ∧ ∃ t, step waits = .next t :=
  ⟨rfl, _, waits_step⟩

theorem test_meets_StepKeepsStrokeRecords : waits.recordsKept ∧ waits.strokes.linesKept ∧ ∃ t, step waits = .next t :=
  ⟨fun k => by rw [waits_key]; exact fun _ => ⟨rfl, rfl, rfl, rfl⟩, ⟨by decide, nofun⟩, _, waits_step⟩

theorem test_meets_StepKeepsTheSostenutoSet : waits.sostenutoKept ∧ ∃ t, step waits = .next t :=
  ⟨⟨fun k h => (List.not_mem_nil h).elim, fun _ => rfl, fun k h => by rw [waits_sound] at h; cases h⟩, _, waits_step⟩

theorem test_meets_StepKeepsLiveNotesHeld : waits.liveHeld ∧ ∃ t, step waits = .next t :=
  ⟨fun k h => (by rw [waits_sound] at h; cases h), _, waits_step⟩

theorem test_meets_StepKeepsTheToneQueueLimits : waits.tone.withinLimits ∧ ∃ t, step waits = .next t :=
  ⟨⟨by decide, by decide, nofun, by decide⟩, _, waits_step⟩

theorem test_meets_StepKeepsTheRailRecord : waits.rail.consistent ∧ ∃ t, step waits = .next t :=
  ⟨⟨by decide, nofun, nofun, by decide, by decide, by decide, nofun, Or.inr (Or.inr rfl), by decide, by decide, by decide,
    by decide⟩, _, waits_step⟩

theorem test_meets_StepKeepsTheAudioStage : waits.mutesKept ∧ waits.audio.inRange ∧ ∃ t, step waits = .next t :=
  ⟨⟨rfl, rfl, rfl, rfl⟩, by unfold Audio.inRange; decide, _, waits_step⟩

theorem test_meets_StepKeepsTheExpectedSet : waits.transport.expectedKept ∧ ∃ t, step waits = .next t :=
  ⟨⟨by decide, List.nodup_nil, fun _ => rfl⟩, _, waits_step⟩

theorem test_meets_StepKeepsTheBoards : waits.linksKept ∧ ∃ t, step waits = .next t :=
  ⟨⟨⟨by decide, by decide, by decide, nofun, nofun, nofun⟩, ⟨by decide, by decide, by decide, nofun, nofun, nofun⟩, by decide⟩, _,
    waits_step⟩

/-! ### Witnesses: keys and strokes -/

theorem test_meets_CalReadReturnsTheRecord :
    State.reset.canTake (frame [88]) [88] ∧ State.reset.canTake (frame [0x83]) [0x83] ∧ State.reset.canTake (frame [0]) [0] :=
  ⟨takes _ _ rfl rfl (by decide), takes _ _ rfl rfl (by decide), takes _ _ rfl rfl (by decide)⟩

/-- A finished rest capture of keys 1 and 88. -/
def restDone : State :=
  let s := keysIn { goodKey with state := .capture }
  let tally (k : Nat) : RestTally := { key := k, count := 64, sum := 44800, low := 694, high := 706, implausible := false }
  { s with scanner := { s.scanner with capture := some (.rest 0 [tally 1, tally 88]) } }

/-- A bottom capture of key 88 accepted at 0 µs, with a kept sample at the least span. -/
def bottomDone : State :=
  let s := keysIn { goodKey with state := .capture }
  { s with scanner := { s.scanner with capture := some (.bottom 0 88 700 (some { distance := 64, raw := 636 })) } }

theorem test_meets_CalWriteReplacesAKeyRecord :
    State.reset.canTake (frame [88, 3, 255, 0, 0, 15, 1]) [88, 3, 255, 0, 0, 15, 1] ∧
    State.reset.canTake (frame [1, 4, 0, 0, 0, 0xF0, 1]) [1, 4, 0, 0, 0, 0xF0, 1] ∧
    1 ≤ (1 : Byte).toNat ∧ (88 : Byte).toNat ≤ 88 ∧ num2 3 255 ≤ 1023 ∧ 1023 < num2 4 0 ∧ (1 : Byte).toNat ≤ 1 ∧
    -16 ≤ (0xF0 : Byte).toInt ∧ (15 : Byte).toInt ≤ 15 ∧ goodKey.state.isStroke = true ∧
    ((keysIn goodKey).key 88).state.isStroke = true ∧ ((keysIn { goodKey with state := .fault }).key 1).state = .fault ∧
    ((restDone.key 88).state = .capture ∧ ∃ tallies, restDone.scanner.capture = some (.rest 0 tallies)) ∧
    ((bottomDone.key 88).state = .capture ∧
      bottomDone.scanner.capture = some (.bottom 0 88 700 (some { distance := 64, raw := 636 }))) := by
  refine ⟨takes _ _ rfl rfl (by decide), takes _ _ rfl rfl (by decide), by decide, by decide, by decide, by decide, by decide,
    by decide, by decide, by decide, by decide, by decide, ⟨by decide, _, rfl⟩, by decide, rfl⟩

theorem test_meets_SamplesAreJudgedByKeyState :
    ((State.reset.key 88).state = .uncalibrated ∧ State.reset.system.mainOn = true) ∧
    ((restDone.key 88).state = .capture ∧ ∃ tallies, restDone.scanner.capture = some (.rest 0 tallies)) ∧
    ((bottomDone.key 88).state = .capture ∧
      bottomDone.scanner.capture = some (.bottom 0 88 700 (some { distance := 64, raw := 636 })) ∧
      (1999999 - 0 : Time).toNat < 2000000) ∧
    ((keysIn { goodKey with state := .suspended }).key 1).state = .suspended ∧
    (((keysIn { goodKey with state := .fault, recoveryRun := 63 }).key 88).recoveryRun = 63 ∧
      ((keysIn { goodKey with state := .fault, recoveryRun := 63 }).key 88).state = .fault) ∧
    (((keysIn { goodKey with glitchRun := 3 }).key 1).state.isStroke = true ∧
      3 ≤ ((keysIn { goodKey with glitchRun := 3 }).key 1).glitchRun) ∧
    (((keysIn { goodKey with glitchRun := 2 }).key 1).glitchRun < 3) ∧
    ((8 ≤ 1015 ∧ 1015 ≤ 1015) ∧ (7 < 8 ∨ 1015 < 7) ∧ (1016 < 8 ∨ 1015 < 1016)) ∧
    (let s := recordingFrom (keysIn { goodKey with glitchRun := 3 }) 32 [88] [1, 2, 3, 4]
    s.records (openContext [88]) (openTake 32) 4095000 ∧ s.transport.state = .recording ∧
      88 ∈ (openContext [88]).openNotes ∧ 1 ∉ (openContext [88]).openNotes) :=
  ⟨by decide, ⟨by decide, _, rfl⟩, ⟨by decide, rfl, by decide⟩, by decide, by decide, by decide, by decide, by decide,
    (records_at_the_ends _ _).2, rfl, by decide, by decide⟩

theorem test_meets_RestCaptureMeasuresRest :
    (restDone.canTake (frame []) [] ∧ restDone.scanner.capture.isSome = true) ∧
    (State.reset.canTake (frame []) [] ∧ State.reset.scanner.capture = none ∧ State.reset.rail.fallboardClosed = false) ∧
    (railIn { Rail.initial with fallboardClosed := true }).rail.fallboardClosed = true ∧
    ∃ tallies, restDone.scanner.capture = some (.rest 0 tallies) ∧ tallies ≠ [] ∧
      (tallies.map RestTally.key).Pairwise (· < ·) ∧
      (∀ x ∈ tallies, 1 ≤ x.key ∧ x.key ≤ 88 ∧ (restDone.key x.key).state = .capture ∧ 64 ≤ x.count) ∧
      (let s (l : List RestTally) : State :=
        { State.reset with scanner := { Scanner.initial with capture := some (.rest 0 l) } }
      (s []).scanner.capture = some (.rest 0 []) ∧ (6399 - 0 : Time).toNat < 6400 ∧ 6400 ≤ (6400 - 0 : Time).toNat ∧
        ∃ x ∈ tallies.map (fun x => { x with count := 63 }), x.count < 64) :=
  ⟨⟨takes _ _ rfl rfl (by decide), rfl⟩, ⟨takes _ _ rfl rfl (by decide), rfl, rfl⟩, rfl, _, rfl, by decide, by decide,
    by decide, by decide⟩

theorem test_meets_BottomCapture :
    (State.reset.canTake (frame [88]) [88] ∧ State.reset.scanner.capture = none ∧
      (State.reset.key 88).state ≠ .fault ∧ State.reset.rail.fallboardClosed = false) ∧
    State.reset.canTake (frame [89]) [89] ∧
    (bottomDone.canTake (frame [1]) [1] ∧ bottomDone.scanner.capture.isSome = true ∧ bottomDone.canTake (frame [0]) [0] ∧
      bottomDone.canTake (frame [89]) [89]) ∧
    ((keysIn { goodKey with state := .fault }).scanner.capture = none ∧
      ((keysIn { goodKey with state := .fault }).key 1).state = .fault) ∧
    (bottomDone.scanner.capture = some (.bottom 0 88 700 (some { distance := 64, raw := 636 })) ∧
      (bottomDone.key 88).state = .capture ∧ 2000000 ≤ (2000000 - 0 : Time).toNat) :=
  ⟨⟨takes _ _ rfl rfl (by decide), rfl, by decide, rfl⟩, takes _ _ rfl rfl (by decide),
    ⟨takes _ _ rfl rfl (by decide), rfl, takes _ _ rfl rfl (by decide), takes _ _ rfl rfl (by decide)⟩, ⟨rfl, by decide⟩,
    rfl, by decide, by decide⟩

/-- The machine after reset with a watch of key 88, `n` pairs in its group, and `entries` entries in the Panel Stream. -/
def watching (skip n entries : Nat) : State :=
  { State.reset with
    scanner := { Scanner.initial with
      watch := some { key := 88, skip := skip, firstStamp := 0, group := List.replicate n { raw := 500, depth := none } } }
    panel := { PanelIf.initial with stream := List.replicate entries (.beat { bar := 1, beat := 1 } 0 .free) } }

theorem test_meets_KeyWatchAndKeyReport :
    (State.reset.canTake (frame [88]) [88] ∧ State.reset.canTake (frame [88, 1]) [88, 1]) ∧
    (∀ skip n entries, ∃ w, (watching skip n entries).scanner.watch = some w ∧ w.key = 88 ∧ w.skip = skip ∧
      w.group.length = n ∧ (watching skip n entries).panel.stream.length = entries) ∧
    (watching 0 6 64).system.mainOn = true :=
  ⟨⟨takes _ _ rfl rfl (by decide), takes _ _ rfl rfl (by decide)⟩,
    fun _ _ _ => ⟨_, rfl, rfl, rfl, List.length_replicate, List.length_replicate⟩, rfl⟩

theorem test_meets_KeyLinesChangeForKeysAtRest :
    State.reset.canTake (frame []) [] ∧
    (State.reset.canTake (frame [0]) [0] ∧ State.reset.canTake (frame [0, 0, 0, 0, 0, 0, 0]) [0, 0, 0, 0, 0, 0, 0]) ∧
    State.reset.canTake (frame [0, 50, 0, 70, 0, 90, 3, 182]) [0, 50, 0, 70, 0, 90, 3, 182] ∧
    (50 ≤ num2 0 50 ∧ num2 0 50 + 20 ≤ num2 0 70 ∧ num2 0 70 + 20 ≤ num2 0 90 ∧ num2 0 90 + 20 ≤ num2 3 182 ∧
      num2 3 182 ≤ 950 ∧ ¬50 ≤ num2 0 49) ∧
    State.reset.onPrevious = 0 ∧ (keysIn { goodKey with state := .struck, previousLines := true }).onPrevious ≠ 0 :=
  ⟨takes _ _ rfl rfl (by decide), ⟨takes _ _ rfl rfl (by decide), takes _ _ rfl rfl (by decide)⟩,
    takes _ _ rfl rfl (by decide), by decide, by decide, by decide⟩

/-- Sixteen points of a curve that ends at velocity 127. -/
def points : List (Byte × Byte × Byte × Byte) :=
  (List.range 16).map (fun i => (0x0F, BitVec.ofNat 8 (240 + i), 0xFF, BitVec.ofNat 8 (112 + i)))

theorem test_meets_CurveWriteReplacesASlotWhole :
    let bytes := points.flatMap (fun q => [q.1, q.2.1, q.2.2.1, q.2.2.2]) ++ []
    let c : Curve := points.map (fun q => { speed := num3 q.1 q.2.1 q.2.2.1, velocity := q.2.2.2.toNat })
    points.length = 16 ∧ State.reset.canTake (frame (3 :: bytes)) (3 :: bytes) ∧
    State.reset.canTake (frame (4 :: bytes)) (4 :: bytes) ∧
    ((3 : Byte).toNat < 4 ∧ ¬(4 : Byte).toNat < 4 ∧ (∀ b ∈ c, b.speed ≤ 1048575 ∧ 1 ≤ b.velocity ∧ b.velocity ≤ 127) ∧
      c.Pairwise (fun a b => a.speed < b.speed) ∧ c.Pairwise (fun a b => a.velocity ≤ b.velocity)) :=
  ⟨by decide, takes _ _ rfl rfl (by decide), takes _ _ rfl rfl (by decide), by decide⟩

theorem test_meets_CurveSelectReadAndSlowLimit :
    State.reset.canTake (frame [3]) [3] ∧ State.reset.canTake (frame [0, 100]) [0, 100] :=
  ⟨takes _ _ rfl rfl (by decide), takes _ _ rfl rfl (by decide)⟩

theorem test_meets_CurveValueFollowsTheBreakpoints :
    let curve := State.reset.strokes.activeCurve
    curve.length = 16 ∧ (∀ b ∈ curve, 1 ≤ b.velocity ∧ b.velocity ≤ 127) ∧ curve.Pairwise (fun a b => a.speed < b.speed) ∧
    curve.Pairwise (fun a b => a.velocity ≤ b.velocity) ∧ curve[0]? = some { speed := 0, velocity := 1 } ∧
    curve[14]? = some { speed := 420000, velocity := 124 } ∧ curve[15]? = some { speed := 600000, velocity := 127 } ∧
    420000 ≤ 599999 ∧ 599999 < 600000 := by decide

/-- Every key in a stroke state, its timing start at 0 µs and its last plausible sample at a depth, 2,000 µs. -/
def stroking (x : KeyState) (kind : Option TimingKind) (depth : Nat) : State :=
  keysIn { goodKey with
    state := x, timing := kind.map (fun k => { kind := k, time := 0 }),
    lastPlausible := some { raw := 500, depth := depth, stamp := 2000 } }

/-- The same with every key SOUNDING with owner LIVE and announced. -/
def strokingLive (x : KeyState) (kind : Option TimingKind) (depth : Nat) : State :=
  { stroking x kind depth with
    router := { Router.initial with
      table := Vector.replicate 88 { owner := some .live, lastVelocity := some 64, released := false, announced := true } } }

/-- The same with the rail waiting for quiet toward ENGAGE, and every key but key 88 in REST. -/
def strokingLast (x : KeyState) (kind : Option TimingKind) (depth : Nat) : State :=
  let s := strokingLive x kind depth
  { s with
    scanner := { s.scanner with
      keys := (Vector.replicate 88 { goodKey with state := .rest }).setIfInBounds 87 (s.key 88) }
    rail := { Rail.initial with state := .waitQuiet, target := some .engage, prior := some .retracted, quietTimer := some 9000 } }

/-- Every stroke state meets the hypotheses that both statements of a stroke share. -/
theorem stroking_ready (x : KeyState) (kind : Option TimingKind) (depth : Nat) :
    (stroking x kind depth).system.mainOn = true ∧ ((stroking x kind depth).key 88).state = x ∧
    ((stroking x kind depth).key 88).lastPlausible = some { raw := 500, depth := depth, stamp := 2000 } ∧
    ((stroking x kind depth).key 88).timing = kind.map (fun k => { kind := k, time := 0 }) ∧
    (stroking x kind depth).strokes.lines ((stroking x kind depth).key 88) = defaultLines ∧ defaultLines.wellFormed = true ∧
    ((stroking x kind depth).key 88).cal.restRaw = 700 ∧ ((stroking x kind depth).key 88).cal.bottomRaw = 300 :=
  ⟨rfl, rfl, rfl, rfl, rfl, by decide, rfl, rfl⟩

theorem test_meets_StrikeSoundsTheKey :
    (depthOf 621 700 300 < 200 ∧ depthOf 620 700 300 = 200 ∧ depthOf 381 700 300 < 800 ∧ depthOf 380 700 300 = 800 ∧
      defaultLines = { start := 200, damp := 350, rearm := 650, strike := 800 }) ∧
    (let s := stroking .rest none 199
    (s.key 88).state = .rest ∧ s.router.copy = .off ∧ s.transport.state = .idle ∧ (s.sound 88).owner = none ∧
      s.tone.queue.length < 168 ∧ (199 < 200 ∧ ¬200 < 200)) ∧
    (let s := stroking .descending (some .start) 799
    (s.key 88).timing = some { kind := .start, time := 0 } ∧ s.rail.state ≠ .waitQuiet ∧ (799 < 800 ∧ ¬800 < 800)) ∧
    (let s := strokingLive .rearmed (some .rearmDown) 649
    (s.key 88).timing = some { kind := .rearmDown, time := 0 } ∧ (s.sound 88).owner = some .live ∧
      (s.sound 88).announced = true ∧ s.tone.queue.length < 167 ∧ s.router.copy = .off ∧ s.transport.state = .idle ∧
      (649 < 650 ∧ 650 ≤ depthOf 381 700 300)) ∧
    ((strokingLive .rearmed (some .rearmUp) 799).key 88).timing = some { kind := .rearmUp, time := 0 } ∧
    (let s := strokingLast .descending (some .start) 200
    (s.key 88).state = .descending ∧ s.rail.state = .waitQuiet ∧ s.strokeCount = 1 ∧ s.rail.target = some .engage ∧
      depthOf 621 700 300 < 200) ∧
    ((CopySetting.range 88 88).covers 88 = true ∧ State.reset.panel.stream.length + 2 ≤ 64) ∧
    168 ≤ (toneIn 168).tone.queue.length := by decide +kernel

theorem test_meets_ReleaseSilencesTheKey :
    (depthOf 441 700 300 < 650 ∧ depthOf 440 700 300 = 650 ∧ depthOf 561 700 300 < 350 ∧ depthOf 560 700 300 = 350) ∧
    (let s := strokingLive .struck none 650
    (s.key 1).state = .struck ∧ (s.sound 1).owner = some .live ∧ (s.sound 1).announced = true ∧
      1 ∉ s.router.sostenutoSet ∧ s.tone.queue.length < 192 ∧ s.router.copy = .off ∧ s.transport.state = .idle ∧
      s.rail.state ≠ .waitQuiet ∧ (650 ≤ 650 ∧ ¬650 ≤ 649)) ∧
    ((strokingLive .rearmed (some .rearmDown) 350).key 1).timing = some { kind := .rearmDown, time := 0 } ∧
    ((strokingLive .rearmed (some .rearmUp) 650).key 1).timing = some { kind := .rearmUp, time := 0 } ∧
    (let s := strokingLast .rearmed (some .rearmDown) 350
    (s.key 88).state = .rearmed ∧ s.rail.state = .waitQuiet ∧ s.strokeCount = 1 ∧ s.rail.target = some .engage ∧
      (s.sound 88).announced = true ∧ s.transport.state ≠ .recording) := by decide +kernel

/-! ### Witnesses: pedals, the Note Router and the Tone Stream -/

/-- The machine after reset with the sensing side of every pedal replaced. -/
def pedalsIn (x : PedalSense) : State :=
  { State.reset with
    pedals := { damper := { LevelPedal.initial with sense := x }, sostenuto := { SwitchPedal.initial with sense := x },
                soft := { LevelPedal.initial with sense := x } } }

/-- An ACTIVE pedal with rest raw 200 and full raw 800. -/
def goodSense : PedalSense :=
  { cal := { restRaw := 200, fullRaw := 800, enabled := true }, state := .active, glitchRun := 3, recoveryRun := 0 }

theorem test_meets_PedalSensing :
    (State.reset.pedals.sense .soft).state = .invalid ∧
    (((pedalsIn { goodSense with glitchRun := 2 }).pedals.sense .damper).glitchRun < 3 ∧
      ((pedalsIn goodSense).pedals.sense .sostenuto).state = .active ∧
      3 ≤ ((pedalsIn goodSense).pedals.sense .sostenuto).glitchRun) ∧
    (((pedalsIn { goodSense with state := .fault, recoveryRun := 62 }).pedals.sense .damper).recoveryRun < 63 ∧
      ((pedalsIn { goodSense with state := .fault, recoveryRun := 63 }).pedals.sense .damper).state = .fault ∧
      63 ≤ ((pedalsIn { goodSense with state := .fault, recoveryRun := 63 }).pedals.sense .damper).recoveryRun) ∧
    State.reset.canTake (frame [BitVec.ofNat 8 (128 + pedalCode .soft), 3, 255, 0, 0, 0, 1])
      [BitVec.ofNat 8 (128 + pedalCode .soft), 3, 255, 0, 0, 0, 1] ∧
    (num2 3 255 ≤ 1023 ∧ 1023 < num2 4 0) ∧
    State.reset.canTake (frame [89, 0, 0, 0, 0, 0, 0]) [89, 0, 0, 0, 0, 0, 0] ∧
    ((88 < (89 : Byte).toNat ∧ (89 : Byte).toNat < 0x81) ∧ 88 < (0x84 : Byte).toNat ∧ 0x83 < (0x84 : Byte).toNat) :=
  ⟨by decide, by decide, by decide, takes _ _ rfl rfl (by decide), by decide, takes _ _ rfl rfl (by decide), by decide⟩

theorem test_meets_PedalDepthsMoveLevelsAndSwitch :
    (pedalsIn goodSense).system.mainOn = true ∧ (pedalsIn goodSense).transport.state ≠ .recording ∧
    (pedalsIn goodSense).tone.queue.length < 192 ∧ ((pedalsIn goodSense).pedals.level .damper).sense.state = .active ∧
    (pedalsIn goodSense).pedals.sostenuto.sense.state = .active ∧
    (550 ≤ depthOf 530 200 800 ∧ ¬550 ≤ depthOf 529 200 800 ∧ depthOf 469 200 800 < 450) ∧
    (soundsIn SoundEntry.initial [] true).pedals.sostenuto.effective = true ∧
    (recordingFrom (pedalsIn goodSense) 32 [] [1, 2, 3, 4]).records (openContext []) (openTake 32) 4095000 ∧
    (recordingFrom (pedalsIn goodSense) 32 [] [1, 2, 3, 4]).pedals.sostenuto.sense.state = .active :=
  ⟨rfl, by decide, by decide, rfl, rfl, by decide, rfl, (records_at_the_ends _ _).2, rfl⟩

theorem toneIn_length (n : Nat) : (toneIn n).tone.queue.length = n := List.length_replicate

theorem test_meets_NoteCopyAndSoundingReport :
    State.reset.canTake (frame [3, 1, 88]) [3, 1, 88] ∧ State.reset.canTake (frame [1]) [1] :=
  ⟨takes _ _ rfl rfl (by decide), takes _ _ rfl rfl (by decide)⟩

theorem test_meets_AllNotesOffSilencesEverything :
    (toneIn 191).canTake (frame []) [] ∧ (toneIn 191).tone.queue.length < 192 ∧ 192 ≤ (toneIn 192).tone.queue.length ∧
    (let s : State :=
      { State.reset with
        router := { Router.initial with copy := .all }
        panel := { PanelIf.initial with stream := List.replicate 63 (.beat { bar := 1, beat := 1 } 0 .free) } }
    s.router.copy ≠ .off ∧ s.panel.stream.length < 64) :=
  ⟨takes _ _ rfl rfl (by decide), by rw [toneIn_length]; decide, by rw [toneIn_length], by decide⟩

theorem test_meets_IntentsOnSoundingKeys :
    (State.reset.sound 1).owner = none ∧
    (let s := soundsIn { SoundEntry.initial with owner := some .playback } [] false
    (s.sound 88).owner = some .playback ∧ Source.playback ≠ .live ∧ 88 ∉ s.router.sostenutoSet ∧
      (s.sound 88).announced = false ∧ some Source.live ≠ some .playback) ∧
    (let s := soundsIn { SoundEntry.initial with owner := some .live, announced := true } [1, 88] true
    (s.sound 88).owner = some .live ∧ 88 ∈ s.router.sostenutoSet ∧ s.pedals.sostenuto.effective = true ∧
      2 ∉ s.router.sostenutoSet ∧ (s.sound 2).owner = some .live ∧ (s.sound 2).announced = true) ∧
    ((toneIn 166).tone.queue.length < 167 ∧ 167 ≤ (toneIn 167).tone.queue.length ∧ (toneIn 167).tone.queue.length < 168 ∧
      168 ≤ (toneIn 168).tone.queue.length ∧ (toneIn 191).tone.queue.length < 192 ∧ 192 ≤ (toneIn 192).tone.queue.length) ∧
    (({ Router.initial with copy := .all } : Router).copy = .all ∧ State.reset.panel.stream.length < 64) ∧
    (let s := soundsIn { SoundEntry.initial with owner := some .playback, announced := true } [] false
    let hit := keyNumbers.filter (fun k =>
      (s.sound k).announced && (s.sound k).owner.any (fun x => decide ((none : Option Source) = none ∨ none = some x)))
    hit.length = 88 ∧ s.tone.queue.length + hit.length ≤ 192) := by
  refine ⟨by decide, by decide, by decide, ?_, by decide, by decide +kernel⟩
  simp only [toneIn_length]
  decide

theorem test_meets_OffersAreJudgedOnOccupancy :
    (ToneEntry.noteOn 1 1 .live {} 0).isNoteOn = true ∧ (toneIn 167).tone.queue.length < 168 ∧
    168 ≤ (toneIn 168).tone.queue.length ∧ (toneIn 191).tone.queue.length < 192 ∧
    192 ≤ (toneIn 192).tone.queue.length ∧
    (∃ k v source flags time, ToneEntry.noteOff 88 127 .live {} 0 = .noteOff k v source flags time) ∧
    (∃ p level source time, ToneEntry.pedal .soft 127 .playback 0 = .pedal p level source time) ∧
    ∃ time, ToneEntry.allOff 0 = .allOff time :=
  ⟨by decide, by rw [toneIn_length]; decide, by rw [toneIn_length], by rw [toneIn_length]; decide, by rw [toneIn_length],
    ⟨_, _, _, _, _, rfl⟩, ⟨_, _, _, _, rfl⟩, _, rfl⟩

theorem item_is {o : Option Nat} {v : Nat} {P : Nat → Prop} (e : o = some v) (h : P v) : ∀ m, o = some m → P m := by
  intro m hm
  rw [e] at hm
  cases hm
  exact h

theorem item_absent {o : Option Nat} {P : Nat → Prop} (e : o = none) : ∀ m, o = some m → P m := by
  intro m hm
  rw [e] at hm
  cases hm

theorem test_meets_ToneStreamSetupAndFlush :
    (State.reset.canTake (frame [7, 2, 96, 1]) [7, 2, 96, 1] ∧
      readItems [1, 1, 1] (7 : Byte).toNat [2, 96, 1] = some [some 2, some 96, some 1] ∧ (7 : Byte).toNat < 8 ∧
      (∀ m, item [some 2, some 96, some 1] 0 = some m → m = 1 ∨ m = 2) ∧
      (∀ n, item [some 2, some 96, some 1] 1 = some n → n = 1 ∨ n = 8 ∨ n = 32 ∨ n = 96) ∧
      (∀ c, item [some 2, some 96, some 1] 2 = some c → c ≤ 1)) ∧
    (State.reset.canTake (frame [8]) [8] ∧ readItems [1, 1, 1] (8 : Byte).toNat [] = some [none, none, none] ∧
      ¬(8 : Byte).toNat < 8) ∧
    State.reset.canTake (frame []) [] :=
  ⟨⟨takes _ _ rfl rfl (by decide), by decide, by decide, item_is rfl (by decide), item_is rfl (by decide),
    item_is rfl (by decide)⟩, ⟨takes _ _ rfl rfl (by decide), by decide, by decide⟩, takes _ _ rfl rfl (by decide)⟩

theorem test_meets_DrainSlotsDeliverTheHead :
    State.reset.system.mainOn = true ∧
    (let s (n : Nat) (d : Slot) : State := { toneIn n with tone := { (toneIn n).tone with drain := some d } }
    ((s 1 .idle).tone.drain = some .idle ∧
        (s 1 .idle).tone.queue = { entry := .pedal .damper 1 .live 0, admitted := 0 } :: []) ∧
      ((s 0 .idle).tone.drain = some .idle ∧ (s 0 .idle).tone.queue = []) ∧
      (s 1 (.entry (.allOff 5) false)).tone.drain = some (.entry (.allOff 5) false) ∧
      (s 2 (.entry (.allOff 5) false)).tone.queue.drop 1 = { entry := .pedal .damper 1 .live 0, admitted := 0 } :: [] ∧
      (s 1 (.entry (.allOff 5) true)).tone.drain = some (.entry (.allOff 5) true)) ∧
    (toneIn 1).tone.queue = { entry := .pedal .damper 1 .live 0, admitted := 0 } :: [] := by decide

/-! ### Witnesses: the rail -/

/-- A run whose timers all expire at 1,000 µs. -/
def run0 : Run :=
  { profile := Profile.default, phase := .kick, phaseEnd := 1000, nextStep := 1000, stallTimer := some 1000, moveTimer := 1000,
    duty := 200, travel := 1200, retriesUsed := 0, blind := false, measured := false, blindPulses := 0 }

/-- The machine after reset with the rail on its way to a target. -/
def onTheWay (x : Run) (target : Target) : State :=
  railIn { Rail.initial with state := target.movingState, target := some target, run := some x, known := true }

/-- The machine after reset with the rail waiting for a quiet keyboard from a prior state. -/
def quietWait (prior : RailState) : State :=
  railIn { Rail.initial with state := .waitQuiet, target := some .engage, prior := some prior, quietTimer := some 1000 }

theorem test_meets_MoveRequestsFollowTheRailState :
    (railIn { Rail.initial with state := .engaged }).canTake (frame []) [] ∧
    (railIn { Rail.initial with state := .engaged }).rail.state = Target.engage.endState ∧
    (onTheWay run0 .engage).rail.state = Target.engage.movingState ∧
    ((quietWait .unknown).rail.state = .waitQuiet ∧ (quietWait .unknown).rail.target = some .engage ∧
      (quietWait .unknown).rail.target ≠ some .retract ∧ (quietWait .unknown).rail.prior ≠ some Target.retract.endState) ∧
    (quietWait .retracted).rail.prior = some Target.retract.endState ∧
    (railIn { Rail.initial with state := .switchFault }).rail.state = .switchFault ∧
    ((onTheWay run0 .retract).rail.state = Target.retract.movingState ∧ Target.retract ≠ .engage ∧
      (onTheWay run0 .retract).rail.run = some run0) ∧
    (State.reset.rail.state = .unknown ∧ State.reset.quiet = true ∧ State.reset.rail.switchOf .engage = false ∧
      State.reset.rail.profile.kickTime ≠ 0) ∧
    ((railIn { Rail.initial with state := .stalled, engageEnd := true }).rail.state = .stalled ∧
      (railIn { Rail.initial with state := .stalled, engageEnd := true }).rail.switchOf .engage = true) ∧
    (∃ other : Target, other ≠ .engage ∧ RailState.retracted = other.endState) ∧
    (keysIn { goodKey with state := .struck }).quiet = false :=
  ⟨takes _ _ rfl rfl (by decide), by decide, by decide, by decide, by decide, by decide, by decide, by decide, by decide,
    ⟨.retract, by decide, by decide⟩, by decide⟩

theorem test_meets_RailTimersAct :
    ((quietWait .stalled).rail.quietTimer = some 1000 ∧ (quietWait .stalled).rail.prior = some .stalled ∧
      RailState.stalled.mayWaitFrom = true ∧ reached 1000 1000 = true) ∧
    ((onTheWay run0 .engage).rail.run = some run0 ∧ run0.phase = .kick ∧ reached 1000 run0.phaseEnd = true) ∧
    (({ run0 with phase := .ramp } : Run).phase = .ramp ∧ reached 1000 run0.nextStep = true) ∧
    (run0.stallTimer = some 1000 ∧ ({ run0 with retriesUsed := 1 } : Run).retriesUsed < run0.profile.retries ∧
      run0.profile.retries ≤ ({ run0 with retriesUsed := 2 } : Run).retriesUsed) ∧
    (({ run0 with phase := .retryDwell } : Run).phase = .retryDwell ∧ run0.profile.kickTime ≠ 0 ∧
      ({ run0 with profile := { Profile.default with kickTime := 0 } } : Run).profile.kickTime = 0) ∧
    reached 1000 run0.moveTimer = true ∧
    (({ run0 with phase := .reversalDwell } : Run).phase = .reversalDwell ∧
      (onTheWay { run0 with phase := .reversalDwell } .retract).rail.target = some .retract ∧
      (onTheWay { run0 with phase := .reversalDwell } .retract).rail.switchOf .retract = false) := by decide

theorem test_meets_PulsesAndCurrentAreJudged :
    State.reset.rail.run = none ∧
    ((onTheWay run0 .retract).rail.run = some run0 ∧ (onTheWay run0 .retract).rail.target = some .retract ∧
      ¬(Direction.towardEngaged = .towardEngaged ↔ Target.retract = .engage)) ∧
    ((Direction.towardEngaged = .towardEngaged ↔ Target.engage = .engage) ∧
      (let r : Rail := { (onTheWay run0 .engage).rail with count := 1320 }
      ((r.learned + r.learned / 10 : Nat) : Int) < min (r.count + 1) 32767 ∧
        ¬((r.learned + r.learned / 10 : Nat) : Int) < min ((r.count - 1) + 1) 32767)) ∧
    (2040 ≤ 2040 ∧ 2040 % 8 = 0) ∧
    (State.reset.rail.duty = 0 ∧ (onTheWay run0 .engage).rail.duty ≠ 0 ∧ 1192 < (onTheWay run0 .engage).rail.profile.tripLimit ∧
      (onTheWay run0 .engage).rail.profile.tripLimit ≤ 1200 ∧ (onTheWay run0 .engage).rail.profile.alertLimit ≤ 800 ∧
      (onTheWay run0 .engage).rail.arm = .below) := by decide

theorem test_meets_EndSwitchesPlaceTheRail :
    State.reset.rail.switchLevel .retractEnd = false ∧ State.reset.rail.switchLevel .retractEnd ≠ true ∧
    (railIn { Rail.initial with engageEnd := true }).rail.engageEnd = true ∧
    State.reset.rail.state = .unknown ∧
    (railIn { Rail.initial with state := .engaged, engageEnd := true }).rail.state = (switchTarget .engageEnd).endState ∧
    ((railIn { Rail.initial with state := .engaged }).rail.state = .engaged ∧
      (railIn { Rail.initial with state := .engaged }).rail.engageEnd = false ∧
      RailState.engaged ≠ (switchTarget .retractEnd).endState) ∧
    (railIn { Rail.initial with retractEnd := true }).rail.switchLevel .retractEnd ≠ false ∧
    ((onTheWay run0 .engage).rail.state = (switchTarget .engageEnd).movingState ∧
      (onTheWay run0 .engage).rail.state.moving = true ∧
      (onTheWay run0 .engage).rail.state ≠ (switchTarget .retractEnd).movingState) ∧
    (railIn { Rail.initial with state := .stalled }).rail.state = .stalled ∧ (quietWait .unknown).rail.state = .waitQuiet ∧
    (let r : Rail := { Rail.initial with state := .switchFault, retractEnd := true, engageEnd := true }
    r.state = .switchFault ∧ r.switchLevel .retractEnd ≠ false ∧ r.engageEnd = true) := by decide

/-- The items of a RAIL_PROFILE that carries alert mode 3 and park 1. -/
def lastItems : List (Option Nat) := List.replicate 14 none ++ [some 3, some 1]

theorem test_meets_RailRequestsReportAndSet :
    (State.reset.canTake (frame [0, 0xC0, 0, 3, 1]) [0, 0xC0, 0, 3, 1] ∧
      readItems profileWidths (num3 0 0xC0 0) [3, 1] = some lastItems ∧ num3 0 0xC0 0 < 65536 ∧
      (∀ m, item lastItems 14 = some m → 1 ≤ m ∧ m ≤ 3) ∧ (∀ m, item lastItems 15 = some m → m ≤ 1)) ∧
    (State.reset.canTake (frame [1, 0, 0]) [1, 0, 0] ∧
      readItems profileWidths (num3 1 0 0) [] = some (List.replicate 16 none) ∧ ¬num3 1 0 0 < 65536) ∧
    State.reset.canTake (frame [1]) [1] ∧ State.reset.canTake (frame []) [] ∧
    (State.reset.rail.alertRequested = false ∧
      (railIn { Rail.initial with alertRequested := true }).rail.alertRequested = true) :=
  ⟨⟨takes _ _ rfl rfl (by decide), by decide, by decide, item_is rfl (by decide), item_is rfl (by decide)⟩,
    ⟨takes _ _ rfl rfl (by decide), by decide, by decide⟩, takes _ _ rfl rfl (by decide), takes _ _ rfl rfl (by decide),
    by decide⟩

theorem test_meets_FallboardAndStandbySwitches :
    (State.reset.system.mainOn = true ∧ State.reset.rail.fallboardClosed = false ∧ State.reset.scanner.capture = none ∧
      State.reset.transport.state ≠ .armed ∧ State.reset.transport.state ≠ .recording ∧
      State.reset.rail.profile.park = false ∧ State.reset.rail.state ≠ .waitQuiet ∧ (State.reset.key 1).state.isStroke = false) ∧
    (restDone.rail.fallboardClosed = false ∧ restDone.scanner.capture.isSome = true ∧ (restDone.key 88).state = .capture) ∧
    (railIn { Rail.initial with fallboardClosed := true }).rail.fallboardClosed = true ∧
    ((keysIn goodKey).key 88).state.isStroke = true ∧
    (transportIn { Transport.initial with state := .armed }).transport.state = .armed ∧
    (let parked (r : Rail) : Rail := { r with profile := { Profile.default with park := true } }
    (parked { Rail.initial with state := .engaged, engageEnd := true }).retractEnd = false ∧
      (parked { Rail.initial with state := .stalled, retractEnd := true }).profile.park = true ∧
      (parked (onTheWay run0 .engage).rail).run = some run0 ∧ (parked (onTheWay run0 .engage).rail).state = .engaging ∧
      (let s := strokingLast .struck none 800
      0 < s.strokeCount ∧ (parked s.rail).state = .waitQuiet ∧ (parked s.rail).target = some .engage ∧
        (parked s.rail).engageEnd = false) ∧
      (parked { Rail.initial with state := .switchFault }).state = .switchFault) ∧
    (let s := recordingFrom (keysIn { goodKey with state := .suspended }) 32 [1, 88] [1, 2, 3]
    s.store.recording = some (openContext [1, 88]) ∧ s.transport.take = some (openContext [1, 88]).take ∧
      s.store.entry 1 = some (openTake 32) ∧ (openContext [1, 88]).positionAt 4095000 = 4095000 ∧
      3 ≤ s.store.freeList.length ∧ (openContext (List.range 93)).closings ≤ 96 ∧
      (∀ k ∈ (openContext [1, 88]).openNotes, (s.key k).state.isStroke = false) ∧ Memory.wf s.store.memory = true) ∧
    (armedAt false).transport.state = .armed ∧ (armedAt false).store.recording = some { openContext [] with started := false } ∧
    (armedAt false).transport.take = some 1 ∧ (armedAt false).store.entry 1 = some (openTake 0) := by decide +kernel

/-! ### Witnesses: the Audio Stage -/

theorem test_meets_AudioFramesFlow :
    State.reset.system.mainOn = true ∧
    (let a (n : Nat) : Audio :=
      { Audio.initial with
        fifo := List.replicate n { left := 0, right := 0 }, inUnderrun := false,
        click := some { first := true, amplitude := none, index := 960 }, alert := some { high := false, index := 24000 } }
    (a 63).fifo.length < 64 ∧ 64 ≤ (a 64).fifo.length ∧ ((a 0).inUnderrun = false ∧ (a 0).fifo = []) ∧
      (a 0).click = some { first := true, amplitude := none, index := 960 } ∧
      (a 0).alert = some { high := false, index := 24000 }) := by decide

theorem test_meets_JacksMuteAndSettings :
    (State.reset.system.mainOn = true ∧ State.reset.audio.jackLevel .jack2 = false ∧
      State.reset.audio.jackLevel .jack2 ≠ true) ∧
    State.reset.canTake (frame [1]) [1] ∧
    (State.reset.canTake (frame [17, 1, 1]) [17, 1, 1] ∧
      readItems [1, 1, 1, 1, 1] (17 : Byte).toNat [1, 1] = some [some 1, none, none, none, some 1] ∧ (17 : Byte).toNat < 32 ∧
      (∀ r, item [some 1, none, none, none, some 1] 0 = some r → r = 1 ∨ r = 2) ∧
      (∀ h, item [some 1, none, none, none, some 1] 4 = some h → h ≤ 1) ∧ State.reset.audio.rate = .hz48000) ∧
    (State.reset.canTake (frame [32]) [32] ∧
      readItems [1, 1, 1, 1, 1] (32 : Byte).toNat [] = some [none, none, none, none, none] ∧ ¬(32 : Byte).toNat < 32) :=
  ⟨by decide, takes _ _ rfl rfl (by decide), ⟨takes _ _ rfl rfl (by decide), by decide, by decide, item_is rfl (by decide),
    item_is rfl (by decide), rfl⟩, takes _ _ rfl rfl (by decide), by decide, by decide⟩

/-- The machine after reset with the beat clock in a mode, at a counter, its next beat at 1,000 µs. -/
def beating (mode : ClockMode) (pos : BeatPos) : State :=
  { State.reset with
    audio := { Audio.initial with clock := mode, counter := some pos, nextBeat := some 1000, recordClick := decide (mode = .recording) } }

theorem test_meets_MetronomeKeepsTheBeat :
    (State.reset.canTake (frame [15, 1, 44, 12, 15, 1]) [15, 1, 44, 12, 15, 1] ∧
      readItems [2, 1, 1, 1] (15 : Byte).toNat [1, 44, 12, 15, 1] = some [some 300, some 12, some 15, some 1] ∧
      (15 : Byte).toNat < 16 ∧ (∀ c, item [some 300, some 12, some 15, some 1] 3 = some c → c ≤ 1) ∧
      (∀ b, item [some 300, some 12, some 15, some 1] 1 = some b → 1 ≤ b ∧ b ≤ 12) ∧ State.reset.audio.clock ≠ .recording) ∧
    (State.reset.canTake (frame [16]) [16] ∧ ¬(16 : Byte).toNat < 16) ∧
    ((beating .recording { bar := 1, beat := 1 }).audio.clock = .recording ∧
      (beating .recording { bar := 1, beat := 1 }).audio.recordClick = true) ∧
    (State.reset.canTake (frame [1]) [1] ∧ State.reset.canTake (frame [2]) [2] ∧ 1 < (2 : Byte).toNat ∧ (1 : Byte).toNat ≤ 1 ∧
      State.reset.audio.recordClick = false ∧ State.reset.audio.playClick = false ∧ State.reset.audio.clock = .stopped) ∧
    ((beating .free { bar := 4095, beat := 4 }).audio.nextBeat = some 1000 ∧
      (beating .free { bar := 4095, beat := 4 }).audio.counter = some { bar := 4095, beat := 4 } ∧ reached 1000 1000 = true ∧
      (beating .free { bar := 4095, beat := 4 }).audio.clock = .free) ∧
    ({ beating .recording { bar := 1, beat := 1 } with
        transport := { Transport.initial with state := .recording } } : State).transport.state = .recording ∧
    (State.reset.store.record (.beat 1 2) 1000).2 = false :=
  ⟨⟨takes _ _ rfl rfl (by decide), by decide, by decide, item_is rfl (by decide), item_is rfl (by decide), by decide⟩,
    ⟨takes _ _ rfl rfl (by decide), by decide⟩, by decide, ⟨takes _ _ rfl rfl (by decide), takes _ _ rfl rfl (by decide),
    by decide⟩, by decide, rfl, by decide⟩

/-! ### Witnesses: takes and the Transport -/

/-- The machine playing take 1, with record `n` at the cursor and its wait over at 1,000 µs. -/
def playingAt (n target : Nat) (parts : Parts) (waitMode : Bool) : State :=
  { takesIn { closedTake with playing := true } [1, 2, 3, 4] with
    transport := { Transport.initial with
      state := .playing, take := some 1, cursor := n, parts := parts, waitMode := waitMode
      wait := some { target := target, towardB := false, fromTime := target, began := 1000, length := 0, speed := 100 } } }

theorem test_meets_TakeDirectoryRequests :
    (State.reset.canTake (frame [16]) [16] ∧ 1 ≤ (16 : Byte).toNat ∧ (16 : Byte).toNat ≤ 16 ∧
      State.reset.store.entry 16 = none ∧ 16 < (17 : Byte).toNat) ∧
    ((storeIn closedTake []).entry 1 = some closedTake ∧ closedTake.state = .closed ∧ closedTake.playing = false ∧
      closedTake.exporting = false) ∧
    ({ closedTake with state := .importing } : Take).state ≠ .closed ∧
    (16 < (List.replicate 17 (0x41 : Byte)).length ∧ ¬16 < (List.replicate 16 (0x7E : Byte)).length ∧
      (0x1F : Byte).toNat < 0x20 ∧ ¬(0x20 : Byte).toNat < 0x20 ∧ 0x7E < (0x7F : Byte).toNat ∧ ¬0x7E < (0x7E : Byte).toNat) ∧
    State.reset.canTake (frame []) [] :=
  ⟨⟨takes _ _ rfl rfl (by decide), by decide⟩, by decide, by decide, by decide, takes _ _ rfl rfl (by decide)⟩

/-- A recording of take 1 with `count` records, the last one written at `position` µs. -/
def recordingAt (count position : Nat) (free : List Nat) : State :=
  { State.reset with
    store := { storeIn { closedTake with state := .recording, count := count } free with
      recording := some
        { take := 1, started := true, position := position, lastTime := position / 1000, lastStamp := 0, openNotes := [],
          levels := PedalLevels.zero } } }

theorem test_meets_RecordingClockWritesGapsAndStops :
    ((recordingAt 31 0 [1, 2, 3, 4]).memoryCanonical ∧ (recordingAt 31 0 [1, 2, 3, 4]).system.mainOn = true ∧
      (∃ c, (recordingAt 31 0 [1, 2, 3, 4]).store.recording = some c ∧ c.started = true ∧ 1 ≤ c.take ∧ c.take ≤ 16) ∧
      (recordingAt 31 0 [1, 2, 3, 4]).store.entry 1 = some { closedTake with state := .recording, count := 31 }) ∧
    ((4094999 - 0 : Time).toNat < 4095 * 1000 ∧ 4095 * 1000 ≤ (4095000 - 0 : Time).toNat) ∧
    ((32 ≠ 0 ∧ 32 % 32 = 0) ∧ 3 < (recordingAt 32 0 [1, 2, 3, 4]).store.freeList.length) ∧
    ((recordingAt 32 0 [1, 2, 3]).store.freeList.length = 3 ∧
      (∃ c, (recordingAt 32 0 [1, 2, 3]).store.recording = some c ∧ c.closings ≤ 96 ∧ 4095 ≤ c.lastTime + 4095)) ∧
    (36000000000 ≤ 35999999999 + (1 - 0 : Time).toNat ∧ 35999999999 + (0 - 0 : Time).toNat < 36000000000) ∧
    ((∃ c, (recordingAt 31 35999999999 [1, 2, 3]).store.recording = some c ∧ c.position ≤ 36000000000 ∧
        35995905 ≤ c.lastTime ∧ (Store.writeOverdue (c.stampAt 36000000000) (recordingAt 31 35999999999 [1, 2, 3]).store).2 = false) ∧
      (∃ c, (recordingAt 32 35995903999 [1, 2, 3]).store.recording = some c ∧
        (Store.writeOverdue (c.stampAt 36000000000) (recordingAt 32 35995903999 [1, 2, 3]).store).2 = true)) ∧
    (transportIn { Transport.initial with state := .recording }).transport.state.records = true :=
  ⟨⟨by unfold State.memoryCanonical; decide, by decide, ⟨_, rfl, by decide⟩, by decide⟩, by decide, by decide,
    ⟨by decide, _, rfl, by decide⟩, by decide, ⟨⟨_, rfl, by decide +kernel⟩, _, rfl, by decide +kernel⟩, by decide⟩

theorem test_meets_TakeRecordOpensATake :
    (State.reset.canTake (frame [16, 1, 1, 88]) [16, 1, 1, 88] ∧ State.reset.canTake (frame [0, 2, 0]) [0, 2, 0] ∧
      (16 : Byte).toNat ≤ 16 ∧ 2 ≤ (([88] : List Byte).headD 45).toNat ∧ (([88] : List Byte).headD 45).toNat ≤ 88 ∧
      (1 : Byte).toNat ≤ 1 ∧ ¬(([89] : List Byte).headD 45).toNat ≤ 88) ∧
    (State.reset.transport.state = .idle ∧ State.reset.rail.fallboardClosed = false ∧ State.reset.store.entry 16 = none) ∧
    (transportIn { Transport.initial with state := .armed }).transport.state ≠ .idle ∧
    (railIn { Rail.initial with fallboardClosed := true }).rail.fallboardClosed = true ∧
    ((takesIn closedTake [1, 2, 3]).store.freeList.length < 4 ∧
      (takesIn closedTake [1, 2, 3, 4]).store.freeList = 1 :: [2, 3, 4] ∧ 3 ≤ ([2, 3, 4] : List Nat).length) ∧
    ((takesIn closedTake [1, 2, 3, 4]).store.entry 1 ≠ none ∧ (takesIn closedTake [1, 2, 3, 4]).store.entry 2 = none) ∧
    (∀ m, 1 ≤ m → m < 2 → (takesIn closedTake [1, 2, 3, 4]).store.entry m ≠ none) ∧
    ∀ n, 1 ≤ n → n ≤ 16 →
      ({ Store.initial with directory := Vector.replicate 16 (some closedTake) } : Store).entry n ≠ none := by
  refine ⟨⟨takes _ _ rfl rfl (by decide), takes _ _ rfl rfl (by decide), by decide⟩, by decide, by decide, by decide,
    by decide, by decide, ?_, ?_⟩
  · intro m h1 h2
    obtain rfl : m = 1 := by omega
    decide
  · intro n h1 h2
    interval_cases n <;> decide

theorem test_meets_TakePlayStartsAPlayback :
    (let s := takesIn closedTake [1]
    s.canTake (frame [31, 1, 0, 0, 32, 3, 150, 3, 1, 1]) [31, 1, 0, 0, 32, 3, 150, 3, 1, 1] ∧
      readItems [4, 1, 1, 1, 1] (31 : Byte).toNat [0, 0, 32, 3, 150, 3, 1, 1] =
        some [some 8195, some 150, some 3, some 1, some 1] ∧
      s.transport.state = .idle ∧ s.store.entry 1 = some closedTake ∧ closedTake.state = .closed ∧
      min ((item [some 8195, some 150, some 3, some 1, some 1] 0).getD 0) closedTake.duration ≠ 0) ∧
    (1 ≤ (1 : Byte).toNat ∧ (1 : Byte).toNat ≤ 16 ∧ (31 : Byte).toNat < 32 ∧
      (∀ m, item [some 8195, some 150, some 3, some 1, some 1] 2 = some m → m < 4) ∧
      (∀ w, item [some 8195, some 150, some 3, some 1, some 1] 3 = some w → w ≤ 1) ∧
      (∀ c, item [some 8195, some 150, some 3, some 1, some 1] 4 = some c → c ≤ 1)) ∧
    (State.reset.canTake (frame [0, 16]) [0, 16] ∧
      readItems [4, 1, 1, 1, 1] (0 : Byte).toNat [] = some [none, none, none, none, none] ∧
      State.reset.store.entry 16 = none ∧ min ((item [none, none, none, none, none] 0).getD 0) closedTake.duration = 0) ∧
    (State.reset.canTake (frame [0, 17]) [0, 17] ∧ ¬(17 : Byte).toNat ≤ 16) ∧
    ({ closedTake with state := .importing } : Take).state ≠ .closed ∧
    (transportIn { Transport.initial with state := .paused }).transport.state ≠ .idle :=
  ⟨⟨takes _ _ rfl rfl (by decide), by decide, rfl, by decide, by decide, by decide⟩,
    ⟨by decide, by decide, by decide, item_is rfl (by decide), item_is rfl (by decide), item_is rfl (by decide)⟩,
    ⟨takes _ _ rfl rfl (by decide), by decide⟩, ⟨takes _ _ rfl rfl (by decide), by decide⟩, by decide, by decide⟩

/-- The machine paused in take 1 at a NOTE_ON of the LOW part that is due at once, the LOW part being practised. -/
def pausedAtNote : State :=
  { takesIn { closedTake with playing := true } [1] with
    transport := { Transport.initial with
      state := .paused, take := some 1, cursor := 7, cursorTime := 8195, parts := { low := false, high := true }
      waitMode := true } }

theorem test_meets_TransportControlsFollowTheState :
    (State.reset.canTake (frame []) [] ∧ State.reset.transport.state = .idle) ∧
    ((transportIn { Transport.initial with state := .recording }).transport.state = .recording ∧
      (Store.writeOverdue 1000 State.reset.store).2 = false ∧
      (Store.writeOverdue 4096000 (recordingAt 32 0 [1, 2, 3]).store).2 = true) ∧
    (playingAt 0 0 { low := true, high := true } false).transport.state = .playing ∧
    (let t : Transport :=
      { Transport.initial with
        state := .waiting, mark := some { first := 0, time := 0, last := 0 }, waitingCount := some 4294967295 }
    (transportIn t).transport.mark = some { first := 0, time := 0, last := 0 } ∧
      (transportIn t).transport.waitingCount = some 4294967295) ∧
    (transportIn { Transport.initial with state := .paused }).transport.state = .paused ∧
    (let s := pausedAtNote
    s.transport.state = .paused ∧ s.takeRecords[s.transport.cursor]? = some { delta := 4095, payload := .noteOn 17 false 1 } ∧
      s.transport.parts.has false = false ∧ s.transport.waitMode = true ∧ s.transport.mark = none ∧ s.transport.recent = [] ∧
      s.transport.loop = none ∧ s.takeTimes[s.transport.cursor]? = some s.transport.cursorTime) ∧
    (transportIn { Transport.initial with
      state := .seeking, seek := some { target := 5, pausePending := true, began := 0 } }).transport.seek =
        some { target := 5, pausePending := true, began := 0 } ∧
    (State.reset.canTake (frame [150]) [150] ∧ ([150] : List Byte) = 150 :: []) ∧
    (State.reset.canTake (frame [0, 0, 0, 0]) [0, 0, 0, 0] ∧ ([0, 0, 0, 0] : List Byte) = 0 :: 0 :: 0 :: 0 :: []) :=
  ⟨⟨takes _ _ rfl rfl (by decide), rfl⟩, ⟨rfl, rfl, by decide +kernel⟩, rfl, ⟨rfl, rfl⟩, rfl, by decide +kernel, rfl,
    ⟨takes _ _ rfl rfl (by decide), rfl⟩, takes _ _ rfl rfl (by decide), rfl⟩

/-- The machine 100 µs into a seek to the start of take 1, whose scan of the first 32 records then ends. -/
def seekingAt (pausePending : Bool) : State :=
  { takesIn closedTake [1] with
    transport := { Transport.initial with
      state := .seeking, take := some 1, seek := some { target := 0, pausePending := pausePending, began := 0 } } }

theorem test_meets_SeeksLandAndRecordsAreDelivered :
    ((seekingAt true).transport.state = .seeking ∧
      (seekingAt true).transport.seek = some { target := 0, pausePending := true, began := 0 } ∧
      (let n := (seekingAt true).takeTimes.findIdx (fun t => decide (0 ≤ t))
      (99 - 0 : Time).toNat < (n + 32) / 32 * 100 ∧ (n + 32) / 32 * 100 ≤ (100 - 0 : Time).toNat)) ∧
    (let both : Parts := { low := true, high := true }
    (playingAt 0 0 both false).transport.state = .playing ∧ (playingAt 0 0 both false).transport.parts.has true = true ∧
      (playingAt 0 0 both false).takeRecords[0]? = some { delta := 0, payload := .noteOn 60 true 64 } ∧
      (playingAt 1 5 both false).takeRecords[1]? = some { delta := 5, payload := .noteOff 60 30 } ∧
      60 ∉ (playingAt 1 5 both false).transport.delivered ∧
      (playingAt 2 5 both false).takeRecords[2]? = some { delta := 0, payload := .pedal .damper 100 } ∧
      (playingAt 3 5 both false).takeRecords[3]? = some { delta := 0, payload := .pedal .sostenuto 127 } ∧
      (playingAt 4 5 both false).takeRecords[4]? = some { delta := 0, payload := .pedal .soft 20 } ∧
      (playingAt 5 5 both false).takeRecords[5]? = some { delta := 0, payload := .beat 1 1 } ∧
      (playingAt 6 4100 both false).takeRecords[6]? = some { delta := 4095, payload := .gap } ∧
      (playingAt 8 8195 both false).takeRecords[8]? = some { delta := 0, payload := .ending } ∧
      reached 1000 ((1000 : Time).after (0 * 1000)) = true ∧ reached 999 ((1000 : Time).after (0 * 1000)) = false) ∧
    (let s := playingAt 0 0 { low := true, high := false } true
    s.transport.parts.has true = false ∧ s.transport.waitMode = true ∧ s.transport.mark = none ∧ s.transport.recent = [] ∧
      s.takeTimes[0]? = some 0) ∧
    (let l : Loop := { a := 5, b := 8195, repeats := 0, left := 0 }
    let s := playingAt 0 0 { low := true, high := true } false
    ({ s.transport with loop := some l } : Transport).loop = some l ∧ s.transport.anchor = none ∧ s.takeTimes[1]? = some 5 ∧
      l.a ≤ 5 ∧ s.takeTimes.getD (1 - 1) 0 < l.a ∧ s.takeTimes[2]? = some 5 ∧ l.a ≤ s.takeTimes.getD (2 - 1) 0) ∧
    (({ Transport.initial with click := true } : Transport).click = true ∧
      (beating .following { bar := 1, beat := 1 }).audio.clock = .following ∧ State.reset.audio.clock ≠ .following) := by
  decide +kernel

/-- The machine playing take 1 toward mark B of a loop, with an anchor or without. -/
def loopingAt (anchor : Option Anchor) : State :=
  { takesIn closedTake [1] with
    transport := { Transport.initial with
      state := .playing, take := some 1, cursor := 7, anchor := anchor
      loop := some { a := 0, b := 8195, repeats := 99, left := 1 }
      wait := some { target := 8195, towardB := true, fromTime := 4100, began := 1000, length := 0, speed := 100 } } }

theorem test_meets_LoopsRunBetweenTheMarks :
    (let s := playingAt 7 8195 { low := true, high := true } false
    s.canTake (frame [0, 0, 30, 15, 0, 0, 32, 3, 99]) [0, 0, 30, 15, 0, 0, 32, 3, 99] ∧
      (num4 0 0 30 15 + 500 ≤ num4 0 0 32 3 ∧ num4 0 0 32 3 < num4 0 0 30 16 + 500 ∧ (99 : Byte).toNat ≤ 99 ∧
        99 < (100 : Byte).toNat) ∧
      s.transport.state.plays = true ∧ num4 0 0 32 3 ≤ s.takeDuration ∧ s.takeDuration < num4 0 0 32 4 ∧
      s.transport.position 1000 < num4 0 0 32 3 ∧ s.takeTimes[7]? = some 8195) ∧
    (State.reset.canTake (frame []) [] ∧ State.reset.transport.state.plays = false ∧
      State.reset.transport.state ≠ .playing) ∧
    ((loopingAt none).transport.state = .playing ∧ (loopingAt none).transport.anchor = none ∧
      (loopingAt none).transport.loop = some { a := 0, b := 8195, repeats := 99, left := 1 } ∧
      (loopingAt none).transport.wait.map Wait.towardB = some true ∧ reached 1000 ((1000 : Time).after (0 * 1000)) = true) ∧
    (loopingAt (some { record := 0, time := 0, levels := PedalLevels.zero })).transport.anchor =
      some { record := 0, time := 0, levels := PedalLevels.zero } :=
  ⟨⟨takes _ _ rfl rfl (by decide), by decide +kernel⟩, ⟨takes _ _ rfl rfl (by decide), by decide⟩, by decide, by decide⟩

/-- The machine waiting for key 60 at the first record of take 1. -/
def waitingFor (keys : List Nat) : State :=
  { takesIn closedTake [1] with
    transport := { Transport.initial with
      state := .waiting, take := some 1, cursor := 1, waitMode := true, expected := keys, waitingCount := some 0
      mark := some { first := 0, time := 0, last := 0 } } }

theorem test_meets_PracticeSettingsAndScore :
    (let s := waitingFor [60]
    s.canTake (frame [15, 3, 0, 100, 200]) [15, 3, 0, 100, 200] ∧
      readItems [1, 1, 1, 1] (15 : Byte).toNat [3, 0, 100, 200] = some [some 3, some 0, some 100, some 200] ∧
      (15 : Byte).toNat < 16 ∧ (∀ m, item [some 3, some 0, some 100, some 200] 0 = some m → m < 4) ∧
      (∀ w, item [some 3, some 0, some 100, some 200] 1 = some w → w ≤ 1) ∧ s.transport.state = .waiting ∧
      item [some 3, some 0, some 100, some 200] 1 = some 0) ∧
    (State.reset.canTake (frame [12, 0, 0]) [12, 0, 0] ∧
      readItems [1, 1, 1, 1] (12 : Byte).toNat [0, 0] = some [none, none, some 0, some 0] ∧
      State.reset.transport.state.plays = false ∧ (item [some 3, none, none, none] 0).isSome = true) ∧
    (State.reset.canTake (frame [16]) [16] ∧ ¬(16 : Byte).toNat < 16) ∧ State.reset.canTake (frame [1]) [1] ∧
    State.reset.system.mainOn = true :=
  ⟨⟨takes _ _ rfl rfl (by decide), by decide, by decide, item_is rfl (by decide), item_is rfl (by decide), by decide, by decide⟩,
    ⟨takes _ _ rfl rfl (by decide), by decide⟩, ⟨takes _ _ rfl rfl (by decide), by decide⟩, takes _ _ rfl rfl (by decide), rfl⟩

theorem test_meets_LiveStrikesReachTheTransport :
    (State.reset.transport.state = .idle ∧ (seekingAt true).transport.state = .seeking ∧ State.reset.transport.state ≠ .recording) ∧
    ((recordingFrom State.reset 32 [88] [1, 2, 3, 4]).records (openContext [88]) (openTake 32) 4095000 ∧
      88 ∈ (openContext [88]).openNotes ∧ 1 ∉ (openContext [88]).openNotes ∧
      3 < (recordingFrom State.reset 32 [88] [1, 2, 3, 4]).store.freeList.length) ∧
    (∀ click, (armedAt click).transport.state = .armed ∧ (armedAt click).memoryCanonical ∧
      (armedAt click).store.recording = some { openContext [] with started := false } ∧
      (armedAt click).transport.take = some 1 ∧ (armedAt click).store.entry 1 = some (openTake 0) ∧ (openTake 0).count = 0 ∧
      (armedAt click).pedals.damper.live ≤ 127 ∧ (armedAt click).pedals.soft.live ≤ 127 ∧
      (armedAt click).transport.click = click ∧ (armedAt click).audio.clock ≠ .recording) ∧
    (4095000 - 0 : Time).toNat ≤ 4095000 ∧
    (waitingFor [60]).transport.state = .waiting ∧
    (waitingFor [60]).transport.mark = some { first := 0, time := 0, last := 0 } ∧
    60 ∈ (waitingFor [60]).transport.expected ∧ (waitingFor [60]).transport.expected.filter (fun k => k ≠ 60) = [] ∧
    (waitingFor [17, 60]).transport.expected.filter (fun k => k ≠ 60) ≠ [] ∧ 88 ∉ (waitingFor [60]).transport.expected ∧
    (waitingFor [60]).panel.stream.length < 64 := by
  refine ⟨by decide, ⟨(records_at_the_ends _ _).2, by decide, by decide, by decide⟩, fun click => ?_, by decide, by decide, by decide,
    by decide, by decide, by decide, by decide, by decide⟩
  exact ⟨rfl, (records_at_the_ends State.reset []).2.1, by cases click <;> decide⟩

/-! ### Witnesses: transfers -/

/-- The machine after reset exporting take 1, with `cursor` bytes sent. -/
def exportingAt (cursor : Nat) : State :=
  { takesIn { closedTake with exporting := true } [1] with
    transfer := { Transfer.initial with
      exporting := some
        { take := 1, length := 69, cursor := cursor, check := 0, idle := 1000, endSeen := false, upperSent := false,
          lowerSent := false } } }

theorem test_meets_ExportsSendTheStream :
    (State.reset.canTake (frame [16]) [16] ∧ 16 < (17 : Byte).toNat ∧ State.reset.transfer.exporting = none ∧
      State.reset.store.entry 16 = none) ∧
    ((takesIn closedTake [1]).transfer.exporting = none ∧ (takesIn closedTake [1]).store.entry 1 = some closedTake ∧
      closedTake.state = .closed ∧ ({ closedTake with state := .recording } : Take).state ≠ .closed) ∧
    ((exportingAt 64).canTake (frame [0, 0, 68]) [0, 0, 68] ∧ (exportingAt 64).transfer.exporting ≠ none ∧
      num3 0 0 68 < 69 ∧ 69 ≤ num3 0 0 69 ∧ 64 < num3 0 0 65 ∧ num3 0 0 64 ≤ 64 ∧ 64 ≠ 69 - 2) ∧
    State.reset.canTake (frame []) [] ∧ (reached 999 1000 = false ∧ reached 1000 1000 = true) :=
  ⟨⟨takes _ _ rfl rfl (by decide), by decide⟩, by decide, ⟨takes _ _ rfl rfl (by decide), by decide⟩,
    takes _ _ rfl rfl (by decide), by decide⟩

/-- An import into take 3 whose header has been taken, with `expected` bytes of 37 in. -/
def import0 (expected : Nat) : Import :=
  { take := 3, declared := 37, expected := expected, check := 0xFFFF, received := if expected = 37 then [0xFF, 0xFF] else []
    headerBuffer := [], recordBuffer := []
    header := some { flags := {}, count := 1, duration := 0, tempo := none, split := 45, name := none, serial := 1 }
    openKeys := [], unbalanced := false, ends := 1, lastIsEnd := true, deltaSum := 0, idle := 1000 }

/-- The machine after reset with that import open. -/
def importingAt (expected : Nat) : State :=
  let store : Store :=
    { Store.initial with
      directory := (Vector.replicate 16 none).setIfInBounds 2 (some { closedTake with state := .importing, count := 1 })
      freeList := [1, 2], importing := some { take := 3, written := 1, deltaSum := 0 } }
  { State.reset with store := store, transfer := { Transfer.initial with importing := some (import0 expected) } }

theorem test_meets_ImportsAreCheckedAndClosed :
    (State.reset.canTake (frame [16, 0, 0, 37]) [16, 0, 0, 37] ∧
      (1 ≤ (16 : Byte).toNat ∧ (16 : Byte).toNat ≤ 16 ∧ 37 ≤ num3 0 0 37 ∧ num3 4 0 33 ≤ 262177 ∧ (num3 4 0 33 - 33) % 4 = 0) ∧
      ¬num3 4 0 37 ≤ 262177 ∧ State.reset.transfer.importing = none ∧ State.reset.store.entry 16 = none ∧
      (importingAt 37).transfer.importing ≠ none ∧ (takesIn closedTake []).store.entry 1 ≠ none) ∧
    ((takesIn closedTake []).store.freeList.length ≤ 0 ∧ (takesIn closedTake [1]).store.freeList = 1 :: [] ∧
      0 ≤ ([] : List Nat).length ∧ (recordingAt 1 0 [1, 2, 3]).store.freeList.length ≤ 3 ∧
      3 ≤ ([2, 3, 4] : List Nat).length) ∧
    ((importingAt 31).canTake (frame [0, 0, 31, 0x60, 0, 0, 0]) [0, 0, 31, 0x60, 0, 0, 0] ∧
      (importingAt 31).transfer.importing = some (import0 31) ∧ num3 0 0 31 = (import0 31).expected ∧
      num3 0 0 32 ≠ (import0 31).expected ∧ 37 < num3 0 0 31 + ([0, 0, 0, 0, 0, 0, 0] : List Byte).length ∧
      num3 0 0 31 + ([0x60, 0, 0, 0, 0xFF, 0xFF] : List Byte).length ≤ 37 ∧ 64 < (List.replicate 65 (0 : Byte)).length) ∧
    ((∃ z st, (import0 31).takeBytes (importingAt 31).store [0x60, 0, 0] = .goes z st) ∧
      ∃ z st r, (import0 31).takeBytes (importingAt 31).store [0x70, 0, 0, 0] = .aborts z st r) ∧
    ((import0 36).expected < (import0 36).declared ∧ (import0 37).declared ≤ (import0 37).expected ∧
      (∃ h c, (import0 37).header = some h ∧ (importingAt 37).store.importing = some c ∧ c.written = h.count ∧
        (import0 37).deltaSum = h.duration ∧ c.take = (import0 37).take) ∧
      beNat (import0 37).received = (import0 37).check.toNat ∧
      beNat ({ import0 37 with received := [0xFF, 0xFE] } : Import).received ≠ (import0 37).check.toNat ∧
      ({ import0 37 with ends := 2 } : Import).ends ≠ 1 ∧
      (importingAt 37).store.entry 3 = some { closedTake with state := .importing, count := 1 }) ∧
    (reached 999 1000 = false ∧ reached 1000 1000 = true) :=
  ⟨⟨takes _ _ rfl rfl (by decide), by decide⟩, by decide, ⟨takes _ _ rfl rfl (by decide), by decide⟩,
    ⟨⟨_, _, rfl⟩, _, _, _, rfl⟩, ⟨by decide, by decide, ⟨_, _, rfl, rfl, rfl, rfl, rfl⟩, by decide, by decide, by decide,
    by decide⟩, by decide⟩

/-! ### Witnesses: links, starts and supplies -/

theorem test_meets_LinkRequestsReportAndArrange :
    (State.reset.canTake (frame []) [] ∧ State.reset.system.restart = none) ∧
    ({ State.reset with
        system := { System.initial with restart := some { link := .p, requested := 0, replyRead := false } } } :
      State).system.restart ≠ none ∧
    (State.reset.canTake (frame [0]) [0] ∧ State.reset.canTake (frame [1]) [1] ∧ State.reset.canTake (frame [2]) [2] ∧
      1 < (2 : Byte).toNat) ∧
    (State.reset.canTake (frame [31, 255]) [31, 255] ∧ State.reset.canTake (frame [32, 0]) [32, 0] ∧
      ¬8192 ≤ num2 31 255 ∧ 8192 ≤ num2 32 0) :=
  ⟨⟨takes _ _ rfl rfl (by decide), rfl⟩, nofun, ⟨takes _ _ rfl rfl (by decide), takes _ _ rfl rfl (by decide),
    takes _ _ rfl rfl (by decide), by decide⟩, takes _ _ rfl rfl (by decide), takes _ _ rfl rfl (by decide), by decide⟩

theorem test_meets_LinkReadsTakeWhatStands :
    (State.reset.system.mainOn = true ∧ State.reset.panel.pointer = .reply ∧ (State.reset.link .p).buffer = .empty) ∧
    (({ State.reset with linkT := { LinkIf.initial startMaskT with buffer := .ready { status := .ok, data := .restart true } } } :
      State).link .t).buffer = .ready { status := .ok, data := .restart true } ∧
    (((handling none).link .t).buffer = .handling .identify (frame []) ∧ ReqKind.identify ≠ .unknown ∧
      (frame []).link = .t ∧ frameParams .identify (frame []).body = some [] ∧
      ∃ u r, judge .identify .t 1000 [] (State.beginExchange .t { handling none with now := 2000 }) = some (u, r) ∧
        (u.link .t).held = none) ∧
    (∀ deferred, let h := { frame [88] with deferred := deferred }
      ReqKind.calRead ≠ .unknown ∧ h.link = .t ∧ frameParams .calRead h.body = some [88] ∧ h.deferred = deferred ∧
        ∃ u r, judge .identify .t 1000 [] (State.beginExchange .t { handling (some (.calRead, h)) with now := 2000 }) =
            some (u, r) ∧
          (u.link .t).held = some (.calRead, h) ∧
          ∃ v r2, judge .calRead .t h.now [88]
            ((u.placeReply .t r).modLink .t
              (fun x => { x with held := none, lostReplies := min (x.lostReplies + 1) 255 })) = some (v, r2)) ∧
    (({ PanelIf.initial with stretch := some 0 } : PanelIf).stretch = some 0 ∧ 1000 ≤ (1000 - 0 : Time).toNat ∧
      ¬1000 ≤ (999 - 0 : Time).toNat) ∧
    ({ PanelIf.initial with pointer := .status } : PanelIf).pointer = .status ∧
    ({ LinkIf.initial startMaskT with statusRead := some 1 } : LinkIf).statusRead = some 1 ∧
    (State.reset.link .t).statusRead = none ∧ ({ PanelIf.initial with pointer := .stream } : PanelIf).pointer = .stream ∧
    ((0x5C : BitVec 7) = 0x5C#7 + State.reset.system.strap.setWidth 7 ∧
      (0x5F : BitVec 7) ≠ 0x5C#7 + State.reset.system.strap.setWidth 7) ∧
    State.reset.linksKept :=
  ⟨⟨rfl, rfl, rfl⟩, rfl, ⟨rfl, nofun, rfl, rfl, _, _, rfl, rfl⟩, fun _ => ⟨nofun, rfl, rfl, rfl, _, _, rfl, rfl, _, _, rfl⟩, by decide, rfl, rfl, rfl, rfl, by decide,
    test_meets_StepKeepsTheBoards.1⟩

theorem test_meets_StartsAndSuppliesSetTheState :
    (State.reset.system.mainOn = true ∧ State.reset.system.restart = none) ∧
    (let r (read : Bool) : Restart := { link := .t, requested := 0, replyRead := read }
    let s (read : Bool) : State := { State.reset with system := { System.initial with restart := some (r read) } }
    (s true).system.restart = some (r true) ∧ (r true).replyRead = true ∧ (s false).system.restart = some (r false) ∧
      (99999 - (r false).requested).toNat < 100000 ∧ 100000 ≤ (100000 - (r false).requested).toNat) ∧
    (State.reset.linkT.awaitsRestart = false ∧ State.reset.linkP.awaitsRestart = false) ∧
    (let l : LinkIf := { LinkIf.initial startMaskT with buffer := .ready { status := .ok, data := .restart true } }
    ∃ reply, l.buffer = .ready reply ∧ reply.data = .restart true) ∧
    (let l : LinkIf := { LinkIf.initial startMaskT with buffer := .handling .restart (frame []) }
    l.buffer = .handling .restart (frame []) ∧ (frame []).link = .t ∧ (frame []).body = [0] ∧ l.held = none ∧
      Link.t ≠ .p ∧ 100000 ≤ (101000 - (frame []).now).toNat ∧ (100999 - (frame []).now).toNat < 100000) ∧
    (State.reset.store.recording = none ∧ State.reset.store.importing = none) ∧
    ((importingAt 31).store.recording = none ∧ (∃ i, (importingAt 31).store.importing = some i ∧ 1 ≤ i.take ∧ i.take ≤ 16) ∧
      (importingAt 31).store.entry 3 = some { closedTake with state := .importing, count := 1 }) ∧
    ((recordingAt 9 8195000 [1, 2, 3]).store.importing = none ∧ (recordingAt 9 8195000 [1, 2, 3]).memoryCanonical ∧
      3 ≤ (recordingAt 9 8195000 [1, 2, 3]).store.freeList.length ∧
      (∃ c, (recordingAt 9 8195000 [1, 2, 3]).store.recording = some c ∧ c.started = true ∧ 1 ≤ c.take ∧ c.take ≤ 16 ∧
        c.closings ≤ 96) ∧
      (recordingAt 9 8195000 [1, 2, 3]).store.entry 1 = some { closedTake with state := .recording, count := 9 }) :=
  ⟨by decide, by decide, by decide, ⟨_, rfl, rfl⟩, by decide, by decide, ⟨rfl, ⟨_, rfl, by decide⟩, by decide⟩,
    rfl, by unfold State.memoryCanonical; decide, by decide, ⟨_, rfl, by decide⟩, by decide⟩

/-! ### Worked examples of the manual, and one step each of a few commands -/

/-- "Normalization of a downward-reading sensor" (chapter 1): rest raw 912, bottom raw 266. -/
theorem test_depths_of_key_17 :
    [930, 912, 700, 589, 250].map (fun r => depthOf r 912 266) = [0, 0, 328, 500, 1000] := by decide

/-- A key whose depth is its raw reading. -/
def plainKey : Key := { Key.initial with cal := { restRaw := 0, bottomRaw := 1000, trim := 2, enabled := true }, state := .rest }

/-- "An interpolation across the wrap of the time base" (chapter 2): START is crossed at 4 µs. -/
theorem test_start_crossed_across_the_wrap :
    gives (exec (.keySample 54 40 230)
        (keysIn { plainKey with lastPlausible := some { raw := 170, depth := 170, stamp := 4294967250 } }))
      (fun t => decide ((t.key 40).state = .descending ∧ (t.key 40).timing = some { kind := .start, time := 4 })) = true := by
  decide

/-- "A normal strike" (chapter 2): velocity 76 at 28,333 µs. -/
theorem test_normal_strike :
    gives (exec (.keySample 28400 40 808)
        (keysIn { plainKey with
          state := .descending, timing := some { kind := .start, time := 20066 }
          lastPlausible := some { raw := 796, depth := 796, stamp := 28300 } }))
      (fun t => decide (t.tone.queue.map Queued.entry = [.noteOn 40 76 .live {} 28333] ∧ (t.key 40).strikes = 1)) = true := by
  decide +kernel

/-- "A release" (chapter 2): release velocity 24 at 230,033 µs. -/
theorem test_normal_release :
    gives (exec (.keySample 230100 40 330)
        { keysIn { plainKey with
            state := .rearmed, timing := some { kind := .rearmDown, time := 200083 }
            lastPlausible := some { raw := 360, depth := 360, stamp := 230000 } } with
          router := { Router.initial with
            table := Vector.replicate 88 { owner := some .live, lastVelocity := some 76, released := false, announced := true } } })
      (fun t => decide (t.tone.queue.map Queued.entry = [.noteOff 40 24 .live {} 230033] ∧ (t.key 40).state = .rest)) = true := by
  decide +kernel

/-- "A failing sensor on key 52" (chapter 1): the fourth implausible sample in a row. -/
theorem test_fourth_glitch_is_a_fault :
    gives (exec (.keySample 100600 52 1023) (keysIn { plainKey with glitchRun := 3, glitches := 5 }))
      (fun t => decide ((t.key 52).state = .fault ∧ (t.key 52).glitches = 6 ∧ (t.key 52).glitchRun = 0)) = true := by decide

/-- "A rest capture over a partly faulted keyboard" (chapter 1): key 5 takes 905, key 6 fails with a spread of 15. -/
theorem test_rest_capture_of_keys_5_and_6 :
    gives (exec (.restCaptureComplete 6400)
        (let s := keysIn { plainKey with state := .capture, cal := { restRaw := 870, bottomRaw := 205, trim := 0, enabled := true } }
        { s with
          scanner := { s.scanner with
            capture := some (.rest 0
              [{ key := 5, count := 64, sum := 57920, low := 901, high := 909, implausible := false },
               { key := 6, count := 64, sum := 57984, low := 899, high := 914, implausible := false }]) } }))
      (fun t => decide ((t.key 5).cal.restRaw = 905 ∧ (t.key 6).cal.restRaw = 870 ∧
        t.scanner.lastCapture =
          some { kind := .rest, key := none, outcome := .complete, failed := 1, lowestFailed := some 6 })) = true := by
  decide +kernel

/-- "Damper levels from two sources" (chapter 3): depth 40 after level 3. -/
theorem test_damper_depth_40_is_level_5 :
    gives (exec (.pedalSample 9 .damper 40)
        { State.reset with
          pedals := { PedalUnit.initial with
            damper :=
              { sense := { goodSense with cal := { restRaw := 0, fullRaw := 1000, enabled := true } }, live := 3, playback := 0,
                effective := 3 } } })
      (fun t => decide (t.pedals.damper.effective = 5 ∧ t.tone.queue.map Queued.entry = [.pedal .damper 5 .live 9])) = true := by
  decide

/-- "The player holds a key and the take strikes it" (chapter 3): the table row of the playback ON. -/
theorem test_playback_takes_a_held_key_over :
    (let s := (soundsIn { owner := some .live, lastVelocity := some 76, released := false, announced := true } [] false).onIntent
      40 90 .playback false 7
    decide (s.tone.queue.map Queued.entry =
      [.noteOff 40 64 .live { restrike := true } 7, .noteOn 40 90 .playback { restrike := true } 7] ∧
      (s.sound 40).owner = some .playback)) = true := by decide +kernel

/-- "The three alert modes" (chapter 5): 808 mA posts under ONE_SHOT from BELOW, 840 mA after it does not. -/
theorem test_one_shot_posts_once :
    gives (exec (.currentSample 5 808) (onTheWay run0 .engage))
      (fun t => hasKind t.linkP.board .railLoad && decide (t.rail.arm = .above)) = true ∧
    gives (exec (.currentSample 5 840) (railIn { (onTheWay run0 .engage).rail with arm := .above }))
      (fun t => !hasKind t.linkP.board .railLoad) = true := by decide

/-- RAIL_ENGAGE on a quiet keyboard begins a run at once, with the kick duty (R90, R91). -/
theorem test_rail_engage_begins_a_run :
    gives (exec (.railEngage (frame [])) State.reset)
      (fun t => decide (t.rail.state = .engaging ∧ t.rail.duty = 200 ∧ t.audio.moving = true)) = true := by decide

/-- "Mixing one frame" (chapter 6), at applied index 40. -/
theorem test_mixing_at_index_40 :
    gives (exec (.outputFrame 5)
        { State.reset with
          audio := { Audio.initial with
            fifo := [{ left := BitVec.ofInt 24 6000000, right := BitVec.ofInt 24 (-7500000) }], inUnderrun := false, applied := 40
            click := some { first := true, amplitude := some 3932160, index := 0 }
            mute := { jackOut := false, railNotEngaged := false, railMoving := false, underrun := false, panelMute := false } } })
      (fun t => decide (t.audio.sent = some { left := 4755585, right := 2902878 })) = true := by decide +kernel

/-- "Metronome during a slowed playback" (chapter 6): tempo 112 at speed 150. -/
theorem test_interval_at_speed_150 :
    gives (exec (.nextBeatTime 1000)
        (let s := beating .free { bar := 7, beat := 3 }
        { s with
          audio := { s.audio with
            playSpeed := some 150
            metro := { tempo := 112, beats := 3, clickLevel := 8, beatCopy := false, run := true } } }))
      (fun t => decide (t.audio.nextBeat = some 358142 ∧ t.audio.counter = some { bar := 8, beat := 1 })) = true := by decide

/-- "One record" (chapter 12). -/
theorem test_bytes_of_one_record :
    Record.bytes { delta := 300, payload := .noteOn 52 true 90 } = [0x11, 0x2C, 0xB4, 0x5A] ∧
      decodeRecord [0x11, 0x2C, 0xB4, 0x5A] = some { delta := 300, payload := .noteOn 52 true 90 } := by decide

/-- The check value that R182 states for the nine characters 1 to 9. -/
theorem test_crc_of_123456789 :
    crcFold crcStart [0x31, 0x32, 0x33, 0x34, 0x35, 0x36, 0x37, 0x38, 0x39] = 0x29B1 := by decide +kernel

/-- An ALL_OFF that becomes the head in BURST mode sets READY_T, though it was admitted in SINGLE mode (R79, R80). -/
theorem test_all_off_at_the_head_sets_ready :
    gives (exec (.drainSlotComplete 5)
        { State.reset with
          tone := { Tone.initial with
            queue := [{ entry := .pedal .damper 1 .live 0, admitted := 0 }, { entry := .allOff 0, admitted := 0 }]
            drain := some (.entry (.pedal .damper 1 .live 0) false) } })
      (fun t => t.tone.ready) = true := by decide

/-- A latch set in BURST mode outlives SINGLE mode while the queue holds an entry (R79, R81). -/
theorem test_latch_outlives_single_mode :
    (let s (mode : ReadyMode) (latch : Bool) : State :=
      { toneIn 1 with tone := { (toneIn 1).tone with mode := mode, latch := latch } }
    gives (exec (.toneStreamSetup (frame [1, 1])) (s .burst true)) (fun t => t.tone.latch) = true ∧
    gives (exec (.toneStreamSetup (frame [1, 2])) (s .single true)) (fun t => t.tone.ready) = true ∧
    gives (exec (.toneStreamSetup (frame [1, 2])) (s .single false)) (fun t => !t.tone.ready) = true) := by decide

/-- A transaction on Link P for another address leaves all but the time base as it was (R193). -/
theorem test_other_address_is_not_answered :
    exec (.calRead (pFrame 0x5D [1, 1])) State.reset = .next { State.reset with now := 1000 } ∧
    decodeLinkP 5 0x5E false [0x04] = some (.pointerWrite 5 ⟨0x5E, 0x04⟩) := ⟨rfl, rfl⟩

/-- The snapshot of RAIL_STATE: code, length and fields as 12.4 has them (R195). -/
theorem test_status_read_bytes :
    gives (exec (.statusRead 5 ⟨0, .t⟩)
        { State.reset with linkT := { LinkIf.initial startMaskT with board := 0x0010 }, rail := { Rail.initial with count := -2 } })
      (fun t => decide (t.linkT.out = .bytes [1, 5, 6, 1, 0, 0xFF, 0xFE, 0, 2] ∧ t.attnT = false)) = true := by decide

/-- A DRAIN slot over an empty queue is a NONE filler of 8 bytes, stamped with the time base (R76). -/
theorem test_empty_slot_is_none :
    gives (exec (.drainSlotStart 258) { State.reset with tone := { Tone.initial with drain := some .idle } })
      (fun t => decide (t.linkT.out = .bytes [0, 0, 0, 0, 0, 0, 1, 2] ∧ t.tone.drain = some .idle)) = true := by decide

/-- A read of the reply channel sends the frame of 12.2: status OK, 6 data bytes, and the record with its signed trim (R202). -/
theorem test_cal_read_reply_bytes :
    gives (exec (.replyRead 5 ⟨0, .t⟩ true false)
        { State.reset with
          linkT := { LinkIf.initial startMaskT with
            buffer := .ready { status := .ok, data := .keyCal { restRaw := 912, bottomRaw := 266, trim := -2, enabled := true } } } })
      (fun t => decide (t.linkT.out = .bytes [0, 0, 6, 3, 0x90, 1, 0x0A, 0xFE, 1] ∧ t.linkT.buffer = .empty)) = true := by decide

/-- An empty buffer is read as NO_REPLY with data length 0 (R191, 12.2). -/
theorem test_no_reply_bytes :
    gives (exec (.replyRead 5 ⟨0, .t⟩ true false) State.reset) (fun t => decide (t.linkT.out = .bytes [0xFF, 0, 0])) = true := by
  decide

/-- A run reckons with a new learned travel from its next pulse on (R87, step 4). -/
theorem test_travel_from_the_next_pulse :
    (let s := onTheWay { run0 with phase := .ramp } .engage
    gives (exec (.encoderPulse 5 .towardEngaged) { s with rail := { s.rail with learned := 700 } })
      (fun t => decide (t.rail.run.map Run.travel = some 700 ∧ s.rail.run.map Run.travel = some 1200))) = true := by decide

/-- A KEY_LINES of 7 bytes that its block would judge later is answered LENGTH at once (R191, R203). -/
theorem test_short_frame_is_answered_at_once :
    gives (exec (.keyLines { frame [0, 50, 0, 70, 0, 90, 3] with deferred := true }) State.reset)
      (fun t => decide (replyOf t = some { status := .length, data := .none } ∧ t.linkT.malformed = 1)) = true := by decide

/-- A chord note due at once is gathered within the TAKE_RESUME (R177). -/
theorem test_resume_gathers_at_once :
    gives (exec (.takeResume (frame [])) pausedAtNote)
      (fun t => decide (t.transport.state = .waiting ∧ t.transport.expected = [17] ∧ t.transport.cursor = 8)) = true := by
  decide +kernel

/-- LOOP_SET above the duration of the take that is being recorded is answered RANGE, before the state is judged (R151). -/
theorem test_loop_beyond_a_recording_is_range :
    (let s := recordingAt 1 0 [1, 2, 3]
    gives (exec (.loopSet (frame [0, 0, 0, 0, 0, 0, 32, 4, 1]))
        { s with transport := { Transport.initial with state := .recording, take := some 1 } })
      (fun t => decide (replyOf t = some { status := .range, data := .none }))) = true := by decide +kernel

/-- An overdue GAP expiry that meets the reserve line ends the recording with cause RESERVE, and the fallboard close after it
closes nothing more (R138, R155). -/
theorem test_overdue_gap_ends_with_reserve :
    (let s := recordingAt 32 0 [1, 2, 3]
    gives (exec (.fallboardClose 4096000)
        { s with transport := { Transport.initial with state := .recording, take := some 1 } })
      (fun t => decide (t.transport.lastEnd = some .reserve ∧
        (t.store.entry 1).map (fun e => e.flags.truncated) = some true))) = true := by decide +kernel

/-- CAL_READ of a key that the part does not have is answered RANGE (R13). -/
theorem test_cal_read_of_key_89_is_range :
    gives (exec (.calRead (frame [89])) State.reset)
      (fun t => decide (replyOf t = some { status := .range, data := .none })) = true := by decide

/-- STATUS_MASK keeps START subscribed, and a reserved bit is answered RANGE (R196). -/
theorem test_status_mask_keeps_start :
    gives (exec (.statusMask (frame [0x10, 0x00])) State.reset) (fun t => decide (t.linkT.mask = 0x1001)) = true ∧
    gives (exec (.statusMask (frame [0x20, 0x00])) State.reset) (fun t => decide (t.linkT.mask = 0x0139)) = true := by decide

/-- The presence byte opens TAKE_PLAY (R203): an empty take 16 is answered NOT_FOUND, and a reserved presence bit RANGE (R157). -/
theorem test_take_play_opens_with_its_presence_byte :
    gives (exec (.takePlay (frame [0, 16])) State.reset)
      (fun t => decide (replyOf t = some { status := .notFound, data := .none })) = true ∧
    gives (exec (.takePlay (frame [32, 16])) State.reset)
      (fun t => decide (replyOf t = some { status := .range, data := .none })) = true := by decide

end Sys2Proof.Tests
end

section
/-! SUPPORT. CAL_READ (R13): the target byte as a key or a pedal, what the Sensor Scanner answers for each, and the outcome of the
command. -/

namespace Sys2Proof.Machine

open Sys2Proof

/-- The target numbers of the pedals (12.2), read off the target byte itself. -/
theorem pedalTarget_byte (b : Byte) :
    pedalTarget b.toNat =
      if b = 0x81 then some .damper else if b = 0x82 then some .sostenuto else if b = 0x83 then some .soft else none := by
  simp [pedalTarget, BitVec.toNat_eq]

theorem keyOk_iff (k : Nat) : keyOk k = true ↔ 1 ≤ k ∧ k ≤ 88 := by simp [keyOk]

section Judgement

variable {b : Byte} (rest : List Byte) (s : State)

theorem judgeCalRead_key (hk : 1 ≤ b.toNat ∧ b.toNat ≤ 88) :
    judgeCalRead (b :: rest) s = okWith (.keyCal (s.key b.toNat).cal) s := by
  simp [judgeCalRead, (keyOk_iff _).mpr hk]

theorem judgeCalRead_pedal {pedal : PedalId} (hk : ¬(1 ≤ b.toNat ∧ b.toNat ≤ 88)) (hp : pedalTarget b.toNat = some pedal) :
    judgeCalRead (b :: rest) s = okWith (.pedalCal (s.pedals.sense pedal).cal) s := by
  simp [judgeCalRead, (keyOk_iff _).not.mpr hk, hp]

theorem judgeCalRead_range (hk : ¬(1 ≤ b.toNat ∧ b.toNat ≤ 88)) (hp : pedalTarget b.toNat = none) :
    judgeCalRead (b :: rest) s = refuse .range s := by
  simp [judgeCalRead, (keyOk_iff _).not.mpr hk, hp]

end Judgement

/-- CAL_READ answers as its judgement does, for every frame that the part can take at once. -/
theorem exec_calRead_of_judge {f : Frame} {b : Byte} {rest : List Byte} {s u : State} {r : Reply} (h : s.canTake f (b :: rest))
    (hj : judgeCalRead (b :: rest) (s.received f) = some (u, r)) : exec (.calRead f) s = answered f r u :=
  takeRequest_of_judge (kind := .calRead) h (Nat.le_add_left 1 rest.length) (by decide) hj

/-- A pedal's record is answered OK, as it stood when the frame was received. -/
theorem exec_calRead_pedal {f : Frame} {b : Byte} {rest : List Byte} {s : State} {pedal : PedalId} (h : s.canTake f (b :: rest))
    (hk : ¬(1 ≤ b.toNat ∧ b.toNat ≤ 88)) (hp : pedalTarget b.toNat = some pedal) :
    exec (.calRead f) s = okFor f (.pedalCal (s.pedals.sense pedal).cal) (s.received f) := by
  have answers := exec_calRead_of_judge h (judgeCalRead_pedal rest (s.received f) hk hp)
  rwa [State.received_pedals] at answers

/-- Settles O18, by the kind of the target: a key, one of the three pedals, or neither. -/
theorem calReadReturnsTheRecord : Obligations.CalReadReturnsTheRecord := by
  intro f target rest s h
  have pedal := pedalTarget_byte target
  split_ifs with key damper sostenuto soft
  · have answers := exec_calRead_of_judge h (judgeCalRead_key rest (s.received f) key)
    rwa [State.received_key] at answers
  · exact exec_calRead_pedal h key (by rw [pedal, if_pos damper])
  · exact exec_calRead_pedal h key (by rw [pedal, if_neg damper, if_pos sostenuto])
  · exact exec_calRead_pedal h key (by rw [pedal, if_neg damper, if_neg sostenuto, if_pos soft])
  · have noPedal : pedalTarget target.toNat = none := by rw [pedal, if_neg damper, if_neg sostenuto, if_neg soft]
    exact exec_calRead_of_judge h (judgeCalRead_range rest (s.received f) key noPedal)

end Sys2Proof.Machine
end

section
/-! SUPPORT. CURVE_SELECT, CURVE_READ and STROKE_SLOW_LIMIT (R41 to R43): what the Stroke Analyzer answers for a slot in and out of
0..3 and for a slow limit, and the outcome of the three commands. -/

namespace Sys2Proof.Machine

open Sys2Proof

section Judgement

variable (slot a b : Byte) (rest : List Byte) (s : State)

theorem judgeCurveSelect_slot (h : slot.toNat < 4) :
    judgeCurveSelect (slot :: rest) s = okWith .none { s with strokes := { s.strokes with active := slot.toNat } } := by
  simp [judgeCurveSelect, h]

theorem judgeCurveSelect_range (h : ¬slot.toNat < 4) : judgeCurveSelect (slot :: rest) s = refuse .range s := by
  simp [judgeCurveSelect, h]

theorem judgeCurveRead_slot (h : slot.toNat < 4) :
    judgeCurveRead (slot :: rest) s =
      okWith (.curve (s.strokes.curves.getD slot.toNat []) s.strokes.active s.strokes.slowLimit) s := by
  simp [judgeCurveRead, h]

theorem judgeCurveRead_range (h : ¬slot.toNat < 4) : judgeCurveRead (slot :: rest) s = refuse .range s := by
  simp [judgeCurveRead, h]

theorem judgeStrokeSlowLimit_clamps :
    judgeStrokeSlowLimit (a :: b :: rest) s =
      okWith (.slowLimit (max 100 (min (num2 a b) 2000)))
        { s with strokes := { s.strokes with slowLimit := max 100 (min (num2 a b) 2000) } } := by
  simp [judgeStrokeSlowLimit, clamp]

end Judgement

section Outcome

variable {f : Frame} {slot a b : Byte} {rest : List Byte} {s u : State} {r : Reply}

/-- CURVE_SELECT answers as its judgement does, for every frame that the part can take at once. -/
theorem exec_curveSelect_of_judge (h : s.canTake f (slot :: rest))
    (hj : judgeCurveSelect (slot :: rest) (s.received f) = some (u, r)) : exec (.curveSelect f) s = answered f r u :=
  takeRequest_of_judge (kind := .curveSelect) h (Nat.le_add_left 1 rest.length) (by decide) hj

/-- CURVE_READ answers as its judgement does, for every frame that the part can take at once. -/
theorem exec_curveRead_of_judge (h : s.canTake f (slot :: rest))
    (hj : judgeCurveRead (slot :: rest) (s.received f) = some (u, r)) : exec (.curveRead f) s = answered f r u :=
  takeRequest_of_judge (kind := .curveRead) h (Nat.le_add_left 1 rest.length) (by decide) hj

/-- STROKE_SLOW_LIMIT answers as its judgement does, for every frame that the part can take at once. -/
theorem exec_strokeSlowLimit_of_judge (h : s.canTake f (a :: b :: rest))
    (hj : judgeStrokeSlowLimit (a :: b :: rest) (s.received f) = some (u, r)) : exec (.strokeSlowLimit f) s = answered f r u :=
  takeRequest_of_judge (kind := .strokeSlowLimit) h (Nat.le_add_left 2 rest.length) (by decide) hj

/-- R41: a slot 0..3 becomes active, and any other is refused with RANGE. -/
theorem exec_curveSelect (h : s.canTake f (slot :: rest)) :
    exec (.curveSelect f) s =
      if slot.toNat < 4 then okFor f .none { s.received f with strokes := { s.strokes with active := slot.toNat } }
      else refusedWith f .range s := by
  split_ifs with inRange
  · have answers := exec_curveSelect_of_judge h (judgeCurveSelect_slot slot rest (s.received f) inRange)
    rwa [State.received_strokes] at answers
  · exact exec_curveSelect_of_judge h (judgeCurveSelect_range slot rest (s.received f) inRange)

/-- R42: a slot 0..3 is answered with its breakpoints as they stood when the frame was received, and any other is refused. -/
theorem exec_curveRead (h : s.canTake f (slot :: rest)) :
    exec (.curveRead f) s =
      if slot.toNat < 4 then
        okFor f (.curve (s.strokes.curves.getD slot.toNat []) s.strokes.active s.strokes.slowLimit) (s.received f)
      else refusedWith f .range s := by
  split_ifs with inRange
  · have answers := exec_curveRead_of_judge h (judgeCurveRead_slot slot rest (s.received f) inRange)
    rwa [State.received_strokes] at answers
  · exact exec_curveRead_of_judge h (judgeCurveRead_range slot rest (s.received f) inRange)

/-- R43: the limit is kept and returned as clamped into 100..2000 ms. -/
theorem exec_strokeSlowLimit (h : s.canTake f (a :: b :: rest)) :
    exec (.strokeSlowLimit f) s =
      okFor f (.slowLimit (max 100 (min (num2 a b) 2000)))
        { s.received f with strokes := { s.strokes with slowLimit := max 100 (min (num2 a b) 2000) } } := by
  have answers := exec_strokeSlowLimit_of_judge h (judgeStrokeSlowLimit_clamps a b rest (s.received f))
  rwa [State.received_strokes] at answers

end Outcome

/-- Settles O26, from the outcome of each of the three commands. -/
theorem curveSelectReadAndSlowLimit : Obligations.CurveSelectReadAndSlowLimit :=
  ⟨fun _ _ _ _ h => ⟨exec_curveSelect h, exec_curveRead h⟩, fun _ _ _ _ _ h => exec_strokeSlowLimit h⟩

end Sys2Proof.Machine
end

section
/-! SUPPORT. ALL_NOTES_OFF (R65): what the PANIC of the Note Router does to the Sounding Table, the Tone Queue and the Panel Stream,
and the outcome of the command. -/

namespace Sys2Proof.Machine

open Sys2Proof

section Received

variable (f : Frame) (s : State)

/-- The exchange of a frame leaves the count of overflows and the time of the last one (R72). -/
@[simp] theorem State.received_overflows :
    (s.received f).tone.resyncs = s.tone.resyncs ∧ (s.received f).tone.lastOverflow = s.tone.lastOverflow := by
  cases h : f.link <;> simp [State.received, State.beginExchange, h]

/-- The exchange of a frame leaves the Panel Stream's entries. -/
@[simp] theorem State.received_stream : (s.received f).panel.stream = s.panel.stream := by
  cases h : f.link <;> simp [State.received, State.beginExchange, h]

end Received

/-! ### The Tone Queue and the Panel Stream -/

/-- The Tone Stream's record once it has taken an ALL_OFF: the entry joins below 192 and replaces all that waits at 192 (R73). -/
def Tone.withAllOff (time now : Time) (t : Tone) : Tone :=
  if t.queue.length < 192 then t.enqueue (.allOff time) now else t.replaceWith (.allOff time) now

section AllOff

variable (time now : Time) (t : Tone) (s : State)

theorem Tone.withAllOff_queue_room (room : t.queue.length < 192) :
    (t.withAllOff time now).queue = t.queue ++ [{ entry := .allOff time, admitted := now }] := by
  rw [Tone.withAllOff, if_pos room, Tone.enqueue]

theorem Tone.withAllOff_queue_full (full : 192 ≤ t.queue.length) :
    (t.withAllOff time now).queue = [{ entry := .allOff time, admitted := now }] := by
  rw [Tone.withAllOff, if_neg full.not_gt, Tone.replaceWith]

/-- An ALL_OFF is no overflow. -/
@[simp] theorem Tone.withAllOff_overflows :
    (t.withAllOff time now).resyncs = t.resyncs ∧ (t.withAllOff time now).lastOverflow = t.lastOverflow := by
  rw [Tone.withAllOff]
  split_ifs <;> exact ⟨rfl, rfl⟩

/-- An ALL_OFF is always admitted, and changes the Tone Stream's record alone (R73). -/
theorem State.offerTone_allOff :
    s.offerTone (.allOff time) = ({ s with tone := s.tone.withAllOff time s.now }, .admitted) := by
  by_cases room : s.tone.queue.length < 192 <;>
    simp [State.offerTone, Tone.withAllOff, Tone.occupancy, Config.queueCapacity, room]

end AllOff

/-- An entry joins the Panel Stream at its tail below 64 entries (R197). -/
theorem State.panelOffer_stream (e : PanelEntry) (s : State) (room : s.panel.stream.length < 64) :
    (s.panelOffer e).panel.stream = s.panel.stream ++ [e] := by
  rw [State.panelOffer, if_pos (show s.panel.stream.length < Config.panelCapacity from room)]

/-! ### The PANIC -/

section Panic

variable (s : State)

/-- Every key becomes SILENT; a number that names no key reads as a SILENT entry before and after. -/
theorem State.sound_silenceAll (k : Nat) : s.silenceAll.sound k = (s.sound k).silenced := by
  simp only [State.sound, State.silenceAll, Vector.getElem?_map]
  cases s.router.table[slotOf k]? <;> rfl

/-- The PANIC with its ALL_OFF admitted: the copy of R67 is all that depends on the copy setting. -/
theorem State.panic_eq :
    s.panic =
      let u := { s.silenceAll with tone := s.tone.withAllOff s.now s.now }
      if s.router.copy = .off then u else u.panelOffer (.noteCopy (.allOff s.now) (some .panic) .admitted) := by
  simp only [State.panic, State.offerTone_allOff, State.silenceAll_frame]
  rfl

theorem State.panic_router : s.panic.router = s.silenceAll.router := by
  simp only [State.panic_eq]
  split_ifs <;> simp

theorem State.panic_tone : s.panic.tone = s.tone.withAllOff s.now s.now := by
  simp only [State.panic_eq]
  split_ifs <;> simp

theorem State.panic_links : s.panic.linkT = s.linkT ∧ s.panic.linkP = s.linkP := by
  simp only [State.panic_eq]
  split_ifs <;> simp

/-- The ALL_OFF is copied whatever the key range of the monitor copy (R67). -/
theorem State.panic_stream (copies : s.router.copy ≠ .off) (room : s.panel.stream.length < 64) :
    s.panic.panel.stream = s.panel.stream ++ [.noteCopy (.allOff s.now) (some .panic) .admitted] := by
  simp only [State.panic_eq, if_neg copies]
  rw [State.panelOffer_stream _ _ (by simpa using room)]
  simp

theorem State.panic_sound (k : Nat) : s.panic.sound k = (s.sound k).silenced :=
  (State.sound_congr s.panic_router k).trans (s.sound_silenceAll k)

end Panic

/-- ALL_NOTES_OFF is answered OK after the PANIC, whatever parameter bytes its frame carries. -/
theorem exec_allNotesOff {f : Frame} {p : List Byte} {s : State} (h : s.canTake f p) :
    exec (.allNotesOff f) s = okFor f .none (s.received f).panic :=
  takeRequest_of_judge (kind := .allNotesOff) h (Nat.zero_le p.length) (by decide) rfl

/-- Settles O33, from what the PANIC does to each block of the state in which the frame is judged. -/
theorem allNotesOffSilencesEverything : Obligations.AllNotesOffSilencesEverything := by
  intro f p s h
  have tone := (s.received f).panic_tone
  have stream := (s.received f).panic_stream
  obtain ⟨linkT, linkP⟩ := (s.received f).panic_links
  refine ⟨(s.received f).panic, exec_allNotesOff h, fun k => ?silent, ?router, fun room => ?joins, fun full => ?replaces,
    ?resyncs, ?lastOverflow, fun copies room => ?copied, ?pedals, ?scanner, ?rail, ?store, ?transport, linkT, linkP⟩
  case silent =>
    rw [State.panic_sound, State.received_sound]
    rfl
  case router =>
    rw [State.panic_router]
    simp [State.silenceAll]
  case joins =>
    rw [tone, Tone.withAllOff_queue_room _ _ _ (by simpa using room)]
    simp
  case replaces =>
    rw [tone, Tone.withAllOff_queue_full _ _ _ (by simpa using full)]
    simp
  case copied => simpa [copies, room] using stream
  all_goals simp [tone]

end Sys2Proof.Machine
end

section
/-! SUPPORT. The chain of a take and its release (R131 to R133): which blocks of the Block Map become FREE, and what a release
leaves of the Take Store. -/

namespace Sys2Proof.Machine

open Sys2Proof

/-- A block freed reads FREE; a number past the Block Map reads FREE before and after. -/
theorem Store.blockEntry_setBlock_free (st : Store) (b c : Nat) :
    (st.setBlock b .free).blockEntry c = if c = b then .free else st.blockEntry c := by
  simp only [Store.blockEntry, Store.setBlock, Vector.getElem?_setIfInBounds]
  by_cases same : c = b
  · subst same
    by_cases inMap : c < 2048 <;> simp [inMap]
  · simp [same, Ne.symm same]

/-- Blocks freed one after another: each of them reads FREE, and no other entry changes. -/
theorem Store.blockEntry_foldl_free (blocks : List Nat) (st : Store) (c : Nat) :
    (blocks.foldl (fun acc b => acc.setBlock b .free) st).blockEntry c = if c ∈ blocks then .free else st.blockEntry c := by
  induction blocks generalizing st with
  | nil => simp
  | cons b rest ih =>
    rw [List.foldl_cons, ih, Store.blockEntry_setBlock_free]
    by_cases freed : c ∈ rest <;> simp [freed]

/-- Freeing blocks changes the Block Map alone. -/
theorem Store.foldl_free_eq (blocks : List Nat) (st : Store) :
    blocks.foldl (fun acc b => acc.setBlock b .free) st =
      { st with blockMap := blocks.foldl (fun map b => map.setIfInBounds b .free) st.blockMap } :=
  List.foldl_hom (fun map => { st with blockMap := map }) fun _ _ => rfl

section Release

variable {st : Store} {n : Nat} {e : Take} (held : st.entry n = some e)
include held

/-- The release of a take: its chain freed in the Block Map and appended to the Free List, and its entry EMPTY. -/
theorem Store.releaseTake_of_entry :
    st.releaseTake n =
      ({ st with
          blockMap := (st.chain e).foldl (fun map b => map.setIfInBounds b .free) st.blockMap
          freeList := st.freeList ++ st.chain e } : Store).setEntry n none := by
  simp only [Store.releaseTake, held, Store.foldl_free_eq]

/-- The released chain joins the Free List at the tail, in chain order (R132). -/
theorem Store.releaseTake_freeList : (st.releaseTake n).freeList = st.freeList ++ st.chain e := by
  rw [Store.releaseTake_of_entry held, Store.setEntry]

/-- The blocks of the released chain become FREE, and no other entry of the Block Map changes (R132). -/
theorem Store.releaseTake_blockEntry (b : Nat) :
    (st.releaseTake n).blockEntry b = if b ∈ st.chain e then .free else st.blockEntry b := by
  rw [← Store.blockEntry_foldl_free, Store.releaseTake_of_entry held, Store.foldl_free_eq]
  rfl

/-- The released entry becomes EMPTY, and the other takes keep theirs (R133). -/
theorem Store.releaseTake_entry (inDirectory : 1 ≤ n ∧ n ≤ 16) (m : Nat) :
    (st.releaseTake n).entry m = if m = n then none else st.entry m := by
  rw [Store.releaseTake_of_entry held, Store.entry_setEntry]
  simp only [inDirectory, and_self, and_true]
  rfl

/-- A release leaves the serial and what is being recorded or imported. -/
theorem Store.releaseTake_frame :
    (st.releaseTake n).serial = st.serial ∧ (st.releaseTake n).recording = st.recording ∧
      (st.releaseTake n).importing = st.importing := by
  rw [Store.releaseTake_of_entry held]
  exact ⟨rfl, rfl, rfl⟩

end Release

end Sys2Proof.Machine
end

section
/-! SUPPORT. TAKE_LIST, TAKE_DELETE, TAKE_NAME and MEMORY_REPORT (R144 to R147): what the Take Store answers for each state of the
take named, and the outcome of the four commands. -/

namespace Sys2Proof.Machine

open Sys2Proof

theorem isTake_iff (n : Nat) : isTake n = true ↔ 1 ≤ n ∧ n ≤ 16 := by simp [isTake]

/-- A name that R146 refuses: longer than 16 characters, or with a byte outside 0x20..0x7E. -/
def badName (name : List Byte) : Prop := 16 < name.length ∨ ∃ b ∈ name, b.toNat < 0x20 ∨ 0x7E < b.toNat

theorem badName_iff (name : List Byte) : badName name ↔ 16 < name.length ∨ ∃ b ∈ name, printable b = false := by
  simp [badName, printable, imp_iff_not_or]

/-- The take may not be deleted: it is not CLOSED, or it is played or exported (R145). -/
def Take.inUse (e : Take) : Prop := e.state ≠ .closed ∨ e.playing = true ∨ e.exporting = true

section Judgement

variable {n : Byte} {name : List Byte} {s : State} {e : Take}

theorem judgeTakeList_all : judgeTakeList (0 :: name) s = okWith (.takes (takeNumbers.map s.store.line) s.store.serial) s := by
  simp [judgeTakeList]

theorem judgeTakeList_range (beyond : 16 < n.toNat) : judgeTakeList (n :: name) s = refuse .range s := by
  have notAll : n.toNat ≠ 0 := by omega
  have noTake : ¬(1 ≤ n.toNat ∧ n.toNat ≤ 16) := by omega
  simp [judgeTakeList, notAll, (isTake_iff _).not.mpr noTake]

theorem judgeTakeDelete_range (noTake : ¬(1 ≤ n.toNat ∧ n.toNat ≤ 16)) : judgeTakeDelete (n :: name) s = refuse .range s := by
  simp [judgeTakeDelete, (isTake_iff _).not.mpr noTake]

theorem judgeTakeName_range (refused : ¬(1 ≤ n.toNat ∧ n.toNat ≤ 16) ∨ badName name) :
    judgeTakeName (n :: name) s = refuse .range s := by
  rw [badName_iff, ← isTake_iff] at refused
  exact if_pos (by simpa using refused)

variable (take : 1 ≤ n.toNat ∧ n.toNat ≤ 16)
include take

theorem judgeTakeList_one : judgeTakeList (n :: name) s = okWith (.takes [s.store.line n.toNat] s.store.serial) s := by
  have notAll : n.toNat ≠ 0 := by omega
  simp [judgeTakeList, notAll, (isTake_iff _).mpr take]

theorem judgeTakeDelete_notFound (empty : s.store.entry n.toNat = none) :
    judgeTakeDelete (n :: name) s = refuse .notFound s := by
  simp [judgeTakeDelete, (isTake_iff _).mpr take, empty]

theorem judgeTakeDelete_busy (held : s.store.entry n.toNat = some e) (inUse : e.inUse) :
    judgeTakeDelete (n :: name) s = refuse .busy s := by
  rw [Take.inUse] at inUse
  simp [judgeTakeDelete, (isTake_iff _).mpr take, held, inUse]

theorem judgeTakeDelete_releases (held : s.store.entry n.toNat = some e) (unused : ¬e.inUse) :
    judgeTakeDelete (n :: name) s =
      okWith (.blocksFreed (s.store.chain e).length) (s.modStore (fun st => st.releaseTake n.toNat)) := by
  rw [Take.inUse] at unused
  simp [judgeTakeDelete, (isTake_iff _).mpr take, held, unused]

variable (good : ¬badName name)
include good

theorem judgeTakeName_notFound (empty : s.store.entry n.toNat = none) :
    judgeTakeName (n :: name) s = refuse .notFound s := by
  rw [badName_iff] at good
  simp [judgeTakeName, (isTake_iff _).mpr take, good, empty]

theorem judgeTakeName_state (held : s.store.entry n.toNat = some e) (unclosed : e.state ≠ .closed) :
    judgeTakeName (n :: name) s = refuse .state s := by
  rw [badName_iff] at good
  simp [judgeTakeName, (isTake_iff _).mpr take, good, held, unclosed]

theorem judgeTakeName_busy (held : s.store.entry n.toNat = some e) (closed : e.state = .closed) (exported : e.exporting = true) :
    judgeTakeName (n :: name) s = refuse .busy s := by
  rw [badName_iff] at good
  simp [judgeTakeName, (isTake_iff _).mpr take, good, held, closed, exported]

theorem judgeTakeName_names (held : s.store.entry n.toNat = some e) (closed : e.state = .closed)
    (unexported : e.exporting = false) :
    judgeTakeName (n :: name) s =
      okWith .none
        (s.modStore (fun st => st.setEntry n.toNat (some { e with name := if name = [] then none else some name }))) := by
  rw [badName_iff] at good
  simp [judgeTakeName, (isTake_iff _).mpr take, good, held, closed, unexported]

end Judgement

section Outcome

variable {f : Frame} {n : Byte} {name : List Byte} {s u : State} {e : Take} {r : Reply} (h : s.canTake f (n :: name))
include h

/-- TAKE_LIST answers as its judgement does, for every frame that the part can take at once. -/
theorem exec_takeList_of_judge (hj : judgeTakeList (n :: name) (s.received f) = some (u, r)) :
    exec (.takeList f) s = answered f r u :=
  takeRequest_of_judge (kind := .takeList) h (Nat.le_add_left 1 name.length) (by decide) hj

/-- TAKE_DELETE answers as its judgement does, for every frame that the part can take at once. -/
theorem exec_takeDelete_of_judge (hj : judgeTakeDelete (n :: name) (s.received f) = some (u, r)) :
    exec (.takeDelete f) s = answered f r u :=
  takeRequest_of_judge (kind := .takeDelete) h (Nat.le_add_left 1 name.length) (by decide) hj

/-- TAKE_NAME answers as its judgement does, for every frame that the part can take at once. -/
theorem exec_takeName_of_judge (hj : judgeTakeName (n :: name) (s.received f) = some (u, r)) :
    exec (.takeName f) s = answered f r u :=
  takeRequest_of_judge (kind := .takeName) h (Nat.le_add_left 1 name.length) (by decide) hj

/-- R144: the line of the take named, or of all 16 takes for 0, as they stood when the frame was received. -/
theorem exec_takeList :
    exec (.takeList f) s =
      if n = 0 then okFor f (.takes (takeNumbers.map s.store.line) s.store.serial) (s.received f)
      else if n.toNat ≤ 16 then okFor f (.takes [s.store.line n.toNat] s.store.serial) (s.received f)
      else refusedWith f .range s := by
  split_ifs with all oneTake
  · subst all
    have answers := exec_takeList_of_judge h judgeTakeList_all
    rwa [State.received_store] at answers
  · have take : 1 ≤ n.toNat ∧ n.toNat ≤ 16 := ⟨by bv_omega, oneTake⟩
    have answers := exec_takeList_of_judge h (judgeTakeList_one take)
    rwa [State.received_store] at answers
  · exact exec_takeList_of_judge h (judgeTakeList_range (by omega))

/-- R145: the chain of a take that is not in use is released, and the reply counts its blocks. -/
theorem exec_takeDelete_releases (take : 1 ≤ n.toNat ∧ n.toNat ≤ 16) (held : s.store.entry n.toNat = some e)
    (unused : ¬e.inUse) :
    exec (.takeDelete f) s =
      okFor f (.blocksFreed (s.store.chain e).length) { s.received f with store := s.store.releaseTake n.toNat } := by
  have answers := exec_takeDelete_of_judge h (judgeTakeDelete_releases take (by rwa [State.received_store]) unused)
  rwa [State.modStore, State.received_store] at answers

/-- R146: a good name replaces the name of a CLOSED take that is not exported, and an empty one makes it absent. -/
theorem exec_takeName_names (take : 1 ≤ n.toNat ∧ n.toNat ≤ 16) (good : ¬badName name)
    (held : s.store.entry n.toNat = some e) (closed : e.state = .closed) (unexported : e.exporting = false) :
    exec (.takeName f) s =
      okFor f .none
        { s.received f with
          store := s.store.setEntry n.toNat (some { e with name := if name = [] then none else some name }) } := by
  have answers :=
    exec_takeName_of_judge h (judgeTakeName_names take good (by rwa [State.received_store]) closed unexported)
  rwa [State.modStore, State.received_store] at answers

end Outcome

/-- MEMORY_REPORT is answered OK with its items, whatever parameter bytes its frame carries (R147). -/
theorem exec_memoryReport {f : Frame} {p : List Byte} {s : State} (h : s.canTake f p) :
    exec (.memoryReport f) s = okFor f (.memory s.store.memoryReport) (s.received f) := by
  have answers := takeRequest_of_judge (kind := .memoryReport) h (Nat.zero_le p.length) (by decide) rfl
  rwa [State.received_store] at answers

/-- Settles O47, by the take named: none, an EMPTY entry, or a take in each of its states; the release is that of its chain. -/
theorem takeDirectoryRequests : Obligations.TakeDirectoryRequests := by
  refine ⟨fun f n name s h => ⟨exec_takeList h, fun noTake => ?noTake, fun least most => ?directory⟩,
    fun f p s h => exec_memoryReport h⟩
  case noTake =>
    have noTake : ¬(1 ≤ n.toNat ∧ n.toNat ≤ 16) := by omega
    exact ⟨exec_takeDelete_of_judge h (judgeTakeDelete_range noTake),
      exec_takeName_of_judge h (judgeTakeName_range (.inl noTake))⟩
  case directory =>
    have take : 1 ≤ n.toNat ∧ n.toNat ≤ 16 := ⟨least, most⟩
    have entry : (s.received f).store.entry n.toNat = s.store.entry n.toNat := by rw [State.received_store]
    refine ⟨fun empty => ?deleteEmpty, fun e held => ⟨fun inUse => ?deleteBusy, fun closed unplayed unexported => ?delete⟩,
      fun bad => ?nameBad, fun good empty => ?nameEmpty,
      fun e held good => ⟨fun unclosed => ?nameState, fun closed exported => ?nameBusy,
        fun closed unexported => exec_takeName_names h take good held closed unexported⟩⟩
    case deleteEmpty => exact exec_takeDelete_of_judge h (judgeTakeDelete_notFound take (entry.trans empty))
    case deleteBusy => exact exec_takeDelete_of_judge h (judgeTakeDelete_busy take (entry.trans held) inUse)
    case delete =>
      have unused : ¬e.inUse := by simp [Take.inUse, closed, unplayed, unexported]
      have entries := Store.releaseTake_entry held take
      obtain ⟨serial, recording, importing⟩ := Store.releaseTake_frame held
      exact ⟨_, exec_takeDelete_releases h take held unused, rfl, by simpa using entries n.toNat,
        fun m other => by simpa [other] using entries m, Store.releaseTake_freeList held, Store.releaseTake_blockEntry held,
        Store.releaseTake_memory _ _, serial, recording, importing⟩
    case nameBad => exact exec_takeName_of_judge h (judgeTakeName_range (.inr bad))
    case nameEmpty => exact exec_takeName_of_judge h (judgeTakeName_notFound take good (entry.trans empty))
    case nameState => exact exec_takeName_of_judge h (judgeTakeName_state take good (entry.trans held) unclosed)
    case nameBusy => exact exec_takeName_of_judge h (judgeTakeName_busy take good (entry.trans held) closed exported)

end Sys2Proof.Machine
end

section
/-! SUPPORT. What a command can do, said once: the elementary moves of the blocks, each with the condition under which the operations
make it, and for every operation of the model the fact that it is a chain of such moves. An invariant of every step is then judged on
the moves alone. -/

namespace Sys2Proof.Machine

open Sys2Proof

/-! ### The elementary moves -/

/-- Two records of a key agree in all that the Stroke Analyzer keeps of it (R23). -/
def Key.sameStroke (x y : Key) : Prop :=
  x.state = y.state ∧ x.timing = y.timing ∧ x.slowMark = y.slowMark ∧ x.previousLines = y.previousLines ∧
    x.lastPlausible = y.lastPlausible

/-- Each mark of the mute-reason set stands exactly while its reason does (R118). -/
def Audio.mutesTrue (a : Audio) : Prop :=
  a.mute =
    { jackOut := !a.jack1 && !a.jack2, railNotEngaged := !a.engaged && !a.hpInAcoustic, railMoving := a.moving,
      underrun := a.inUnderrun, panelMute := a.panelMute }

/-- An Audio Stage that follows another by its own doing: the rail conditions stay as last handed on, the mute reasons stay true, and
fill, indexes and settings stay in their ranges. -/
def Audio.steady (a b : Audio) : Prop :=
  b.moving = a.moving ∧ b.engaged = a.engaged ∧ b.alertRequested = a.alertRequested ∧ (a.mutesTrue → b.mutesTrue) ∧
    (a.inRange → b.inRange)

/-- What the Analyzer found in a sample, at the Note Router (R44, R45). -/
def State.routeStroke (k : Nat) (e : StrokeEvent) (s : State) : State :=
  match e with
  | .nothing => s
  | .strike velocity time => s.onIntent k velocity .live s.rail.state.moving time
  | .release velocity time => s.offIntent k velocity .live time

/-- The record of key `k` is discarded for a Scanner state (R10). -/
def State.discardStroke (x : KeyState) (k : Nat) (s : State) : State :=
  (s.setKey k ((s.key k).leaveStroke x)).releasePrevious

/-- A judged stroke of key `k` takes its place in the key's record (R27). -/
def State.takeStroke (k : Nat) (q : Plausible) (s : State) : State :=
  (s.setKey k (s.strokes.judge q { s.key k with glitchRun := 0 }).1).releasePrevious

/-- The elementary moves of which every operation of the blocks is made. A field whose new value the move leaves open is bound by what
the invariants need of it, so that an operation has to show just that. -/
inductive Atom : State → State → Prop
  | post (k : NoticeKind) (s : State) : Atom s (s.post k)
  | panelOffer (e : PanelEntry) (s : State) : Atom s (s.panelOffer e)
  | noteKey (k : Nat) (x : Key) (s : State) (same : x.sameStroke (s.key k)) : Atom s (s.setKey k x)
  | setScanner (x : Scanner) (s : State) (same : x.keys = s.scanner.keys) : Atom s { s with scanner := x }
  | leaveCapture (k : Nat) (s : State) : Atom s (s.leaveCapture k)
  | enterScanner (x : KeyState) (k : Nat) (s : State) (idle : (s.key k).state.isStroke = false) :
      Atom s (s.discardStroke x k)
  | endStroke (x : KeyState) (c : Cause) (k : Nat) (s : State) (scanner : x.isStroke = false) :
      Atom s ((s.discardStroke x k).forceOff c (some .live) s.now k)
  | recover (k : Nat) (s : State) (fault : (s.key k).state = .fault) :
      Atom s (s.setKey k { s.key k with recoveryRun := 0, state := .suspended, glitchRun := 0 })
  | beginStroke (k : Nat) (x : Key) (s : State) (idle : (s.key k).state = .suspended) (rest : x.state = .rest) :
      Atom s (s.setKey k x)
  | stroke (k : Nat) (q : Plausible) (s : State) (inStroke : (s.key k).state.isStroke = true) :
      Atom s ((s.takeStroke k q).routeStroke k (s.strokes.judge q { s.key k with glitchRun := 0 }).2)
  | changeLines (l : LineSet) (s : State) (formed : l.wellFormed = true) : Atom s (s.changeLines l)
  | setStrokes (x : Strokes) (s : State) (current : x.current = s.strokes.current) (previous : x.previous = s.strokes.previous) :
      Atom s { s with strokes := x }
  | setPedals (u : PedalUnit) (s : State) (effective : u.sostenuto.effective = s.pedals.sostenuto.effective) :
      Atom s { s with pedals := u }
  | offerTone (e : ToneEntry) (s : State) : Atom s (s.offerTone e).1
  | recomputeSwitch (m : Time) (s : State) : Atom s (s.recomputeSwitch m)
  | onPlayback (k v : Nat) (transit : Bool) (m : Time) (s : State) : Atom s (s.onIntent k v .playback transit m)
  | offPlayback (k v : Nat) (m : Time) (s : State) : Atom s (s.offIntent k v .playback m)
  | forceOff (c : Cause) (q : Option Source) (m : Time) (k : Nat) (s : State) : Atom s (s.forceOff c q m k)
  | panic (s : State) : Atom s s.panic
  | setRouter (x : Router) (s : State) (table : x.table = s.router.table) (set : x.sostenutoSet = s.router.sostenutoSet) :
      Atom s { s with router := x }
  | flushTone (s : State) : Atom s (State.clearAnnounced { s with tone := s.tone.replaceWith (.resync s.now) s.now })
  | setupTone (mode : Option ReadyMode) (trigger : Option Nat) (clear : Bool) (s : State) : Atom s (s.setupTone mode trigger clear).1
  | setDrain (d : Option Slot) (s : State) : Atom s { s with tone := { s.tone with drain := d } }
  | removeHead (s : State) : Atom s { s with tone := s.tone.removeHead s.now }
  | onAge (s : State) : Atom s s.onAge
  | shiftOut (bytes : List Byte) (s : State) : Atom s (s.shiftOut bytes)
  | setRail (r : Rail) (s : State) (state : r.state = s.rail.state) (alert : r.alertRequested = s.rail.alertRequested)
      (kept : s.rail.consistent → r.consistent) : Atom s { s with rail := r }
  | railMoves (r : Rail) (s : State) (kept : s.rail.consistent → r.consistent) : Atom s (State.railHandOn { s with rail := r })
  | setAudio (a : Audio) (s : State) (steady : s.audio.steady a) : Atom s { s with audio := a }
  | setStore (st : Store) (s : State) (kept : Memory.wf s.store.memory = true → Memory.wf st.memory = true) :
      Atom s { s with store := st }
  | setTransport (t : Transport) (s : State) (kept : s.transport.expectedKept → t.expectedKept) : Atom s { s with transport := t }
  | setTransfer (x : Transfer) (s : State) : Atom s { s with transfer := x }
  | setRestart (x : Option Restart) (s : State) : Atom s { s with system := { s.system with restart := x } }
  | clearCounters (l : Link) (s : State) : Atom s (s.clearCounters l)

/-- A state is reached from another by elementary moves. -/
abbrev Leads : State → State → Prop := Relation.ReflTransGen Atom

/-- What every elementary move keeps, a chain of them keeps. -/
theorem Leads.keeps {P : State → Prop} (move : ∀ {s t}, Atom s t → P s → P t) {s t : State} (h : Leads s t) (hs : P s) : P t := by
  induction h with
  | refl => exact hs
  | tail _ atom ih => exact move atom ih

namespace Leads

variable {s u : State}

theorem foldl {α : Type} {f : State → α → State} (move : ∀ u a, Leads s u → Leads s (f u a)) (l : List α) (h : Leads s u) :
    Leads s (l.foldl f u) := foldl_holds (Leads s) f (fun u a h => move u a h) l u h

theorem post (k : NoticeKind) (h : Leads s u) : Leads s (u.post k) := h.tail (.post k u)

theorem panelOffer (e : PanelEntry) (h : Leads s u) : Leads s (u.panelOffer e) := h.tail (.panelOffer e u)

theorem noteKey (k : Nat) {x : Key} (same : x.sameStroke (u.key k)) (h : Leads s u) : Leads s (u.setKey k x) :=
  h.tail (.noteKey k x u same)

theorem setScanner {x : Scanner} (same : x.keys = u.scanner.keys) (h : Leads s u) : Leads s { u with scanner := x } :=
  h.tail (.setScanner x u same)

theorem setAudio {a : Audio} (steady : u.audio.steady a) (h : Leads s u) : Leads s { u with audio := a } :=
  h.tail (.setAudio a u steady)

theorem modAudio {f : Audio → Audio} (steady : u.audio.steady (f u.audio)) (h : Leads s u) : Leads s (u.modAudio f) :=
  h.setAudio steady

theorem setStore {st : Store} (kept : Memory.wf u.store.memory = true → Memory.wf st.memory = true) (h : Leads s u) :
    Leads s { u with store := st } := h.tail (.setStore st u kept)

theorem modStore {f : Store → Store} (kept : Memory.wf u.store.memory = true → Memory.wf (f u.store).memory = true)
    (h : Leads s u) : Leads s (u.modStore f) := h.setStore kept

theorem modTransport {f : Transport → Transport} (kept : u.transport.expectedKept → (f u.transport).expectedKept)
    (h : Leads s u) : Leads s (u.modTransport f) := h.tail (.setTransport (f u.transport) u kept)

theorem modRail {f : Rail → Rail} (state : (f u.rail).state = u.rail.state)
    (alert : (f u.rail).alertRequested = u.rail.alertRequested) (kept : u.rail.consistent → (f u.rail).consistent)
    (h : Leads s u) : Leads s (u.modRail f) := h.tail (.setRail (f u.rail) u state alert kept)

theorem railMoves {f : Rail → Rail} (kept : u.rail.consistent → (f u.rail).consistent) (h : Leads s u) :
    Leads s (u.modRail f).railHandOn := h.tail (.railMoves (f u.rail) u kept)

/-- A change of rail state, which is handed on and posted (R84, R105). -/
theorem railChanged {f : Rail → Rail} (kept : u.rail.consistent → (f u.rail).consistent) (h : Leads s u) :
    Leads s (u.modRail f).railChanged := (h.railMoves kept).post _

/-! ### Tone Stream, Note Router and pedals -/

theorem offerTone (e : ToneEntry) (h : Leads s u) : Leads s (u.offerTone e).1 := h.tail (.offerTone e u)

theorem forceOffAll (c : Cause) (q : Option Source) (m : Time) (h : Leads s u) : Leads s (u.forceOffAll c q m) :=
  h.foldl (fun v k hv => hv.tail (.forceOff c q m k v)) keyNumbers

theorem setPedals {x : PedalUnit} (effective : x.sostenuto.effective = u.pedals.sostenuto.effective) (h : Leads s u) :
    Leads s { u with pedals := x } := h.tail (.setPedals x u effective)

theorem modLevel (p : LevelId) (f : LevelPedal → LevelPedal) (h : Leads s u) : Leads s (u.modLevel p f) := by
  cases p <;> exact h.setPedals rfl

theorem modSwitch {f : SwitchPedal → SwitchPedal} (effective : (f u.pedals.sostenuto).effective = u.pedals.sostenuto.effective)
    (h : Leads s u) : Leads s (u.modSwitch f) := h.setPedals effective

theorem recomputeLevel (p : LevelId) (m : Time) (h : Leads s u) : Leads s (u.recomputeLevel p m) := by
  simp only [State.recomputeLevel]
  split
  · exact h
  · exact (h.modLevel p _).offerTone _

theorem recomputeSwitch (m : Time) (h : Leads s u) : Leads s (u.recomputeSwitch m) := h.tail (.recomputeSwitch m u)

theorem playbackPedal (p : PedalId) (v : Nat) (h : Leads s u) : Leads s (u.playbackPedal p v) := by
  cases p with
  | damper => exact (h.modLevel .damper _).recomputeLevel .damper _
  | soft => exact (h.modLevel .soft _).recomputeLevel .soft _
  | sostenuto => exact Leads.recomputeSwitch _ (h.modSwitch rfl)

theorem playbackClear (h : Leads s u) : Leads s u.playbackClear := by
  have cleared := Leads.modSwitch (f := fun x => { x with playback := false }) rfl
    ((h.modLevel .damper (fun x => { x with playback := 0 })).modLevel .soft (fun x => { x with playback := 0 }))
  exact ((cleared.recomputeLevel .damper _).recomputeLevel .soft _).recomputeSwitch _

/-! ### The beat clock -/

/-- The beat clock and the metronome leave the rail conditions, the mute reasons, the fill and the settings. -/
theorem beat (pos : BeatPos) (h : Leads s u) : Leads s (u.beat pos) := by
  simp only [State.beat]
  split
  · exact Leads.panelOffer _ (Leads.modAudio ⟨rfl, rfl, rfl, id, id⟩ h)
  · exact Leads.modAudio ⟨rfl, rfl, rfl, id, id⟩ h

theorem enterMode (m : ClockMode) (h : Leads s u) : Leads s (u.enterMode m) := by
  cases m <;> simp only [State.enterMode]
  case recording =>
    exact Leads.modAudio ⟨rfl, rfl, rfl, id, id⟩ (Leads.beat _ (Leads.modAudio ⟨rfl, rfl, rfl, id, id⟩ h))
  case free => exact Leads.modAudio ⟨rfl, rfl, rfl, id, id⟩ (Leads.beat _ (Leads.modAudio ⟨rfl, rfl, rfl, id, id⟩ h))
  all_goals exact Leads.modAudio ⟨rfl, rfl, rfl, id, id⟩ h

theorem judgeMode (h : Leads s u) : Leads s u.judgeMode := by
  simp only [State.judgeMode]
  split
  · exact h
  · exact h.enterMode _

theorem recordClickStart (h : Leads s u) : Leads s u.recordClickStart :=
  Leads.judgeMode (Leads.modAudio ⟨rfl, rfl, rfl, id, id⟩ h)

theorem recordClickEnd (h : Leads s u) : Leads s u.recordClickEnd :=
  Leads.judgeMode (Leads.modAudio ⟨rfl, rfl, rfl, id, id⟩ h)

theorem playClickStart (h : Leads s u) : Leads s u.playClickStart :=
  Leads.judgeMode (Leads.modAudio ⟨rfl, rfl, rfl, id, id⟩ h)

theorem playClickEnd (h : Leads s u) : Leads s u.playClickEnd :=
  Leads.judgeMode (Leads.modAudio ⟨rfl, rfl, rfl, id, id⟩ h)

theorem setPlaySpeed (p : Option Nat) (h : Leads s u) : Leads s (u.setPlaySpeed p) :=
  Leads.judgeMode (Leads.modAudio ⟨rfl, rfl, rfl, id, id⟩ h)

theorem beatDelivery (pos : BeatPos) (h : Leads s u) : Leads s (u.beatDelivery pos) := by
  simp only [State.beatDelivery]
  split
  · exact h.beat pos
  · exact h

end Leads

end Sys2Proof.Machine
end

section
/-! SUPPORT. The Rail Drive's operations as chains of elementary moves: each keeps the rail record of one piece where its state allows
the operation (R84 to R101). -/

namespace Sys2Proof.Machine

open Sys2Proof

/-! ### The rail record stays of one piece -/

namespace Rail.consistent

variable {r : Rail}

theorem run_isSome_iff (h : r.consistent) : r.run.isSome = true ↔ r.state.moving = true := h.1

theorem moving_of_run {x : Run} (h : r.consistent) (hr : r.run = some x) : r.state.moving = true :=
  h.run_isSome_iff.1 (by simp [hr])

theorem run_none (h : r.consistent) (still : r.state.moving = false) : r.run = none := by
  simpa [still] using h.run_isSome_iff

theorem waits_of_timer {t : Time} (h : r.consistent) (ht : r.quietTimer = some t) : r.state = .waitQuiet := by
  obtain ⟨_, _, _, _, _, timer, _⟩ := h
  exact timer.1 (by simp [ht])

/-- The numbers of the rail record and its resting state lie in their ranges (R84, R85, R87). -/
theorem ranges (h : r.consistent) : (r.resting = .retracted ∨ r.resting = .engaged ∨ r.resting = .unknown) ∧ 400 ≤ r.learned ∧
    r.learned ≤ 4000 ∧ -32768 ≤ r.count ∧ r.count ≤ 32767 := by
  obtain ⟨_, _, _, _, _, _, _, ranges⟩ := h
  exact ranges

/-- The parts of the record that belong to the rail's state stay while the state stays. -/
theorem of_same_state {q : Rail} (h : r.consistent) (state : q.state = r.state) (run : q.run.isSome = r.run.isSome)
    (target : q.target = r.target) (prior : q.prior = r.prior) (timer : q.quietTimer = r.quietTimer)
    (ranges : (q.resting = .retracted ∨ q.resting = .engaged ∨ q.resting = .unknown) ∧ 400 ≤ q.learned ∧ q.learned ≤ 4000 ∧
      -32768 ≤ q.count ∧ q.count ≤ 32767) : q.consistent := by
  obtain ⟨hrun, hengage, hretract, htarget, hprior, htimer, hfrom, _⟩ := h
  simp only [Rail.consistent, state, run, target, prior, timer]
  exact ⟨hrun, hengage, hretract, htarget, hprior, htimer, hfrom, ranges⟩

/-- A rail at rest has no run, no target and no wait. -/
theorem of_rest {q : Rail} (rest : q.state.moving = false) (awake : q.state ≠ .waitQuiet) (run : q.run = none)
    (target : q.target = none) (prior : q.prior = none) (timer : q.quietTimer = none)
    (ranges : (q.resting = .retracted ∨ q.resting = .engaged ∨ q.resting = .unknown) ∧ 400 ≤ q.learned ∧ q.learned ≤ 4000 ∧
      -32768 ≤ q.count ∧ q.count ≤ 32767) : q.consistent := by
  refine ⟨by simp [run, rest], fun e => ?_, fun e => ?_, by simp [target, rest, awake], by simp [prior, awake],
    by simp [timer, awake], by simp [prior], ranges⟩ <;> simp [e, RailState.moving] at rest

/-- A run stands toward its target. -/
theorem of_run {q : Rail} (target : Target) (state : q.state = target.movingState) (run : q.run.isSome = true)
    (toward : q.target = some target) (prior : q.prior = none) (timer : q.quietTimer = none)
    (ranges : (q.resting = .retracted ∨ q.resting = .engaged ∨ q.resting = .unknown) ∧ 400 ≤ q.learned ∧ q.learned ≤ 4000 ∧
      -32768 ≤ q.count ∧ q.count ≤ 32767) : q.consistent := by
  refine ⟨?_, fun e => ?_, fun e => ?_, ?_, ?_, ?_, by simp [prior], ranges⟩ <;> cases target <;>
    simp_all [Target.movingState, RailState.moving]

/-- A wait stands with its target, its prior state and its timer, and no run. -/
theorem of_wait {q : Rail} (state : q.state = .waitQuiet) (run : q.run = none) (target : q.target.isSome = true)
    (prior : ∃ x, q.prior = some x ∧ x.mayWaitFrom = true) (timer : q.quietTimer.isSome = true)
    (ranges : (q.resting = .retracted ∨ q.resting = .engaged ∨ q.resting = .unknown) ∧ 400 ≤ q.learned ∧ q.learned ≤ 4000 ∧
      -32768 ≤ q.count ∧ q.count ≤ 32767) : q.consistent := by
  obtain ⟨x, hx, may⟩ := prior
  refine ⟨?_, ?_, ?_, ?_, ?_, ?_, fun y hy => ?_, ranges⟩
  case refine_7 => simp_all
  all_goals simp [state, run, target, hx, timer, RailState.moving]

/-- No wait stands while the rail does not wait. -/
theorem awake (h : r.consistent) (state : r.state ≠ .waitQuiet) : r.prior = none ∧ r.quietTimer = none := by
  obtain ⟨_, _, _, _, prior, timer, _⟩ := h
  simp only [state, iff_false, Bool.not_eq_true, Option.isSome_eq_false_iff, Option.isNone_iff_eq_none] at prior timer
  exact ⟨prior, timer⟩

/-- No target stands while the rail neither moves nor waits. -/
theorem untargeted (h : r.consistent) (state : r.state ≠ .waitQuiet) (still : r.state.moving = false) : r.target = none := by
  obtain ⟨_, _, _, target, _⟩ := h
  simpa [state, still] using target

end Rail.consistent

theorem clampInt_le (lo hi : Nat) (h : lo ≤ hi) (n : Int) : lo ≤ clampInt lo hi n ∧ clampInt lo hi n ≤ hi := by
  simp only [clampInt]
  omega

theorem Rail.measuredTravel_range {r : Rail} (h : r.consistent) : 400 ≤ r.measuredTravel ∧ r.measuredTravel ≤ 4000 := by
  obtain ⟨_, low, high, _⟩ := h.ranges
  simp only [Rail.measuredTravel]
  split
  · split
    · exact clampInt_le 400 4000 (by omega) _
    · exact ⟨low, high⟩
  · exact ⟨low, high⟩

/-- The resting state after any change of rail state lies in its three values (R84). -/
theorem restingAfter_range (x : RailState) {resting : RailState}
    (h : resting = .retracted ∨ resting = .engaged ∨ resting = .unknown) :
    restingAfter x resting = .retracted ∨ restingAfter x resting = .engaged ∨ restingAfter x resting = .unknown := by
  cases x <;> simp [restingAfter, h]

namespace Rail.consistent

variable {r : Rail}

/-- A state entered with the counts as they are keeps the ranges. -/
theorem enter_ranges (h : r.consistent) (x : RailState) :
    (restingAfter x r.resting = .retracted ∨ restingAfter x r.resting = .engaged ∨ restingAfter x r.resting = .unknown) ∧
      400 ≤ r.learned ∧ r.learned ≤ 4000 ∧ -32768 ≤ r.count ∧ r.count ≤ 32767 :=
  ⟨restingAfter_range x h.ranges.1, h.ranges.2⟩

theorem arrive (h : r.consistent) (moves : r.state.moving = true) (target : Target) : (Rail.arrive target r).consistent := by
  have awake := h.awake (by rintro e; simp [e, RailState.moving] at moves)
  obtain ⟨resting, low, high, below, above⟩ := h.ranges
  have travel := r.measuredTravel_range h
  cases target with
  | engage => exact .of_rest rfl nofun rfl rfl awake.1 awake.2 ⟨.inr (.inl rfl), travel.1, travel.2, below, above⟩
  | retract =>
    exact .of_rest rfl nofun rfl rfl awake.1 awake.2
      ⟨.inl rfl, low, high, show (-32768 : Int) ≤ 0 by decide, show (0 : Int) ≤ 32767 by decide⟩

theorem located (h : r.consistent) (w : EndSwitch) : (r.located w).consistent := by
  obtain ⟨resting, low, high, below, above⟩ := h.ranges
  cases w with
  | retractEnd => exact h.of_same_state rfl rfl rfl rfl rfl ⟨resting, low, high, by simp [Rail.located], by simp [Rail.located]⟩
  | engageEnd =>
    refine h.of_same_state rfl rfl rfl rfl rfl ⟨resting, low, high, ?_⟩
    simp only [Rail.located]
    split <;> omega

theorem setSwitch (h : r.consistent) (w : EndSwitch) (active : Bool) : (r.setSwitch w active).consistent := by
  cases w <;> exact h

theorem counted (h : r.consistent) (d : Direction) : (r.counted d).consistent := by
  obtain ⟨resting, low, high, below, above⟩ := h.ranges
  cases d <;> refine h.of_same_state rfl rfl rfl rfl rfl ⟨resting, low, high, ?_⟩ <;> simp only [Rail.counted] <;> omega

theorem applyProfile (h : r.consistent) (l : List (Option Nat)) (mode : Option AlertMode) (park : Option Bool) :
    (r.applyProfile l mode park).consistent := by
  obtain ⟨resting, low, high, below, above⟩ := h.ranges
  refine h.of_same_state rfl rfl rfl rfl rfl ⟨resting, ?_⟩
  have corrected (p : Profile) : p.corrected.programmedTravel = p.programmedTravel := by
    simp only [Profile.corrected]
    repeat' split
    all_goals rfl
  simp only [Rail.applyProfile, corrected]
  cases hi : item l 6 with
  | none => simp; omega
  | some n => simp [Profile.carried, hi, clamp]; omega

end Rail.consistent

/-- A wait may still return to its prior state after a change of a switch (R86). -/
theorem restAfterSwitch_mayWaitFrom (w : EndSwitch) (active : Bool) {x : RailState} (may : x.mayWaitFrom = true) :
    (restAfterSwitch w active x).mayWaitFrom = true := by
  unfold restAfterSwitch
  split <;> split
  exacts [by cases w <;> rfl, may, rfl, may]

/-! ### The operations -/

namespace Leads

variable {s u : State}

theorem railArrive (target : Target) (moves : u.rail.state.moving = true) (h : Leads s u) : Leads s (u.railArrive target) :=
  h.railChanged (fun kept => kept.arrive moves target)

theorem startRun (target : Target) (h : Leads s u) : Leads s (u.startRun target) := by
  have begun : Leads s ((u.modRail (fun r =>
      let measured := decide (r.prior = some .retracted) && decide (target = .engage) && r.known
      Rail.enter target.movingState
        { r with target := some target, prior := none, quietTimer := none, arm := .below,
                 run := some (r.freshRun measured u.now) })).railChanged) :=
    h.railChanged (fun kept => .of_run target rfl rfl rfl rfl rfl (kept.enter_ranges _))
  simp only [State.startRun]
  split
  · exact begun.railArrive target (by cases target <;> rfl)
  · exact begun

theorem railQuiet (h : Leads s u) : Leads s u.railQuiet := by
  simp only [State.railQuiet]
  split
  · exact h.startRun _
  · exact h

/-- A wait is entered, with the alert requested mark as the request leaves it (R88, R89). -/
theorem enterWaitQuiet_alert (alert : Bool) (target : Target) {prior : RailState} (may : prior.mayWaitFrom = true)
    (still : u.rail.state.moving = false) (h : Leads s u) :
    Leads s (State.enterWaitQuiet target prior (u.modRail (fun r => { r with alertRequested := alert }))) := by
  have begun : Leads s ((u.modRail (fun r => Rail.enter .waitQuiet
      { r with alertRequested := alert, target := some target, prior := some prior,
               quietTimer := some (afterMs u.now r.profile.quietWait) })).railChanged) :=
    h.railChanged (fun kept => .of_wait rfl (kept.run_none still) rfl ⟨prior, rfl, may⟩ rfl (kept.enter_ranges .waitQuiet))
  simp only [State.enterWaitQuiet]
  split
  · exact begun.railQuiet
  · exact begun

theorem enterWaitQuiet (target : Target) {prior : RailState} (may : prior.mayWaitFrom = true) (still : u.rail.state.moving = false)
    (h : Leads s u) : Leads s (u.enterWaitQuiet target prior) :=
  h.enterWaitQuiet_alert u.rail.alertRequested target may still

theorem abandonWait (waits : u.rail.consistent → u.rail.state = .waitQuiet) (h : Leads s u) : Leads s u.abandonWait := by
  refine h.railChanged (fun kept => ?_)
  obtain ⟨_, _, _, _, prior, _, from_, _⟩ := id kept
  obtain ⟨x, hx⟩ := Option.isSome_iff_exists.1 (prior.2 (waits kept))
  have may := from_ x hx
  refine .of_rest ?_ ?_ (kept.run_none (by rw [waits kept]; rfl)) rfl rfl rfl (kept.enter_ranges _) <;>
    simp only [Rail.enter, hx, Option.getD_some] <;> cases x <;> simp_all [RailState.mayWaitFrom, RailState.moving]

theorem reverse (target : Target) (moves : u.rail.state.moving = true) (h : Leads s u) : Leads s (u.reverse target) := by
  refine h.railChanged (fun kept => ?_)
  have awake := kept.awake (by rintro e; simp [e, RailState.moving] at moves)
  exact .of_run target rfl (by simpa [Rail.enter] using kept.run_isSome_iff.2 moves) rfl awake.1 awake.2 (kept.enter_ranges _)

theorem moveRequest (target : Target) (h : Leads s u) : Leads s (u.moveRequest target).1 := by
  simp only [State.moveRequest]
  split <;> rename_i state
  case h_1 => split; exacts [h, h.enterWaitQuiet target rfl (by rw [state]; rfl)]
  case h_2 => split; exacts [h, h.enterWaitQuiet target rfl (by rw [state]; rfl)]
  case h_3 => exact h.enterWaitQuiet target rfl (by rw [state]; rfl)
  case h_4 =>
    split
    · exact h
    · split
      · exact h.abandonWait (fun _ => state)
      · dsimp only
        refine Leads.modRail rfl rfl (fun kept => ?_) h
        obtain ⟨_, _, _, _, prior, _, from_, _⟩ := id kept
        obtain ⟨x, hx⟩ := Option.isSome_iff_exists.1 (prior.2 state)
        exact .of_wait state (kept.run_none (by rw [state]; rfl)) rfl ⟨x, hx, from_ x hx⟩ rfl kept.ranges
  case h_5 => split; exacts [h, h.reverse target (by rw [state]; rfl)]
  case h_6 => split; exacts [h, h.reverse target (by rw [state]; rfl)]
  case h_7 => exact h.enterWaitQuiet_alert false target rfl (by rw [state]; rfl)
  case h_8 => exact h

theorem failRun (c : RailCause) (runs : u.rail.run.isSome = true) (h : Leads s u) : Leads s (u.failRun c) := by
  refine (h.railChanged (fun kept => ?_)).post _
  have moves := kept.run_isSome_iff.1 runs
  have awake := kept.awake (by rintro e; simp [e, RailState.moving] at moves)
  exact .of_rest rfl nofun rfl rfl awake.1 awake.2 (kept.enter_ranges .stalled)

/-- A run record that replaces another one leaves the rest of the rail record. -/
theorem setRun (x : Run) (runs : u.rail.run.isSome = true) (h : Leads s u) : Leads s (u.setRun x) :=
  h.modRail rfl rfl (fun kept => kept.of_same_state rfl (by simp [runs]) rfl rfl rfl kept.ranges)

theorem stallExpired (x : Run) (runs : u.rail.run.isSome = true) (h : Leads s u) : Leads s (u.stallExpired x) := by
  simp only [State.stallExpired]
  split
  · exact h.setRun _ runs
  · exact h.failRun _ runs

theorem switchFault (h : Leads s u) : Leads s u.switchFault := by
  refine Leads.post _ (Leads.railChanged (fun kept => ?_) h)
  exact .of_rest rfl nofun rfl rfl rfl rfl (kept.enter_ranges .switchFault)

theorem railPulse (d : Direction) (h : Leads s u) : Leads s (u.railPulse d) := by
  have counted : Leads s (u.modRail (Rail.counted d)) := h.modRail rfl rfl (fun kept => kept.counted d)
  simp only [State.railPulse]
  split
  · rename_i x target run _
    have runs : (u.modRail (Rail.counted d)).rail.run.isSome = true := by rw [run]; rfl
    split
    · have served := counted.setRun (x.served u.now (u.modRail (Rail.counted d)).rail.learned) runs
      split
      · exact served.failRun _ rfl
      · exact served
    · exact counted
  · exact counted

theorem railCurrent (mA : Nat) (h : Leads s u) : Leads s (u.railCurrent mA) := by
  simp only [State.railCurrent]
  split
  · exact h
  · rename_i duty
    have runs : u.rail.run.isSome = true := by
      cases run : u.rail.run with
      | none => simp [Rail.duty, run] at duty
      | some x => rfl
    have judged : Leads s { u with rail := (u.rail.judgeLoad mA).1 } :=
      h.modRail (f := fun r => (r.judgeLoad mA).1) rfl rfl id
    split
    · split
      · exact (judged.post .railLoad).failRun _ runs
      · exact judged.post .railLoad
    · split
      · exact judged.failRun _ runs
      · exact judged

/-- A change of an end switch in a state at rest leads to a state at rest (R86). -/
theorem switchAtRest (w : EndSwitch) (active : Bool)
    (rest : u.rail.state = .retracted ∨ u.rail.state = .engaged ∨ u.rail.state = .unknown) (h : Leads s u) :
    Leads s (u.switchAtRest w active) := by
  have noted : Leads s (u.modRail (fun r => { r with known := knownAfterSwitch w active u.rail.state u.rail.known })) :=
    h.modRail rfl rfl id
  simp only [State.switchAtRest]
  split
  · exact noted
  · refine noted.railChanged (fun kept => ?_)
    have awake := kept.awake (by rcases rest with e | e | e <;> simp [e])
    have still : u.rail.state.moving = false := by rcases rest with e | e | e <;> simp [e, RailState.moving]
    refine .of_rest ?_ ?_ (kept.run_none still) (kept.untargeted (by rcases rest with e | e | e <;> simp [e]) still) awake.1 awake.2
      (kept.enter_ranges _) <;>
      rcases rest with e | e | e <;> cases w <;> cases active <;>
      simp [Rail.enter, restAfterSwitch, e, switchTarget, Target.endState, RailState.moving]

theorem leaveSwitchFault (state : u.rail.state = .switchFault) (h : Leads s u) : Leads s u.leaveSwitchFault := by
  have leave (w : EndSwitch) : Leads s (u.modRail (fun r =>
      Rail.enter (switchTarget w).endState { r.located w with alertRequested := false })).railChanged := by
    refine h.railChanged (fun kept => ?_)
    have still : u.rail.state.moving = false := by rw [state]; rfl
    have awake := kept.awake (by simp [state])
    have run := kept.run_none still
    have target := kept.untargeted (by simp [state]) still
    cases w with
    | retractEnd => exact .of_rest rfl nofun run target awake.1 awake.2 ((kept.located .retractEnd).enter_ranges .retracted)
    | engageEnd => exact .of_rest rfl nofun run target awake.1 awake.2 ((kept.located .engageEnd).enter_ranges .engaged)
  simp only [State.leaveSwitchFault]
  split
  · exact leave .retractEnd
  · split
    · exact leave .engageEnd
    · exact h

theorem switchHandled (w : EndSwitch) (active : Bool) (h : Leads s u) : Leads s (u.switchHandled w active) := by
  simp only [State.switchHandled]
  split <;> rename_i state
  case h_1 => exact h.switchAtRest w active (.inl state)
  case h_2 => exact h.switchAtRest w active (.inr (.inl state))
  case h_3 => exact h.switchAtRest w active (.inr (.inr state))
  case h_4 =>
    refine Leads.modRail rfl rfl (fun kept => ?_) h
    obtain ⟨_, _, _, target, prior, timer, from_, _⟩ := id kept
    obtain ⟨x, hx⟩ := Option.isSome_iff_exists.1 (prior.2 state)
    refine .of_wait state (kept.run_none (by rw [state]; rfl)) (target.2 (.inr state))
      ⟨restAfterSwitch w active x, by simp [hx], restAfterSwitch_mayWaitFrom w active (from_ x hx)⟩ (timer.2 state) kept.ranges
  case h_5 => split; exacts [h.railArrive _ (by rw [state]; rfl), h]
  case h_6 => split; exacts [h.railArrive _ (by rw [state]; rfl), h]
  case h_7 => exact h
  case h_8 => exact h.leaveSwitchFault state

theorem railSwitch (w : EndSwitch) (active : Bool) (h : Leads s u) : Leads s (u.railSwitch w active) := by
  simp only [State.railSwitch]
  split
  · exact h
  · have taken : Leads s (u.modRail (Rail.setSwitch w active)) := by
      cases w <;> exact h.modRail rfl rfl (fun kept => kept.setSwitch _ active)
    have placed : Leads s ((u.modRail (Rail.setSwitch w active)).modRail (Rail.located w)) := by
      cases w <;> exact taken.modRail rfl rfl (fun kept => kept.located _)
    split <;> split
    · exact placed.switchFault
    · exact placed.switchHandled w active
    · exact taken.switchFault
    · exact taken.switchHandled w active

end Leads

end Sys2Proof.Machine
end

section
/-! SUPPORT. The Transport's operations and the recorder's as chains of elementary moves: the recorder keeps take memory canonical, and
the Expected Set holds at most 16 keys, each once, and only in WAITING (R150 to R177). -/

namespace Sys2Proof.Machine

open Sys2Proof

/-! ### The Expected Set -/

theorem Transport.expectedKept_of_nil {t : Transport} (h : t.expected = []) : t.expectedKept := by
  simp [Transport.expectedKept, h]

theorem Transport.expectedKept.nil {t : Transport} (h : t.expectedKept) (awake : t.state ≠ .waiting) : t.expected = [] :=
  h.2.2 awake

/-- A Transport that stays outside WAITING keeps its Expected Set empty. -/
theorem Transport.expectedKept.of_same {t u : Transport} (h : t.expectedKept) (awake : t.state ≠ .waiting)
    (same : u.expected = t.expected) : u.expectedKept := Transport.expectedKept_of_nil (same.trans (h.nil awake))

/-- Keys that leave the Expected Set keep it as R170 says. -/
theorem Transport.expectedKept.of_sublist {t u : Transport} (h : t.expectedKept) (state : u.state = t.state)
    (sub : u.expected.Sublist t.expected) : u.expectedKept :=
  ⟨sub.length_le.trans h.1, h.2.1.sublist sub, fun awake => by simpa [h.2.2 (state ▸ awake)] using sub⟩

theorem removeNum_sublist (x : Nat) (l : List Nat) : (removeNum x l).Sublist l := List.filter_sublist

/-- A number that is not in a set joins it. -/
theorem insertNum_perm {x : Nat} {l : List Nat} (h : x ∉ l) : (insertNum x l).Perm (x :: l) := by
  induction l with
  | nil => exact .refl _
  | cons y ys ih =>
    obtain ⟨hxy, hys⟩ := not_or.1 (mt List.mem_cons.2 h)
    simp only [insertNum, if_neg hxy]
    split
    · exact .refl _
    · exact ((ih hys).cons y).trans (.swap x y ys)

/-- The keys a scan has gathered: at most 16, each once (R172). -/
def Chord.within (c : Chord) : Prop := c.expected.length ≤ 16 ∧ c.expected.Nodup

theorem Chord.take_within (key number : Nat) {c : Chord} (h : c.within) : (c.take key number).within := by
  simp only [Chord.take]
  split
  · exact h
  · rename_i fresh
    have perm := insertNum_perm (by simpa using fresh : key ∉ c.expected)
    split
    · rename_i room
      refine ⟨perm.length_eq.trans_le room, perm.nodup_iff.2 (List.nodup_cons.2 ⟨by simpa using fresh, h.2⟩)⟩
    · exact h

theorem scanChord_within (parts : Parts) (windowEnd : Nat) (records : List (Record × Nat)) (number : Nat) {c : Chord}
    (h : c.within) : (scanChord parts windowEnd number records c).within := by
  induction records generalizing number c with
  | nil => exact h
  | cons r rest ih =>
    simp only [scanChord]
    split
    · exact h
    · split
      · exact h
      · split
        · exact ih _ h
        · exact ih _ (Chord.take_within _ _ h)
      all_goals exact ih _ h

/-- An offer to the Panel Stream and a change to the Transport do not meet. -/
theorem State.panelOffer_modTransport (e : PanelEntry) (f : Transport → Transport) (s : State) :
    (s.panelOffer e).modTransport f = (s.modTransport f).panelOffer e := by
  by_cases room : s.panel.stream.length < Config.panelCapacity <;> simp [State.panelOffer, State.modTransport, room]

/-- A list of entries is offered to the Panel Stream in order. -/
def State.panelOffers (es : List PanelEntry) (s : State) : State := es.foldl (fun s e => s.panelOffer e) s

theorem State.panelOffers_modTransport (es : List PanelEntry) (f : Transport → Transport) (s : State) :
    (s.panelOffers es).modTransport f = (s.modTransport f).panelOffers es := by
  induction es generalizing s with
  | nil => rfl
  | cons e es ih =>
    simp only [State.panelOffers, List.foldl_cons] at ih ⊢
    rw [ih, State.panelOffer_modTransport]

/-- Early strikes take keys out of the Expected Set and offer entries to the Panel Stream; the offers might as well come after the
Transport's changes (R172, step 4). -/
theorem State.earlyStrikes_shape (t0 : Nat) (keys : List Nat) (s : State) :
    ∃ (t : Transport) (es : List PanelEntry),
      keys.foldl (State.earlyStrike t0) s = (s.modTransport (fun _ => t)).panelOffers es ∧
        t.state = s.transport.state ∧ t.expected.Sublist s.transport.expected := by
  induction keys generalizing s with
  | nil => exact ⟨s.transport, [], rfl, rfl, List.Sublist.refl _⟩
  | cons key rest ih =>
    simp only [List.foldl_cons]
    cases hc : consume s.now (s.transport.leadWindow * 1000) key s.transport.recent.reverse with
    | none =>
      have skip : State.earlyStrike t0 s key = s := by simp only [State.earlyStrike, hc]
      rw [skip]
      exact ih s
    | some x =>
      obtain ⟨f, e, strike, state, taken⟩ : ∃ (f : Transport → Transport) (e : PanelEntry),
          State.earlyStrike t0 s key = (s.modTransport f).panelOffer e ∧ (f s.transport).state = s.transport.state ∧
            (f s.transport).expected = removeNum key s.transport.expected := by
        simp only [State.earlyStrike, hc]
        exact ⟨_, _, rfl, rfl, rfl⟩
      obtain ⟨t, es, shape, same, sub⟩ := ih (State.earlyStrike t0 s key)
      rw [strike] at shape same sub ⊢
      refine ⟨t, e :: es, ?_, by simpa [state] using same, ?_⟩
      · rw [shape, State.panelOffer_modTransport]
        rfl
      · refine List.Sublist.trans ?_ (removeNum_sublist key _)
        simpa [taken] using sub

/-- WAIT_TIME rises by the waiting count, which leaves state and Expected Set (R176, R177). -/
theorem Transport.bankWaiting_same (t : Transport) : t.bankWaiting.state = t.state ∧ t.bankWaiting.expected = t.expected := by
  simp only [Transport.bankWaiting]
  split <;> exact ⟨rfl, rfl⟩

/-! ### The recorder -/

/-- A write by the recorder leaves the Transport's state, or ends the recording in IDLE (R138, R155). -/
theorem State.recordWith_state (f : Store → Store × Bool) (s : State) :
    (s.recordWith f).transport.state = s.transport.state ∨ (s.recordWith f).transport.state = .idle := by
  simp only [State.recordWith]
  split
  · exact .inr rfl
  · exact .inl rfl

theorem State.recordWith_awake (f : Store → Store × Bool) {s : State} (h : s.transport.state ≠ .waiting) :
    (s.recordWith f).transport.state ≠ .waiting := by
  rcases s.recordWith_state f with e | e <;> simp [e, h]

/-- A held pedal is written as one record, and a pedal at rest as none (R153, step 2). -/
theorem State.recordHeld_cases (stamp : Time) (p : PedalId) (s : State) :
    s.recordHeld stamp p = s ∨ ∃ level, s.recordHeld stamp p = s.recordWith (Store.record (.pedal p level) stamp) := by
  unfold State.recordHeld
  extract_lets level
  by_cases rest : level = 0
  · exact .inl (if_pos rest)
  · exact .inr ⟨level, if_neg rest⟩

theorem State.recordHeld_awake (stamp : Time) (p : PedalId) {s : State} (h : s.transport.state ≠ .waiting) :
    (s.recordHeld stamp p).transport.state ≠ .waiting := by
  rcases s.recordHeld_cases stamp p with e | ⟨level, e⟩
  · rwa [e]
  · rw [e]
    exact s.recordWith_awake _ h

namespace Leads

variable {s u : State}

theorem finishRecording (c : EndCause) (h : Leads s u) : Leads s (u.finishRecording c) := by
  have noted : Leads s ((u.modTransport (fun t =>
      { t with lastClose := some (closeResult (u.transport.take.getD 0) (u.store.entry (u.transport.take.getD 0)) c) })).post
        .takeClosed) := (Leads.modTransport id h).post _
  have idle {v : State} (hv : Leads s v) : Leads s ((v.modTransport (Transport.toIdle c)).post .transport) :=
    Leads.post _ (Leads.modTransport (fun _ => Transport.expectedKept_of_nil rfl) hv)
  simp only [State.finishRecording]
  split
  · exact idle noted.recordClickEnd
  · exact idle noted

/-- A write by the recorder that keeps take memory canonical. -/
theorem recordWith {f : Store → Store × Bool} (kept : Memory.wf u.store.memory = true → Memory.wf (f u.store).1.memory = true)
    (h : Leads s u) : Leads s (u.recordWith f) := by
  simp only [State.recordWith]
  split
  · exact (h.setStore kept).finishRecording _
  · exact h.setStore kept

theorem record (p : Payload) (stamp : Time) (h : Leads s u) : Leads s (u.recordWith (Store.record p stamp)) :=
  h.recordWith (fun wf => Store.record_wf wf p stamp)

theorem takeOverdue (stamp : Time) (h : Leads s u) : Leads s (u.takeOverdue stamp) :=
  h.recordWith (fun wf => Store.writeOverdue_wf wf stamp)

theorem endRecording (c : EndCause) (stamp : Time) (h : Leads s u) : Leads s (u.endRecording c stamp) := by
  simp only [State.endRecording]
  split
  · exact ((h.takeOverdue stamp).modStore (fun wf => Store.closeRecording_wf wf _)).finishRecording _
  · exact h.takeOverdue stamp

theorem recordHeld (stamp : Time) (p : PedalId) (h : Leads s u) : Leads s (u.recordHeld stamp p) := by
  rcases u.recordHeld_cases stamp p with e | ⟨level, e⟩
  · rwa [e]
  · rw [e]
    exact h.record _ stamp

theorem recordBeat (pos : BeatPos) (h : Leads s u) : Leads s (u.recordBeat pos) := by
  simp only [State.recordBeat]
  split
  · exact h.record _ _
  · exact h

theorem stampTempo (h : Leads s u) : Leads s u.stampTempo := h.modStore id

theorem clockStart (stamp : Time) (strike : Option (Nat × Nat)) (awake : u.transport.state ≠ .waiting) (h : Leads s u) :
    Leads s (u.clockStart stamp strike) := by
  have started : Leads s (u.modStore (Store.clockStart stamp)) := h.modStore id
  have held : Leads s (pedalOrder.foldl (State.recordHeld stamp) (u.modStore (Store.clockStart stamp))) :=
    started.foldl (fun _ p hv => hv.recordHeld stamp p) pedalOrder
  have heldAwake : (pedalOrder.foldl (State.recordHeld stamp) (u.modStore (Store.clockStart stamp))).transport.state ≠ .waiting :=
    foldl_holds (fun v : State => v.transport.state ≠ .waiting) _ (fun _ p hv => State.recordHeld_awake stamp p hv) pedalOrder _ awake
  have running {v : State} (hv : Leads s v) (va : v.transport.state ≠ .waiting) :
      Leads s ((v.modTransport (fun t => { t with state := .recording })).post .transport) :=
    Leads.post _ (Leads.modTransport (fun kept => kept.of_same va rfl) hv)
  have clicked {v : State} (hv : Leads s v) :
      Leads s (if v.transport.click then (v.recordClickStart.stampTempo).recordBeat { bar := 1, beat := 1 } else v) := by
    split
    · exact hv.recordClickStart.stampTempo.recordBeat _
    · exact hv
  cases strike with
  | none => exact clicked (running held heldAwake)
  | some x =>
    exact clicked (running (held.recordWith (fun wf => Store.recordNoteOn_wf wf x.1 x.2 stamp)) (State.recordWith_awake _ heldAwake))

theorem liveRelease (k v : Nat) (stamp : Time) (h : Leads s u) : Leads s (u.liveRelease k v stamp) := by
  simp only [State.liveRelease]
  split
  · exact h.recordWith (fun wf => Store.recordNoteOff_wf wf k v stamp)
  · exact h

theorem livePedal (p : PedalId) (level : Nat) (stamp : Time) (h : Leads s u) : Leads s (u.livePedal p level stamp) := by
  simp only [State.livePedal]
  split
  · exact h.record _ _
  · exact h

/-! ### Waits, pauses and stops -/

theorem computeWait (h : Leads s u) : Leads s u.computeWait := Leads.modTransport id h

theorem anchorTest (h : Leads s u) : Leads s u.anchorTest := by
  have same (t : Transport) (times : List Nat) : (t.anchorTest times).state = t.state ∧ (t.anchorTest times).expected = t.expected := by
    simp only [Transport.anchorTest]
    repeat' split
    all_goals exact ⟨rfl, rfl⟩
  refine Leads.modTransport (fun kept => kept.of_sublist (same _ _).1 ?_) h
  rw [(same _ _).2]

theorem nextRecord (h : Leads s u) : Leads s u.nextRecord := h.anchorTest.computeWait

theorem restatePedals (h : Leads s u) : Leads s u.restatePedals := by
  simp only [State.restatePedals]
  refine Leads.foldl (fun v p hv => ?_) pedalOrder h
  split
  · exact hv
  · exact hv.playbackPedal _ _

theorem haltTake (h : Leads s u) : Leads s u.haltTake := by
  simp only [State.haltTake]
  refine Leads.modTransport (fun _ => Transport.expectedKept_of_nil rfl) (Leads.playbackClear (Leads.forceOffAll _ _ _ ?_))
  exact Leads.modTransport id h

theorem setPlaying (take : Nat) (mark : Bool) (h : Leads s u) : Leads s (u.modStore (fun st => st.setPlaying take mark)) :=
  h.modStore id

theorem stopPlayback (c : EndCause) (h : Leads s u) : Leads s (u.stopPlayback c) := by
  have halted : Leads s ((u.modTransport (fun t => { t with wait := none, seek := none })).forceOffAll .playbackStop (some .playback)
      (u.modTransport (fun t => { t with wait := none, seek := none })).now).playbackClear :=
    Leads.playbackClear (Leads.forceOffAll _ _ _ (Leads.modTransport id h))
  have cleared := halted.modTransport (f := fun t =>
    { t.bankWaiting with delivered := [], expected := [], recent := [], mark := none, loop := none, anchor := none })
    (fun _ => Transport.expectedKept_of_nil rfl)
  have unmarked := cleared.setPlaying (u.transport.take.getD 0) false
  have idle {v : State} (hv : Leads s v) : Leads s (((v.setPlaySpeed none).modTransport (Transport.toIdle c)).post .transport) :=
    Leads.post _ (Leads.modTransport (fun _ => Transport.expectedKept_of_nil rfl) (hv.setPlaySpeed none))
  simp only [State.stopPlayback]
  split
  · exact idle unmarked.playClickEnd
  · exact idle unmarked

theorem startSeek (target : Nat) (pending : Bool) (empty : u.transport.expectedKept → u.transport.expected = []) (h : Leads s u) :
    Leads s (u.startSeek target pending) := by
  have seeking : Leads s (u.modTransport (fun t =>
      { t with state := .seeking, wait := none, carry := 0, mark := none,
               seek := some { target := target, pausePending := pending, began := u.now } })) :=
    Leads.modTransport (fun kept => Transport.expectedKept_of_nil (empty kept)) h
  simp only [State.startSeek]
  split
  · exact seeking
  · exact seeking.post _

/-! ### Wait mode -/

theorem panelOffers (es : List PanelEntry) (h : Leads s u) : Leads s (u.panelOffers es) :=
  h.foldl (fun _ e hv => hv.panelOffer e) es

theorem gather (k0 : Nat) (h : Leads s u) : Leads s (u.gather k0) := by
  simp only [State.gather]
  generalize hc : scanChord _ _ k0 _ { expected := [], overflow := 0, last := k0 } = c
  have within : c.within := hc ▸ scanChord_within _ _ _ _ ⟨by simp, List.nodup_nil⟩
  obtain ⟨t, es, shape, state, sub⟩ := State.earlyStrikes_shape u.transport.cursorTime c.expected (u.modTransport (fun t =>
    { t with expected := c.expected, expectOverflow := scoreAdd t.expectOverflow c.overflow,
             mark := some { first := k0, time := u.transport.cursorTime, last := c.last } }))
  rw [shape]
  split
  · rename_i empty
    have nil : t.expected = [] := by simpa [State.panelOffers] using empty
    simp only [State.computeWait, State.panelOffers_modTransport]
    exact Leads.panelOffers es (h.tail (.setTransport _ u (fun _ => Transport.expectedKept_of_nil nil)))
  · rw [State.panelOffers_modTransport]
    refine Leads.post _ (Leads.panelOffers es (h.tail (.setTransport _ u (fun _ => ?_))))
    exact ⟨sub.length_le.trans within.1, within.2.sublist sub, fun awake => absurd rfl awake⟩

theorem leaveWaiting (empty : u.transport.expected = []) (h : Leads s u) : Leads s u.leaveWaiting :=
  Leads.post _ (Leads.computeWait (Leads.modTransport (fun _ => Transport.expectedKept_of_nil empty) h))

theorem completeChord (empty : u.transport.expected = []) (h : Leads s u) : Leads s u.completeChord := by
  have same := u.transport.bankWaiting_same
  exact Leads.leaveWaiting (same.2.trans empty)
    (Leads.modTransport (fun kept => kept.of_sublist same.1 (same.2 ▸ List.Sublist.refl _)) h)

theorem judgeStrike (k : Nat) (m : Time) (h : Leads s u) : Leads s (u.judgeStrike k m) := by
  simp only [State.judgeStrike]
  split
  · have hit : Leads s (u.modTransport (fun t => { t with expected := removeNum k t.expected, hits := scoreAdd t.hits 1 })) :=
      Leads.modTransport (fun kept => kept.of_sublist rfl (removeNum_sublist _ _)) h
    split
    · rename_i empty
      exact Leads.completeChord (by simpa using empty) (hit.panelOffer _)
    · exact hit.panelOffer _
  · exact Leads.panelOffer _ (Leads.modTransport id h)

theorem pushRecent (k : Nat) (m : Time) (h : Leads s u) : Leads s (u.modTransport (Transport.pushRecent k m)) :=
  Leads.modTransport id h

theorem liveStrike (k v : Nat) (m : Time) (h : Leads s u) : Leads s (u.liveStrike k v m) := by
  simp only [State.liveStrike]
  split <;> rename_i state
  case h_1 => exact h
  case h_2 => exact h.clockStart m _ (by simp [state])
  case h_3 => exact h.recordWith (fun wf => Store.recordNoteOn_wf wf k v m)
  case h_7 => exact h.judgeStrike k m
  all_goals exact h.pushRecent k m

/-! ### Deliveries, seeks and loop jumps -/

theorem onPlayback (k v : Nat) (transit : Bool) (m : Time) (h : Leads s u) : Leads s (u.onIntent k v .playback transit m) :=
  h.tail (.onPlayback k v transit m u)

theorem offPlayback (k v : Nat) (m : Time) (h : Leads s u) : Leads s (u.offIntent k v .playback m) :=
  h.tail (.offPlayback k v m u)

theorem deliver (number : Nat) (r : Record) (w : Wait) (h : Leads s u) : Leads s (u.deliver number r w) := by
  have moved : Leads s (u.modTransport (fun t => { t with cursor := number + 1, cursorTime := w.target, wait := none })) :=
    Leads.modTransport id h
  simp only [State.deliver]
  split
  case h_1 =>
    split
    · exact Leads.nextRecord (Leads.modTransport id (moved.onPlayback _ _ _ _))
    · split
      · exact moved.anchorTest.gather number
      · exact moved.nextRecord
  case h_2 =>
    split
    · exact Leads.nextRecord (Leads.modTransport id (moved.offPlayback _ _ _))
    · exact moved.nextRecord
  case h_3 => exact Leads.nextRecord (Leads.playbackPedal _ _ (Leads.modTransport id moved))
  case h_4 =>
    split
    · exact (moved.beatDelivery _).nextRecord
    · exact moved.nextRecord
  case h_5 => exact moved.nextRecord
  case h_6 => exact moved.stopPlayback _

theorem deliverDue (h : Leads s u) : Leads s u.deliverDue := by
  simp only [State.deliverDue]
  split
  · split
    · exact h.deliver _ _ _
    · exact h
  · exact h

theorem continueTake (awake : u.transport.state ≠ .waiting) (h : Leads s u) : Leads s u.continueTake := by
  have playing : Leads s (u.restatePedals.modTransport (fun t => { t with state := .playing, carry := 0 })) :=
    Leads.modTransport (fun kept => kept.of_same (by simpa using awake) rfl) h.restatePedals
  exact (playing.computeWait.post _).deliverDue

theorem completeSeek (k : Seek) (awake : u.transport.state ≠ .waiting) (h : Leads s u) : Leads s (u.completeSeek k) := by
  have same (t : Transport) (times : List Nat) : (t.anchorTest times).state = t.state := by
    simp only [Transport.anchorTest]
    repeat' split
    all_goals rfl
  simp only [State.completeSeek]
  generalize hv : State.anchorTest _ = v
  have state : v.transport.state = u.transport.state := by rw [← hv]; exact same _ _
  have landed : Leads s v := by rw [← hv]; exact Leads.anchorTest (Leads.modTransport id h)
  split
  · exact Leads.post _ (Leads.modTransport (fun kept => kept.of_same (state ▸ awake) rfl) landed)
  · exact landed.continueTake (state ▸ awake)

theorem endPass (l : Loop) (h : Leads s u) : Leads s (u.endPass l) := by
  simp only [State.endPass]
  refine Leads.modTransport (fun _ => Transport.expectedKept_of_nil rfl) ?_
  exact Leads.playbackClear (h.forceOffAll _ _ _)

theorem returnToAnchor (l : Loop) (a : Anchor) (h : Leads s u) : Leads s (u.returnToAnchor l a) :=
  Leads.computeWait (Leads.restatePedals (Leads.modTransport id h))

theorem loopJump (l : Loop) (h : Leads s u) : Leads s (u.loopJump l) := by
  have passed := h.endPass l
  have empty : (u.endPass l).transport.expected = [] := by simp [State.endPass]
  unfold State.loopJump
  generalize u.endPass l = v at passed empty ⊢
  split
  · exact (passed.returnToAnchor l _).post _
  · exact (passed.startSeek l.a false (fun _ => empty)).post _

theorem recomputeWait (h : Leads s u) : Leads s u.recomputeWait := Leads.computeWait (Leads.modTransport id h)

end Leads

end Sys2Proof.Machine
end

section
/-! SUPPORT. The Sensor Scanner's operations, the Stroke Analyzer's and the sensing side of the pedals as chains of elementary moves
(R1 to R54). -/

namespace Sys2Proof.Machine

open Sys2Proof

/-- The state by a record's validity is no stroke state (R12). -/
theorem KeyCal.settledState_isStroke (r : KeyCal) : r.settledState.isStroke = false := by
  simp only [KeyCal.settledState]
  split <;> rfl

namespace Leads

variable {s u : State}

/-! ### Keys -/

theorem quietReport (before after : KeyState) (h : Leads s u) : Leads s (u.quietReport before after) := by
  simp only [State.quietReport]
  split
  · exact h.railQuiet
  · exact h

theorem enterScanner {x : KeyState} (scanner : x.isStroke = false) (c : Cause) (k : Nat) (h : Leads s u) :
    Leads s (u.enterScanner x c k) := by
  by_cases inStroke : (u.key k).state.isStroke = true
  · have ended : Leads s ((u.discardStroke x k).forceOff c (some .live) u.now k) := h.tail (.endStroke x c k u scanner)
    have e : u.enterScanner x c k =
        (((u.discardStroke x k).forceOff c (some .live) u.now k).liveRelease k 64 u.now).quietReport (u.key k).state x := by
      simp [State.enterScanner, inStroke, State.discardStroke]
    rw [e]
    exact (ended.liveRelease k 64 _).quietReport _ _
  · have e : u.enterScanner x c k = u.discardStroke x k := by simp [State.enterScanner, inStroke, State.discardStroke]
    rw [e]
    exact h.tail (.enterScanner x k u (by simpa using inStroke))

theorem enterFault (k : Nat) (h : Leads s u) : Leads s (u.enterFault k) := (h.enterScanner rfl _ k).post _

theorem watchCollect (w : Watch) (pair : WatchPair) (h : Leads s u) : Leads s (u.watchCollect w pair) := by
  simp only [State.watchCollect]
  split
  · exact h.setScanner rfl
  · exact Leads.panelOffer _ (h.setScanner rfl)

theorem watchSample (k raw : Nat) (h : Leads s u) : Leads s (u.watchSample k raw) := by
  simp only [State.watchSample]
  split
  · exact h
  · split
    · exact h
    · split
      · exact h.watchCollect _ _
      · exact h.setScanner rfl

/-! ### Captures -/

theorem endCapture (r : CaptureResult) (h : Leads s u) : Leads s (u.endCapture r) := Leads.post _ (h.setScanner rfl)

theorem leaveCapture (k : Nat) (h : Leads s u) : Leads s (u.leaveCapture k) := h.tail (.leaveCapture k u)

theorem completeTally (t : RestTally) (h : Leads s u) : Leads s (u.completeTally t) := by
  simp only [State.completeTally]
  refine Leads.leaveCapture _ (h.noteKey _ ?_)
  split <;> exact ⟨rfl, rfl, rfl, rfl, rfl⟩

theorem completeRest (l : List RestTally) (h : Leads s u) : Leads s (u.completeRest l) :=
  Leads.endCapture _ (h.foldl (fun _ t hv => hv.completeTally t) l)

theorem completeBottom (k : Nat) (b : Option Farthest) (h : Leads s u) : Leads s (u.completeBottom k b) := by
  simp only [State.completeBottom]
  split
  · exact Leads.endCapture _ (Leads.leaveCapture _ (h.noteKey k ⟨rfl, rfl, rfl, rfl, rfl⟩))
  · exact Leads.endCapture _ (h.leaveCapture k)

theorem abandonCapture (h : Leads s u) : Leads s u.abandonCapture := by
  simp only [State.abandonCapture]
  split
  · exact h
  · exact Leads.endCapture _ (h.foldl (fun _ k hv => hv.leaveCapture k) keyNumbers)

theorem dropFromCapture (k : Nat) (h : Leads s u) : Leads s (u.dropFromCapture k) := by
  simp only [State.dropFromCapture]
  split
  · exact h
  · exact h.setScanner rfl
  · split
    · exact h.endCapture _
    · exact h

theorem captureSample (k raw : Nat) (h : Leads s u) : Leads s (u.captureSample k raw) := by
  simp only [State.captureSample]
  split
  · exact h
  · exact h.setScanner rfl
  · split
    · exact h
    · split
      · exact h.setScanner rfl
      · exact h.completeBottom k _

theorem startRest (h : Leads s u) : Leads s u.startRest :=
  Leads.setScanner rfl (Leads.foldl (fun _ k hv => hv.enterScanner rfl _ k) u.restKeys h)

theorem startBottom (k : Nat) (h : Leads s u) : Leads s (u.startBottom k) := Leads.setScanner rfl (h.enterScanner rfl _ k)

/-! ### Key samples -/

theorem glitch (k : Nat) (h : Leads s u) : Leads s (u.glitch k) := by
  have noted : Leads s (u.setKey k { u.key k with
      glitchRun := (u.key k).glitchRun + 1,
      glitches := if (u.key k).state.isStroke then satInc Config.maxCount16 (u.key k).glitches else (u.key k).glitches }) :=
    h.noteKey k ⟨rfl, rfl, rfl, rfl, rfl⟩
  simp only [State.glitch]
  split
  · exact noted.enterFault k
  · exact noted

/-- What a sample found goes to the Transport once the Router has judged it (R44, R45). -/
theorem handStroke (k : Nat) {e : StrokeEvent} (routed : Leads s (u.routeStroke k e)) : Leads s (u.handStroke k e) := by
  cases e with
  | nothing => exact routed
  | strike v m => exact Leads.liveStrike k v m routed
  | release v m => exact Leads.liveRelease k v m routed

theorem strokeSample (k raw : Nat) (inStroke : (u.key k).state.isStroke = true) (h : Leads s u) : Leads s (u.strokeSample k raw) :=
  Leads.quietReport _ _ (handStroke k (h.tail (.stroke k
    { raw := raw, depth := depthOf raw (u.key k).cal.restRaw (u.key k).cal.bottomRaw, stamp := u.now } u inStroke)))

theorem suspendedSample (k raw : Nat) (state : (u.key k).state = .suspended) (h : Leads s u) : Leads s (u.suspendedSample k raw) := by
  simp only [State.suspendedSample]
  split
  · exact h.tail (.beginStroke k _ u state rfl)
  · exact h.noteKey k ⟨rfl, rfl, rfl, rfl, rfl⟩

theorem faultSample (k raw : Nat) (state : (u.key k).state = .fault) (h : Leads s u) : Leads s (u.faultSample k raw) := by
  simp only [State.faultSample]
  split
  · split
    · exact Leads.post _ (h.tail (.recover k u state))
    · exact h.noteKey k ⟨rfl, rfl, rfl, rfl, rfl⟩
  · exact h.noteKey k ⟨rfl, rfl, rfl, rfl, rfl⟩

theorem judgeSample (k raw : Nat) (h : Leads s u) : Leads s (u.judgeSample k raw) := by
  have stroke (inStroke : (u.key k).state.isStroke = true) :
      Leads s (if plausible raw then u.strokeSample k raw else u.glitch k) := by
    split
    · exact h.strokeSample k raw inStroke
    · exact h.glitch k
  simp only [State.judgeSample]
  split <;> rename_i state
  case h_1 => exact h
  case h_2 =>
    split
    · exact h.suspendedSample k raw state
    · exact h.glitch k
  case h_3 => exact h.faultSample k raw state
  case h_4 => exact h.captureSample k raw
  all_goals exact stroke (by rw [state]; rfl)

theorem sampleKey (k raw : Nat) (h : Leads s u) : Leads s (u.sampleKey k raw) :=
  Leads.judgeSample k raw (Leads.watchSample k raw (h.noteKey k ⟨rfl, rfl, rfl, rfl, rfl⟩))

theorem writeKey (k : Nat) (c : KeyCal) (h : Leads s u) : Leads s (u.writeKey k c) := by
  have entered : Leads s ((u.setKey k { u.key k with cal := c }).enterScanner c.settledState .calibrationWrite k) :=
    Leads.enterScanner c.settledState_isStroke _ _ (h.noteKey k ⟨rfl, rfl, rfl, rfl, rfl⟩)
  simp only [State.writeKey]
  split <;> split
  · exact (entered.post _).dropFromCapture k
  · exact entered.dropFromCapture k
  · exact entered.post _
  · exact entered

theorem suspendKey (k : Nat) (h : Leads s u) : Leads s (u.suspendKey k) := by
  simp only [State.suspendKey]
  split
  · exact h.enterScanner rfl _ k
  · exact h

theorem suspendAll (h : Leads s u) : Leads s u.suspendAll :=
  Leads.abandonCapture (h.foldl (fun _ k hv => hv.suspendKey k) keyNumbers)

/-! ### Pedals -/

theorem setSense (p : PedalId) (x : PedalSense) (h : Leads s u) : Leads s (u.setSense p x) := by
  cases p <;> exact h.setPedals rfl

theorem setLive (p : LevelId) (level : Nat) (h : Leads s u) : Leads s (u.setLive p level) := by
  simp only [State.setLive]
  split
  · exact h
  · exact ((h.modLevel p _).recomputeLevel p _).livePedal _ _ _

theorem setLiveSwitch (on : Bool) (h : Leads s u) : Leads s (u.setLiveSwitch on) := by
  simp only [State.setLiveSwitch]
  split
  · exact h
  · exact Leads.livePedal _ _ _ (Leads.recomputeSwitch _ (Leads.modSwitch rfl h))

theorem levelDepth (p : LevelId) (depth : Nat) (h : Leads s u) : Leads s (u.levelDepth p depth) := by
  simp only [State.levelDepth]
  split
  · exact h.setLive p _
  · exact h

theorem switchDepth (depth : Nat) (h : Leads s u) : Leads s (u.switchDepth depth) := by
  simp only [State.switchDepth]
  split
  · exact h.setLiveSwitch _
  · split
    · exact h.setLiveSwitch _
    · exact h

theorem pedalDepth (p : PedalId) (depth : Nat) (h : Leads s u) : Leads s (u.pedalDepth p depth) := by
  cases p with
  | damper => exact h.levelDepth _ _
  | soft => exact h.levelDepth _ _
  | sostenuto => exact h.switchDepth _

theorem clearLive (p : PedalId) (h : Leads s u) : Leads s (u.clearLive p) := by
  cases p with
  | damper => exact h.setLive _ _
  | soft => exact h.setLive _ _
  | sostenuto => exact h.setLiveSwitch _

theorem activePedal (p : PedalId) (raw : Nat) (h : Leads s u) : Leads s (u.activePedal p raw) := (h.setSense p _).pedalDepth p _

theorem samplePedal (p : PedalId) (raw : Nat) (h : Leads s u) : Leads s (u.samplePedal p raw) := by
  simp only [State.samplePedal]
  split
  case h_1 => exact h
  case h_2 =>
    split
    · exact h.activePedal p raw
    · simp only [State.glitchPedal]
      split
      · exact ((h.setSense p _).clearLive p).post _
      · exact h.setSense p _
  case h_3 =>
    simp only [State.faultPedal]
    split
    · split
      · exact ((h.setSense p _).post _).activePedal p raw
      · exact h.setSense p _
    · exact h.setSense p _

theorem writePedal (p : PedalId) (c : PedalCal) (h : Leads s u) : Leads s (u.writePedal p c) := by
  simp only [State.writePedal]
  split
  · split
    · exact (h.setSense p _).post _
    · exact h.setSense p _
  · exact (h.setSense p _).clearLive p

end Leads

end Sys2Proof.Machine
end

section
/-! SUPPORT. The judgements of the requests and the events of the blocks as chains of elementary moves. -/

namespace Sys2Proof.Machine

open Sys2Proof

/-! ### Requests -/

/-- A judgement ends in a state that elementary moves reach. -/
def Judged.leads (s : State) (j : Judged) : Prop := ∀ r, j = some r → Leads s r.1

theorem Judged.leads_answer {s u : State} (status : Status) (data : ReplyData) (h : Leads s u) : (answer status data u).leads s := by
  rintro _ ⟨⟩
  exact h

theorem Judged.leads_okWith {s u : State} (data : ReplyData) (h : Leads s u) : (okWith data u).leads s := leads_answer _ _ h

theorem Judged.leads_refuse {s u : State} (status : Status) (h : Leads s u) : (refuse status u).leads s := leads_answer _ _ h

theorem Judged.leads_answerLines {s u : State} (status : Status) (h : Leads s u) : (answerLines status u).leads s :=
  leads_answer _ _ h

theorem Judged.leads_answerMetro {s u : State} (status : Status) (h : Leads s u) : (answerMetro status u).leads s :=
  leads_answer _ _ h

theorem Judged.leads_none (s : State) : Judged.leads s none := fun _ h => nomatch h

theorem Judged.leads_bind {α : Type} {s : State} (x : Option α) {f : α → Judged} (h : ∀ a, (f a).leads s) : Judged.leads s (x.bind f) := by
  cases x with
  | none => exact leads_none s
  | some a => exact h a

section Requests

open Judged Relation.ReflTransGen

variable (p : List Byte) (s : State)

theorem judgeCalWrite_leads : (judgeCalWrite p s).leads s := by
  simp only [judgeCalWrite]
  repeat' split
  exacts [leads_refuse _ refl, leads_refuse _ refl, leads_okWith _ (Leads.writeKey _ _ refl), leads_refuse _ refl,
    leads_okWith _ (Leads.writePedal _ _ refl), leads_refuse _ refl]

theorem judgeCalRead_leads : (judgeCalRead p s).leads s := by
  simp only [judgeCalRead]
  repeat' split
  exacts [leads_okWith _ refl, leads_okWith _ refl, leads_refuse _ refl]

theorem judgeCalCaptureRest_leads : (judgeCalCaptureRest s).leads s := by
  simp only [judgeCalCaptureRest]
  repeat' split
  exacts [leads_refuse _ refl, leads_refuse _ refl, leads_answer _ _ (Leads.startRest refl)]

theorem judgeCalCaptureBottom_leads : (judgeCalCaptureBottom p s).leads s := by
  simp only [judgeCalCaptureBottom]
  repeat' split
  exacts [leads_refuse _ refl, leads_refuse _ refl, leads_refuse _ refl, leads_answer _ _ (Leads.startBottom _ refl)]

theorem judgeKeyWatch_leads : (judgeKeyWatch p s).leads s := by
  simp only [judgeKeyWatch]
  repeat' split
  exacts [leads_okWith _ (Leads.setScanner rfl refl), leads_okWith _ (Leads.setScanner rfl refl), leads_refuse _ refl]

theorem judgeKeyReport_leads : (judgeKeyReport p s).leads s := by
  simp only [judgeKeyReport]
  split
  · refine leads_okWith _ ?_
    split
    · exact Leads.noteKey _ ⟨rfl, rfl, rfl, rfl, rfl⟩ refl
    · exact refl
  · exact leads_refuse _ refl
  · exact leads_refuse _ refl

theorem judgeKeyLines_leads : (judgeKeyLines p s).leads s := by
  simp only [judgeKeyLines]
  split
  · exact leads_answerLines _ refl
  · split
    · exact leads_none s
    · split
      · exact leads_answerLines _ refl
      · rename_i formed
        split
        · exact leads_answerLines _ refl
        · exact leads_answerLines _ (tail refl (.changeLines _ s (by simpa using formed)))

theorem judgeCurveWrite_leads : (judgeCurveWrite p s).leads s := by
  simp only [judgeCurveWrite]
  split
  exacts [leads_okWith _ (tail refl (.setStrokes _ s rfl rfl)), leads_refuse _ refl]

theorem judgeCurveSelect_leads : (judgeCurveSelect p s).leads s := by
  simp only [judgeCurveSelect]
  split
  exacts [leads_okWith _ (tail refl (.setStrokes _ s rfl rfl)), leads_refuse _ refl]

theorem judgeCurveRead_leads : (judgeCurveRead p s).leads s := by
  simp only [judgeCurveRead]
  split
  exacts [leads_okWith _ refl, leads_refuse _ refl]

theorem judgeStrokeSlowLimit_leads : (judgeStrokeSlowLimit p s).leads s :=
  leads_okWith _ (tail refl (.setStrokes _ s rfl rfl))

theorem judgeNoteCopy_leads : (judgeNoteCopy p s).leads s := by
  simp only [judgeNoteCopy]
  split
  exacts [leads_okWith _ (tail refl (.setRouter _ s rfl rfl)), leads_refuse _ refl]

theorem judgeSoundingReport_leads : (judgeSoundingReport p s).leads s := by
  simp only [judgeSoundingReport]
  split
  · refine leads_okWith _ ?_
    split
    exacts [tail refl (.setRouter _ s rfl rfl), refl]
  · exact leads_refuse _ refl

theorem judgeToneStreamSetup_leads : (judgeToneStreamSetup p s).leads s := by
  refine leads_bind _ (fun l => ?_)
  repeat' split
  exacts [leads_refuse _ refl, leads_okWith _ (tail refl (.setupTone _ _ _ s)), leads_refuse _ refl]

theorem judgeMove_leads (target : Target) : (judgeMove target s).leads s := leads_answer _ _ (Leads.moveRequest target refl)

theorem judgeRailStatus_leads : (judgeRailStatus p s).leads s := by
  simp only [judgeRailStatus]
  split
  · refine leads_okWith _ ?_
    split
    exacts [Leads.modRail rfl rfl id refl, refl]
  · exact leads_refuse _ refl

theorem judgeRailAck_leads : (judgeRailAck s).leads s := by
  refine leads_okWith _ ?_
  split
  exacts [Leads.railMoves id refl, refl]

theorem judgeRailProfile_leads : (judgeRailProfile p s).leads s := by
  refine leads_bind _ (fun l => ?_)
  repeat' split
  exacts [leads_refuse _ refl, leads_okWith _ (Leads.modRail rfl rfl (fun kept => kept.applyProfile _ _ _) refl), leads_refuse _ refl]

end Requests

end Sys2Proof.Machine
end

section
/-! SUPPORT. What the Audio Stage does by itself keeps its mute reasons true and its fill, indexes and settings in their ranges (R111 to
R129). -/

namespace Sys2Proof.Machine

open Sys2Proof

namespace Audio.steady

theorem refl (a : Audio) : a.steady a := ⟨rfl, rfl, rfl, id, id⟩

theorem trans {a b c : Audio} (h : a.steady b) (g : b.steady c) : a.steady c := by
  obtain ⟨moving, engaged, alert, mutes, range⟩ := h
  obtain ⟨moving', engaged', alert', mutes', range'⟩ := g
  exact ⟨moving'.trans moving, engaged'.trans engaged, alert'.trans alert, mutes' ∘ mutes, range' ∘ range⟩

/-- A field of a record can be left, or changed as a step before. -/
theorem ite {a b c : Audio} {p : Prop} [Decidable p] (yes : p → a.steady b) (no : ¬p → a.steady c) :
    a.steady (if p then b else c) := by
  split
  · exact yes ‹_›
  · exact no ‹_›

variable (a : Audio)

theorem judgeJacks_setJack (j : Jack) (inserted : Bool) : a.steady (a.setJack j inserted).judgeJacks := by
  refine ⟨by cases j <;> rfl, by cases j <;> rfl, by cases j <;> rfl, fun true => ?_, fun range => by cases j <;> exact range⟩
  cases j <;> simp_all [Audio.mutesTrue, Audio.judgeJacks, Audio.setJack]

theorem judgeRail_hp (on : Bool) : a.steady (Audio.judgeRail { a with hpInAcoustic := on }) :=
  ⟨rfl, rfl, rfl, fun true => by simp_all [Audio.mutesTrue, Audio.judgeRail], id⟩

theorem endUnderrun : a.steady a.endUnderrun :=
  ⟨rfl, rfl, rfl, fun true => by simp_all [Audio.mutesTrue, Audio.endUnderrun], id⟩

theorem enterUnderrun : a.steady a.enterUnderrun :=
  ⟨rfl, rfl, rfl, fun true => by simp_all [Audio.mutesTrue, Audio.enterUnderrun], id⟩

theorem judgeUnderrun : a.steady a.judgeUnderrun := ite (fun _ => endUnderrun a) (fun _ => refl a)

theorem arrive (f : StereoFrame) : a.steady (a.arrive f) := by
  refine ite (fun room => trans ?_ (judgeUnderrun _)) (fun _ => ⟨rfl, rfl, rfl, id, id⟩)
  refine ⟨rfl, rfl, rfl, id, fun range => ⟨?_, range.2⟩⟩
  simp only [List.length_append, List.length_singleton]
  exact room

/-- The applied index steps toward the target index, which is 0 or the volume, and the ramp counter stays below the interval
(R111, R117). -/
theorem rampStep : a.steady a.rampStep := by
  refine ite (fun due => ⟨rfl, rfl, rfl, id, ?_⟩) (fun early => ⟨rfl, rfl, rfl, id, ?_⟩)
  · rintro ⟨fifo, applied, volume, refill, refill', interval, ramp, metro⟩
    have target : a.targetIndex ≤ 63 := by
      simp only [Audio.targetIndex]
      split <;> omega
    refine ⟨fifo, ?_, volume, refill, refill', interval, Nat.zero_lt_of_lt ramp, metro⟩
    simp only [stepToward]
    split
    · omega
    · split <;> omega
  · rintro ⟨fifo, applied, volume, refill, refill', interval, ramp, metro⟩
    exact ⟨fifo, applied, volume, refill, refill', interval, not_le.1 early, metro⟩

theorem takeFrame : a.steady a.takeFrame.1 := by
  simp only [Audio.takeFrame]
  split
  · exact refl a
  · split
    · exact trans (b := { a with underruns := satInc Config.maxCount16 a.underruns }) ⟨rfl, rfl, rfl, id, id⟩ (enterUnderrun _)
    · rename_i f rest fifo
      refine ⟨rfl, rfl, rfl, id, fun range => ⟨?_, range.2⟩⟩
      have := range.1
      simp only [fifo, List.length_cons] at this
      exact Nat.le_of_succ_le this

theorem sendFrame (f : StereoFrame) : a.steady (a.sendFrame f) := ⟨rfl, rfl, rfl, id, id⟩

theorem endClick : a.steady a.endClick := by
  simp only [Audio.endClick]
  split
  · exact ite (fun _ => ⟨rfl, rfl, rfl, id, id⟩) (fun _ => refl a)
  · exact refl a

theorem nextSegment : a.steady a.nextSegment := by
  simp only [Audio.nextSegment]
  split
  · exact ite (fun _ => ⟨rfl, rfl, rfl, id, id⟩) (fun _ => refl a)
  · exact refl a

theorem changeRate (rate : Rate) : a.steady (a.changeRate rate) := by
  refine ite (fun _ => refl a) (fun _ => trans ?_ (enterUnderrun _))
  refine ⟨rfl, rfl, rfl, id, ?_⟩
  rintro ⟨-, applied, volume, refill, refill', interval, ramp, metro⟩
  exact ⟨Nat.zero_le _, applied, volume, refill, refill', interval, Nat.zero_lt_of_lt ramp, metro⟩

/-- A carried level replaces the one held, clamped (R112). -/
theorem carried_between {lo hi held : Nat} (h : lo ≤ hi) (carried : Option Nat) (low : lo ≤ held) (high : held ≤ hi) :
    lo ≤ (carried.map (clamp lo hi)).getD held ∧ (carried.map (clamp lo hi)).getD held ≤ hi := by
  cases carried <;> simp [clamp] <;> omega

/-- Volume, refill level and ramp interval, with the ramp counter cleared where an interval is carried (R112, steps 1 to 3). -/
theorem levels (volume refill ramp : Option Nat) :
    let b : Audio := { a with
      volume := (volume.map (clamp 0 63)).getD a.volume
      refill := (refill.map (clamp 8 56)).getD a.refill
      rampInterval := (ramp.map (clamp 1 64)).getD a.rampInterval }
    a.steady (if ramp.isSome then { b with ramp := 0 } else b) := by
  refine ite (fun carried => ⟨rfl, rfl, rfl, id, ?_⟩) (fun kept => ⟨rfl, rfl, rfl, id, ?_⟩) <;>
    rintro ⟨fifo, applied, low, refill', refill'', interval, counter, metro⟩ <;>
    have v := carried_between (by decide) volume (Nat.zero_le _) low <;>
    have f := carried_between (by decide) refill refill' refill'' <;>
    have i := carried_between (by decide) ramp (Nat.one_le_of_lt counter) interval
  · exact ⟨fifo, applied, v.2, f.1, f.2, i.2, i.1, metro⟩
  · refine ⟨fifo, applied, v.2, f.1, f.2, i.2, ?_, metro⟩
    simpa [Option.not_isSome_iff_eq_none.1 kept] using counter

theorem setup (rate : Option Rate) (volume refill ramp : Option Nat) (hp : Option Bool) :
    a.steady (a.setup rate volume refill ramp hp) := by
  simp only [Audio.setup]
  have hand {b : Audio} (h : a.steady b) : a.steady (match hp with
      | some on => { b with hpInAcoustic := on }.judgeRail
      | none => b) := by
    split
    exacts [trans h (judgeRail_hp _ _), h]
  have rated {b : Audio} (h : a.steady b) : a.steady (match rate with
      | some r => b.judgeUnderrun.changeRate r
      | none => b.judgeUnderrun) := by
    split
    exacts [trans (trans h (judgeUnderrun _)) (changeRate _ _), trans h (judgeUnderrun _)]
  exact rated (hand (levels a volume refill ramp))

theorem setPanelMute (on : Bool) : a.steady { a with panelMute := on, mute := { a.mute with panelMute := on } } :=
  ⟨rfl, rfl, rfl, fun true => by simp_all [Audio.mutesTrue], id⟩

/-- METRO_SET accepted with beats per bar that are absent or lie in 1..12 (R126). -/
theorem setMetro (tempo beats click : Option Nat) (copy : Option Bool)
    (bars : beats.any (fun n => decide (n < 1) || decide (12 < n)) = false) :
    a.steady { a with metro :=
      { a.metro with
        tempo := (tempo.map (clamp 30 300)).getD a.metro.tempo
        beats := beats.getD a.metro.beats
        clickLevel := (click.map (clamp 0 15)).getD a.metro.clickLevel
        beatCopy := copy.getD a.metro.beatCopy } } := by
  refine ⟨rfl, rfl, rfl, id, ?_⟩
  rintro ⟨fifo, applied, volume, refill, refill', interval, ramp, slow, fast, few, many, click'⟩
  have t := carried_between (by decide) tempo slow fast
  have c := carried_between (by decide) click (Nat.zero_le _) click'
  have b : 1 ≤ beats.getD a.metro.beats ∧ beats.getD a.metro.beats ≤ 12 := by
    cases beats with
    | none => exact ⟨few, many⟩
    | some n => simp at bars ⊢; omega
  exact ⟨fifo, applied, volume, refill, refill', interval, ramp, t.1, t.2, b.1, b.2, c.2⟩

end Audio.steady

namespace Leads

variable {s u : State}

theorem clockBeat (due : Time) (pos : BeatPos) (h : Leads s u) : Leads s (u.clockBeat due pos) := by
  simp only [State.clockBeat]
  exact Leads.modAudio ⟨rfl, rfl, rfl, id, id⟩ (h.beat _)

end Leads

/-! ### The requests of the Audio Stage -/

section Requests

open Judged Relation.ReflTransGen

variable (p : List Byte) (s : State)

theorem judgeAudioSetup_leads : (judgeAudioSetup p s).leads s := by
  refine leads_bind _ (fun l => ?_)
  repeat' split
  exacts [leads_refuse _ refl, leads_okWith _ (Leads.modAudio (Audio.steady.setup _ _ _ _ _ _) refl), leads_refuse _ refl]

theorem judgeAudioMute_leads : (judgeAudioMute p s).leads s := by
  simp only [judgeAudioMute]
  split
  exacts [leads_okWith _ (Leads.modAudio (Audio.steady.setPanelMute _ _) refl), leads_refuse _ refl]

theorem setMetro_leads (tempo beats click : Option Nat) (copy : Option Bool) : (setMetro tempo beats click copy s).leads s := by
  simp only [setMetro]
  split
  · exact leads_answerMetro _ refl
  · rename_i bars
    split
    · exact leads_answerMetro _ refl
    · exact leads_answerMetro _ (Leads.modAudio (Audio.steady.setMetro _ _ _ _ _ (Bool.not_eq_true _ ▸ bars)) refl)

theorem judgeMetroSet_leads : (judgeMetroSet p s).leads s := by
  refine leads_bind _ (fun l => ?_)
  repeat' split
  exacts [leads_answerMetro _ refl, setMetro_leads s _ _ _ _, leads_answerMetro _ refl]

theorem judgeMetroRun_leads : (judgeMetroRun p s).leads s := by
  simp only [judgeMetroRun]
  split
  exacts [leads_okWith _ (Leads.judgeMode (Leads.modAudio ⟨rfl, rfl, rfl, id, id⟩ refl)), leads_refuse _ refl]

theorem judgeAudioReport_leads : (judgeAudioReport p s).leads s := by
  simp only [judgeAudioReport]
  split
  · refine leads_okWith _ ?_
    split
    exacts [Leads.modAudio ⟨rfl, rfl, rfl, id, id⟩ refl, refl]
  · exact leads_refuse _ refl

end Requests

end Sys2Proof.Machine
end

section
/-! SUPPORT. The requests of the Take Store, the Transport, the Transfer Unit and the links, and the events of the blocks, as chains of
elementary moves; then what any judgement and any event can do. -/

namespace Sys2Proof.Machine

open Sys2Proof

namespace Leads

variable {s u : State}

theorem beginRecording (take : Nat) (arm : ArmMode) (click : Bool) (awake : u.transport.state ≠ .waiting) (h : Leads s u) :
    Leads s (u.beginRecording take arm click) := by
  have armed : Leads s (u.modTransport (fun t =>
      { t with state := .armed, take := some take, click := click, armMode := some arm })) :=
    Leads.modTransport (fun kept => kept.of_same awake rfl) h
  cases arm with
  | firstNote => exact armed.post _
  | immediate => exact armed.clockStart _ none nofun

theorem beginPlayback (take start speed : Nat) (parts : Parts) (wait click : Bool) (h : Leads s u) :
    Leads s (u.beginPlayback take start speed parts wait click) := by
  have loaded : Leads s (((u.modTransport (Transport.play take speed parts wait click)).modStore
      (fun st => st.setPlaying take true)).setPlaySpeed (some speed)) :=
    Leads.setPlaySpeed _ (Leads.setPlaying _ _ (Leads.modTransport (fun _ => Transport.expectedKept_of_nil rfl) h))
  have begun {v : State} (empty : v.transport.expected = []) (hv : Leads s v) :
      Leads s (if start = 0 then (v.modTransport (fun t => { t with state := .playing })).computeWait.post .transport
        else v.startSeek start false) := by
    split
    · exact Leads.post _ (Leads.computeWait (Leads.modTransport (fun _ => Transport.expectedKept_of_nil empty) hv))
    · exact hv.startSeek start false (fun _ => empty)
  simp only [State.beginPlayback]
  cases click with
  | false => exact begun (by simp [Transport.play]) loaded
  | true => exact begun (by simp [Transport.play]) loaded.playClickStart

theorem pauseTake (h : Leads s u) : Leads s u.pauseTake :=
  Leads.post _ (Leads.modTransport (fun _ => Transport.expectedKept_of_nil (by simp [State.haltTake])) h.haltTake)

theorem setPausePending (b : Bool) (h : Leads s u) : Leads s (u.setPausePending b) := Leads.modTransport id h

theorem seekTake (target : Nat) (h : Leads s u) : Leads s (u.seekTake target) := by
  simp only [State.seekTake]
  split <;> rename_i state
  case h_1 => exact h.haltTake.startSeek target false (fun _ => by simp [State.haltTake])
  case h_2 => exact h.haltTake.startSeek target false (fun _ => by simp [State.haltTake])
  case h_3 => exact h.startSeek target true (fun kept => kept.nil (by simp [state]))
  case h_4 => exact h.startSeek target _ (fun kept => kept.nil (by simp [state]))
  all_goals exact h

theorem setLoop (a b repeats : Nat) (h : Leads s u) : Leads s (u.setLoop a b repeats) := by
  simp only [State.setLoop]
  split
  · exact Leads.recomputeWait (Leads.anchorTest (Leads.modTransport id h))
  · exact Leads.anchorTest (Leads.modTransport id h)

theorem clearLoop (h : Leads s u) : Leads s u.clearLoop := by
  simp only [State.clearLoop]
  split
  · exact Leads.recomputeWait (Leads.modTransport id h)
  · exact Leads.modTransport id h

theorem practice (parts : Option Parts) (wait : Option Bool) (chord lead : Option Nat) (h : Leads s u) :
    Leads s (u.practice parts wait chord lead) := by
  simp only [State.practice]
  have set : Leads s (u.modTransport (fun t =>
      { t with parts := parts.getD t.parts, waitMode := wait.getD t.waitMode,
               chordWindow := (chord.map (clamp 0 100)).getD t.chordWindow,
               leadWindow := (lead.map (clamp 0 200)).getD t.leadWindow })) := Leads.modTransport id h
  split
  · exact Leads.leaveWaiting rfl (Leads.modTransport (fun _ => Transport.expectedKept_of_nil rfl) set)
  · exact set

theorem setTransfer (x : Transfer) (h : Leads s u) : Leads s { u with transfer := x } := h.tail (.setTransfer x u)

theorem setStoreTransfer {st : Store} (x : Transfer) (kept : Memory.wf u.store.memory = true → Memory.wf st.memory = true)
    (h : Leads s u) : Leads s { u with store := st, transfer := x } := (h.setStore kept).setTransfer x

theorem endExport (x : Export) (r : TransferResult) (h : Leads s u) : Leads s (u.endExport x r) :=
  Leads.post _ (Leads.setTransfer _ (Leads.modStore id h))

theorem endImport (x : Import) (r : TransferResult) (h : Leads s u) : Leads s (u.endImport x r) :=
  Leads.post _ (Leads.setTransfer _ h)

theorem failTransfer (x : Import) (r : TransferResult) (h : Leads s u) : Leads s (u.failTransfer x r) :=
  Leads.endImport x r (Leads.modStore (fun wf => by rwa [Store.failImport_memory]) h)

end Leads

/-! ### Requests -/

section Requests

open Judged Relation.ReflTransGen

variable (p : List Byte) (s : State)

theorem judgeTakeList_leads : (judgeTakeList p s).leads s := by
  simp only [judgeTakeList]
  repeat' split
  exacts [leads_okWith _ refl, leads_okWith _ refl, leads_refuse _ refl]

theorem judgeTakeDelete_leads : (judgeTakeDelete p s).leads s := by
  simp only [judgeTakeDelete]
  repeat' split
  exacts [leads_refuse _ refl, leads_refuse _ refl, leads_refuse _ refl,
    leads_okWith _ (Leads.modStore (fun wf => by rwa [Store.releaseTake_memory]) refl)]

theorem judgeTakeName_leads : (judgeTakeName p s).leads s := by
  simp only [judgeTakeName]
  split
  · exact leads_refuse _ refl
  · split
    · exact leads_refuse _ refl
    · split
      · exact leads_refuse _ refl
      · split
        · exact leads_refuse _ refl
        · exact leads_okWith _ (Leads.modStore id refl)

theorem takeRecordWith_leads (take split_ : Nat) (arm : ArmMode) (click : Bool) : (takeRecordWith take split_ arm click s).leads s := by
  simp only [takeRecordWith]
  split
  · exact leads_refuse _ refl
  · rename_i idle
    split
    · exact leads_refuse _ refl
    · split
      · exact leads_refuse _ refl
      · rename_i st n opened
        refine leads_answer _ _ (Leads.beginRecording n arm click ?_ (Leads.setStore ?_ refl))
        · simp [not_not.1 idle]
        · intro wf
          rwa [Store.openRecording_memory opened]

theorem judgeTakeRecord_leads : (judgeTakeRecord p s).leads s := by
  simp only [judgeTakeRecord]
  split
  · exact leads_refuse _ refl
  · split
    exacts [takeRecordWith_leads s _ _ _ _, leads_refuse _ refl]

theorem takePlayWith_leads (take start speed : Nat) (parts : Parts) (wait click : Bool) :
    (takePlayWith take start speed parts wait click s).leads s := by
  simp only [takePlayWith]
  split
  · exact leads_refuse _ refl
  · split
    · exact leads_refuse _ refl
    · split
      exacts [leads_refuse _ refl, leads_answer _ _ (Leads.beginPlayback _ _ _ _ _ _ refl)]

theorem judgeTakePlay_leads : (judgeTakePlay p s).leads s := by
  refine leads_bind _ (fun l => ?_)
  split
  · exact leads_refuse _ refl
  · split
    exacts [takePlayWith_leads s _ _ _ _ _ _, leads_refuse _ refl]

theorem judgeTakeStop_leads : (judgeTakeStop s).leads s := by
  simp only [judgeTakeStop]
  split
  case h_1 => exact leads_refuse _ refl
  case h_2 => exact leads_okWith _ (Leads.endRecording _ _ refl)
  case h_3 =>
    split
    · exact leads_okWith _ (Leads.endRecording _ _ (Leads.takeOverdue _ refl))
    · exact leads_refuse _ (Leads.takeOverdue _ refl)
  all_goals exact leads_okWith _ (Leads.stopPlayback _ refl)

theorem judgeTakePause_leads : (judgeTakePause s).leads s := by
  simp only [judgeTakePause]
  split
  exacts [leads_refuse _ refl, leads_refuse _ refl, leads_refuse _ refl, leads_okWith _ (Leads.setPausePending _ refl),
    leads_okWith _ (Leads.pauseTake refl), leads_okWith _ (Leads.pauseTake refl), leads_okWith _ refl]

theorem judgeTakeResume_leads : (judgeTakeResume s).leads s := by
  simp only [judgeTakeResume]
  split <;> rename_i state
  case h_4 =>
    split
    exacts [leads_okWith _ (Leads.setPausePending _ refl), leads_refuse _ refl]
  case h_7 => exact leads_okWith _ (Leads.continueTake (by simp [state]) refl)
  all_goals exact leads_refuse _ refl

theorem judgeTakeSpeed_leads : (judgeTakeSpeed p s).leads s := by
  simp only [judgeTakeSpeed]
  split
  exacts [leads_okWith _ (Leads.setPlaySpeed _ (Leads.modTransport id refl)), leads_refuse _ refl]

theorem judgeTakeSeek_leads : (judgeTakeSeek p s).leads s := by
  simp only [judgeTakeSeek]
  split
  exacts [leads_okWith _ (Leads.seekTake _ refl), leads_refuse _ refl]

theorem judgeLoopSet_leads : (judgeLoopSet p s).leads s := by
  simp only [judgeLoopSet]
  split
  · exact leads_refuse _ refl
  · split
    exacts [leads_okWith _ (Leads.setLoop _ _ _ refl), leads_refuse _ refl]

theorem judgeLoopClear_leads : (judgeLoopClear s).leads s := by
  refine leads_okWith _ ?_
  split
  exacts [Leads.clearLoop refl, refl]

theorem judgePracticeSet_leads : (judgePracticeSet p s).leads s := by
  refine leads_bind _ (fun l => ?_)
  split
  · exact leads_refuse _ refl
  · split
    · split
      exacts [leads_refuse _ refl, leads_okWith _ (Leads.practice _ _ _ _ refl)]
    · exact leads_refuse _ refl

theorem judgeWaitReport_leads : (judgeWaitReport p s).leads s := by
  simp only [judgeWaitReport]
  split
  · refine leads_okWith _ ?_
    split
    exacts [Leads.modTransport id refl, refl]
  · exact leads_refuse _ refl

theorem judgeExportOpen_leads : (judgeExportOpen p s).leads s := by
  simp only [judgeExportOpen]
  split
  · exact leads_refuse _ refl
  · split
    · exact leads_refuse _ refl
    · split
      · exact leads_refuse _ refl
      · split
        exacts [leads_refuse _ refl, leads_answer _ _ (Leads.setTransfer _ (Leads.modStore id refl))]

theorem judgeExportRead_leads : (judgeExportRead p s).leads s := by
  simp only [judgeExportRead]
  split
  · exact leads_refuse _ refl
  · split
    · exact leads_refuse _ (Leads.setTransfer _ refl)
    · split
      exacts [leads_refuse _ (Leads.setTransfer _ refl), leads_okWith _ (Leads.setTransfer _ refl)]

theorem judgeExportClose_leads : (judgeExportClose s).leads s := by
  simp only [judgeExportClose]
  split
  exacts [leads_refuse _ refl, leads_okWith _ (Leads.endExport _ _ refl)]

theorem judgeImportOpen_leads : (judgeImportOpen p s).leads s := by
  simp only [judgeImportOpen]
  split
  · exact leads_refuse _ refl
  · split
    · exact leads_refuse _ refl
    · split
      · exact leads_refuse _ refl
      · rename_i st opened
        refine leads_answer _ _ (Leads.setStoreTransfer _ (fun wf => ?_) refl)
        rwa [Store.openImport_memory opened]

theorem judgeImportWrite_leads : (judgeImportWrite p s).leads s := by
  simp only [judgeImportWrite]
  split
  · exact leads_refuse _ refl
  · split
    · exact leads_refuse _ (Leads.setTransfer _ refl)
    · split
      · exact leads_refuse _ (Leads.setTransfer _ refl)
      · split
        · exact leads_refuse _ (Leads.failTransfer _ _ (Leads.setTransfer _ refl))
        · have taken {x : Import} {st : Store} (bytes : (Import.takeBytes x s.store (p.drop 3)).store = st)
              (wf : Memory.wf s.store.memory = true) : Memory.wf st.memory = true :=
            bytes ▸ Import.takeBytes_wf (p.drop 3) _ wf
          split <;> rename_i bytes
          · exact leads_okWith _ (Leads.setStoreTransfer _ (taken (congrArg Taken.store bytes)) refl)
          · exact leads_refuse _ (Leads.failTransfer _ _ (Leads.setStore (taken (congrArg Taken.store bytes)) refl))

theorem judgeImportClose_leads : (judgeImportClose s).leads s := by
  have failed (x : Import) (r : TransferResult) (status : Status) : (refuse status (s.failTransfer x r)).leads s :=
    leads_refuse _ (Leads.failTransfer x r refl)
  simp only [judgeImportClose]
  split
  · exact leads_refuse _ refl
  · split
    · exact failed _ _ _
    · split
      · exact failed _ _ _
      · split
        case h_1 =>
          exact leads_okWith _ (Leads.endImport _ _ (Leads.modStore (fun wf => by rwa [Store.finishImport_memory]) refl))
        all_goals exact failed _ _ _

theorem judgeLinkReport_leads (l : Link) : (judgeLinkReport l p s).leads s := by
  simp only [judgeLinkReport]
  split
  · refine leads_okWith _ ?_
    split
    exacts [tail refl (.clearCounters l s), refl]
  · exact leads_refuse _ refl

theorem judgeRestart_leads (l : Link) (taken : Time) : (judgeRestart l taken s).leads s := by
  simp only [judgeRestart]
  split
  exacts [leads_okWith _ refl, leads_okWith _ (tail refl (.setRestart _ s))]

/-- Every judgement but that of STATUS_MASK, which is the link's own, is a chain of elementary moves (R190). -/
theorem judge_leads {kind : ReqKind} (l : Link) (taken : Time) (hk : kind ≠ .statusMask) : (judge kind l taken p s).leads s := by
  cases kind
  case calWrite => exact judgeCalWrite_leads p s
  case calRead => exact judgeCalRead_leads p s
  case calCaptureRest => exact judgeCalCaptureRest_leads s
  case calCaptureBottom => exact judgeCalCaptureBottom_leads p s
  case keyWatch => exact judgeKeyWatch_leads p s
  case keyReport => exact judgeKeyReport_leads p s
  case keyLines => exact judgeKeyLines_leads p s
  case curveWrite => exact judgeCurveWrite_leads p s
  case curveSelect => exact judgeCurveSelect_leads p s
  case curveRead => exact judgeCurveRead_leads p s
  case strokeSlowLimit => exact judgeStrokeSlowLimit_leads p s
  case noteCopy => exact judgeNoteCopy_leads p s
  case soundingReport => exact judgeSoundingReport_leads p s
  case allNotesOff => exact leads_okWith _ (tail refl (.panic s))
  case toneStreamSetup => exact judgeToneStreamSetup_leads p s
  case flushTone => exact leads_okWith _ (tail refl (.flushTone s))
  case railEngage => exact judgeMove_leads s .engage
  case railRetract => exact judgeMove_leads s .retract
  case railStatus => exact judgeRailStatus_leads p s
  case railAck => exact judgeRailAck_leads s
  case railClearDisturbed => exact leads_okWith _ (Leads.modRail rfl rfl id refl)
  case railProfile => exact judgeRailProfile_leads p s
  case audioSetup => exact judgeAudioSetup_leads p s
  case audioMute => exact judgeAudioMute_leads p s
  case metroSet => exact judgeMetroSet_leads p s
  case metroRun => exact judgeMetroRun_leads p s
  case audioReport => exact judgeAudioReport_leads p s
  case takeList => exact judgeTakeList_leads p s
  case takeDelete => exact judgeTakeDelete_leads p s
  case takeName => exact judgeTakeName_leads p s
  case memoryReport => exact leads_okWith _ refl
  case takeRecord => exact judgeTakeRecord_leads p s
  case takePlay => exact judgeTakePlay_leads p s
  case takeStop => exact judgeTakeStop_leads s
  case takePause => exact judgeTakePause_leads s
  case takeResume => exact judgeTakeResume_leads s
  case takeSpeed => exact judgeTakeSpeed_leads p s
  case takeSeek => exact judgeTakeSeek_leads p s
  case loopSet => exact judgeLoopSet_leads p s
  case loopClear => exact judgeLoopClear_leads s
  case transportReport => exact leads_okWith _ refl
  case practiceSet => exact judgePracticeSet_leads p s
  case waitReport => exact judgeWaitReport_leads p s
  case exportOpen => exact judgeExportOpen_leads p s
  case exportRead => exact judgeExportRead_leads p s
  case exportClose => exact judgeExportClose_leads s
  case importOpen => exact judgeImportOpen_leads p s
  case importWrite => exact judgeImportWrite_leads p s
  case importClose => exact judgeImportClose_leads s
  case identify => exact leads_okWith _ refl
  case linkReport => exact judgeLinkReport_leads p s l
  case restart => exact judgeRestart_leads s l taken
  case statusMask => exact absurd rfl hk
  case unknown => exact leads_none s

end Requests

end Sys2Proof.Machine
end

section
/-! SUPPORT. The events of the blocks as chains of elementary moves (R15, R16, R75 to R104, R113 to R124, R136 to R189). -/

namespace Sys2Proof.Machine

open Sys2Proof Relation.ReflTransGen

namespace Leads

variable (s : State)

/-! ### Captures and the Tone Stream -/

theorem onRestComplete : Leads s s.onRestComplete := by
  simp only [State.onRestComplete]
  repeat' split
  exacts [completeRest _ refl, refl, refl, refl]

theorem onBottomComplete (raw : Nat) : Leads s (s.onBottomComplete raw) := by
  simp only [State.onBottomComplete]
  repeat' split
  exacts [sampleKey _ _ refl, refl, refl, refl]

theorem startSlot : Leads s s.startSlot := by
  simp only [State.startSlot]
  split
  exacts [single (.setDrain _ s), single (.shiftOut _ s), refl, refl]

theorem completeSlot : Leads s s.completeSlot := by
  simp only [State.completeSlot]
  split
  · exact refl
  · exact refl
  · split
    · exact (single (.setDrain _ s)).tail (.shiftOut _ _)
    · exact ((single (.removeHead s)).tail (.setDrain _ _)).tail (.shiftOut _ _)

/-! ### Rail -/

theorem onQuietWait : Leads s s.onQuietWait := by
  simp only [State.onQuietWait]
  split
  next t timer =>
    split
    exacts [abandonWait (fun kept => kept.waits_of_timer timer) refl, refl]
  · exact refl

theorem onKickEnd : Leads s s.onKickEnd := by
  simp only [State.onKickEnd]
  split
  next x run =>
    split
    exacts [setRun _ (run ▸ rfl) refl, refl]
  · exact refl

theorem onDutyStep : Leads s s.onDutyStep := by
  simp only [State.onDutyStep]
  split
  next x run =>
    split
    exacts [setRun _ (run ▸ rfl) refl, refl]
  · exact refl

theorem onStallTimer : Leads s s.onStallTimer := by
  simp only [State.onStallTimer]
  split
  next x run =>
    split
    exacts [stallExpired x (run ▸ rfl) refl, refl]
  · exact refl

theorem onRetryDwell : Leads s s.onRetryDwell := by
  simp only [State.onRetryDwell]
  split
  next x run =>
    split
    exacts [setRun _ (run ▸ rfl) refl, refl]
  · exact refl

theorem onMoveTimer : Leads s s.onMoveTimer := by
  simp only [State.onMoveTimer]
  split
  next x run =>
    split
    exacts [failRun _ (run ▸ rfl) refl, refl]
  · exact refl

theorem onReversalDwell : Leads s s.onReversalDwell := by
  simp only [State.onReversalDwell]
  split
  next x target run toward =>
    have isSome (now : Time) : (s.rail.freshAfterReversal now).run.isSome = s.rail.run.isSome := by
      simp [Rail.freshAfterReversal]
    have fresh : Leads s (s.modRail (Rail.freshAfterReversal s.now)) :=
      modRail rfl rfl (fun kept => kept.of_same_state rfl (isSome _) rfl rfl rfl kept.ranges) refl
    split
    · split
      · exact fresh.railChanged (fun kept => kept.arrive (kept.run_isSome_iff.mp ((isSome _).trans (run ▸ rfl))) target)
      · exact fresh
    · exact refl
  · exact refl

theorem park {u : State} (h : Leads s u) : Leads s u.park := by
  simp only [State.park]
  split
  exacts [h.moveRequest _, h]

theorem onFallboardClose : Leads s s.onFallboardClose := by
  simp only [State.onFallboardClose]
  split
  · exact refl
  · have suspended : Leads s (s.modRail (fun r => { r with fallboardClosed := true })).suspendAll :=
      suspendAll (modRail rfl rfl id refl)
    refine post _ (park _ ?_)
    split
    exacts [endRecording _ _ suspended, suspended]

theorem onFallboardOpen : Leads s s.onFallboardOpen := by
  simp only [State.onFallboardOpen]
  split
  exacts [post _ (modRail rfl rfl id refl), refl]

/-! ### Audio -/

theorem onJack (j : Jack) (inserted : Bool) : Leads s (s.onJack j inserted) := by
  simp only [State.onJack]
  split
  exacts [refl, post _ (modAudio (Audio.steady.judgeJacks_setJack _ j inserted) refl)]

theorem onOutputFrame : Leads s s.onOutputFrame := by
  have sent : Leads s { s with audio := s.audio.rampStep.takeFrame.1.sendFrame s.audio.rampStep.takeFrame.2.1 } :=
    setAudio (((Audio.steady.rampStep _).trans (Audio.steady.takeFrame _)).trans (Audio.steady.sendFrame _ _)) refl
  simp only [State.onOutputFrame]
  split
  exacts [post _ sent, sent]

theorem onBeatTime : Leads s s.onBeatTime := by
  simp only [State.onBeatTime]
  split
  · split
    · split
      exacts [recordBeat _ (clockBeat _ _ refl), clockBeat _ _ refl]
    · exact refl
  · exact refl

/-! ### Recording, playback and transfers -/

theorem onGap : Leads s s.onGap := by
  simp only [State.onGap]
  split
  · split
    exacts [recordWith (Store.writeGap_wf) refl, refl]
  · exact refl

theorem onLimit : Leads s s.onLimit := by
  simp only [State.onLimit]
  split
  · split
    exacts [endRecording _ _ refl, refl]
  · exact refl

theorem onSeek : Leads s s.onSeek := by
  simp only [State.onSeek]
  split
  next seeking _ =>
    split
    exacts [completeSeek _ (by simp [seeking]) refl, refl]
  · exact refl

theorem onDelivery : Leads s s.onDelivery := by
  simp only [State.onDelivery]
  split
  · split
    exacts [deliver _ _ _ refl, refl]
  · exact refl

theorem onLoopJump : Leads s s.onLoopJump := by
  simp only [State.onLoopJump]
  split
  · split
    exacts [loopJump _ refl, refl]
  · exact refl

theorem onWaitingMs : Leads s s.onWaitingMs := by
  simp only [State.onWaitingMs]
  split
  exacts [modTransport id refl, refl]

theorem onExportIdle : Leads s s.onExportIdle := by
  simp only [State.onExportIdle]
  split
  · split
    exacts [endExport _ _ refl, refl]
  · exact refl

theorem onImportIdle : Leads s s.onImportIdle := by
  simp only [State.onImportIdle]
  split
  · split
    exacts [failTransfer _ _ refl, refl]
  · exact refl

end Leads

end Sys2Proof.Machine
end

section
/-! SUPPORT. What a command can make of a state: a request, an event of the blocks, an exchange of a link, or a start or a loss of a
supply. Every command is one of these, with main power on where it is none of the supplies' own (R190 to R201; assumption 13). -/

namespace Sys2Proof.Machine

open Sys2Proof Relation.ReflTransGen

/-- What a command makes of a state with main power on. -/
inductive Works : State → State → Prop
  | request (kind : ReqKind) (code : Nat) (f : Frame) (s : State) : Works s (s.takeFrame kind code f)
  | block (now : Time) {s t : State} (h : Leads { s with now := now } t) : Works s t
  | beginDrain (now : Time) (s : State) : Works s { s with now := now }.beginDrain
  | badSelector (now : Time) (s : State) : Works s (({ s with now := now }.beginExchange .t).countMalformed .t)
  | replyRead (now : Time) (l : Link) (toEnd judged : Bool) (s : State) : Works s ({ s with now := now }.readReply l toEnd judged)
  | endStretch (now : Time) (s : State) : Works s { s with now := now }.endStretch
  | pointerWrite (now : Time) (value : Nat) (s : State) : Works s (({ s with now := now }.beginExchange .p).writePointer value)
  | statusRead (now : Time) (l : Link) (s : State) : Works s ({ s with now := now }.readStatus l)
  | abandonStatus (now : Time) (l : Link) (s : State) : Works s ({ s with now := now }.abandonStatus l)
  | streamRead (now : Time) (bytes : Nat) (s : State) : Works s ({ s with now := now }.readStream bytes)
  | restartRead (now : Time) (pins : Pins) (s : State) : Works s ({ s with now := now }.onRestartRead pins)
  | restartTimeout (now : Time) (pins : Pins) (s : State) : Works s ({ s with now := now }.onRestartTimeout pins)
  | resetPin (now : Time) (pins : Pins) (s : State) : Works s ({ s with now := now }.start true .resetPin now pins)

/-- What a command makes of a state. -/
inductive Acts : Instr → State → State → Prop
  | off (c : Instr) {s : State} (off : s.system.mainOn = false) : Acts c s s
  | on (c : Instr) {s t : State} (on : s.system.mainOn = true) (works : Works s t) : Acts c s t
  | powerOn (now : Time) (pins : Pins) (s : State) : Acts (.powerOn now pins) s (s.powerOn now pins)
  | standbySwitch (w : EndSwitch) (active : Bool) (s : State) : Acts (.standbySwitchChange w active) s s.standbySwitch
  | losePower (s : State) : Acts .mainPowerLoss s s.losePower
  | loseStandby (s : State) : Acts .standbySupplyLoss s s.loseStandby

namespace Acts

variable {c : Instr} {s t u : State}

theorem of_proceed (h : proceed u = .next t) (acts : Acts c s u) : Acts c s t := by
  cases h
  exact acts

theorem of_proceedIf {ok : Bool} (h : proceedIf ok u = .next t) (acts : Acts c s u) : Acts c s t := by
  cases ok
  · exact nomatch h
  · exact acts.of_proceed h

theorem whileOn {f : State → State} (works : Works s (f s)) : Acts c s (s.whileOn f) := by
  simp only [State.whileOn]
  split
  next on => exact .on c on works
  next off => exact .off c (by simpa using off)

theorem request {kind : ReqKind} {f : Frame} (h : proceed (takeRequest kind f s) = .next t) : Acts c s t :=
  of_proceed h (whileOn (.request kind _ f s))

theorem event {now : Time} {f : State → State} (works : Works s (f { s with now := now })) : Acts c s (s.event now f) :=
  whileOn works

/-- An event of the blocks. -/
theorem block {now : Time} {f : State → State} (h : proceed (s.event now f) = .next t)
    (leads : Leads { s with now := now } (f { s with now := now })) : Acts c s t := of_proceed h (event (.block now leads))

theorem blockIf {ok : Bool} {now : Time} {f : State → State} (h : proceedIf ok (s.event now f) = .next t)
    (leads : Leads { s with now := now } (f { s with now := now })) : Acts c s t := of_proceedIf h (event (.block now leads))

/-- A transaction for another address leaves all but the time base (R193). -/
theorem addressed {now : Time} {l : Link} {address : BitVec 7} {f : State → State} (works : Works s (f { s with now := now })) :
    Acts c s (s.event now (State.addressed l address f)) := by
  refine event ?_
  simp only [State.addressed]
  split
  exacts [works, .block now refl]

end Acts

theorem exec_acts {c : Instr} {s t : State} (h : exec c s = .next t) : Acts c s t := by
  cases c
  case calWrite | calRead | calCaptureRest | calCaptureBottom | keyWatch | keyReport | keyLines | curveWrite | curveSelect |
      curveRead | strokeSlowLimit | noteCopy | soundingReport | allNotesOff | toneStreamSetup | flushTone | railEngage |
      railRetract | railProfile | railStatus | railAck | railClearDisturbed | audioSetup | audioMute | metroSet | metroRun |
      audioReport | takeList | takeDelete | takeName | memoryReport | takeRecord | takePlay | takeStop | takePause |
      takeResume | takeSpeed | takeSeek | loopSet | loopClear | transportReport | practiceSet | waitReport | exportOpen |
      exportRead | exportClose | importOpen | importWrite | importClose | identify | linkReport | statusMask | restart =>
    exact .request h
  case unknown kind f => exact .of_proceedIf h (.whileOn (.request .unknown kind.toNat f s))
  case keySample now k raw => exact .blockIf h (.sampleKey k raw refl)
  case pedalSample now p raw => exact .blockIf h (.samplePedal p raw refl)
  case restCaptureComplete => exact .block h (.onRestComplete _)
  case bottomCaptureComplete now raw => exact .blockIf h (.onBottomComplete _ raw)
  case drain now => exact .of_proceed h (.event (.beginDrain now s))
  case drainSlotStart => exact .block h (.startSlot _)
  case drainSlotComplete => exact .block h (.completeSlot _)
  case drainSlotAbandon => exact .block h (single (.setDrain none _))
  case ageCondition => exact .block h (single (.onAge _))
  case quietWaitExpiry => exact .block h (.onQuietWait _)
  case kickEnd => exact .block h (.onKickEnd _)
  case dutyStep => exact .block h (.onDutyStep _)
  case stallTimerExpiry => exact .block h (.onStallTimer _)
  case retryDwellEnd => exact .block h (.onRetryDwell _)
  case reversalDwellEnd => exact .block h (.onReversalDwell _)
  case moveTimeout => exact .block h (.onMoveTimer _)
  case encoderPulse now d => exact .block h (.railPulse d refl)
  case endSwitchChange now w active => exact .block h (.railSwitch w active refl)
  case currentSample now mA => exact .blockIf h (.railCurrent mA refl)
  case fallboardClose => exact .block h (.onFallboardClose _)
  case fallboardOpen => exact .block h (.onFallboardOpen _)
  case jackChange now j inserted => exact .block h (.onJack _ j inserted)
  case inputFrame now l r => exact .block h (.modAudio (Audio.steady.arrive _ _) refl)
  case outputFrame => exact .block h (.onOutputFrame _)
  case clickEnd => exact .block h (.modAudio (Audio.steady.endClick _) refl)
  case alertSegmentEnd => exact .block h (.modAudio (Audio.steady.nextSegment _) refl)
  case nextBeatTime => exact .block h (.onBeatTime _)
  case gapExpiry => exact .block h (.onGap _)
  case durationLimit => exact .block h (.onLimit _)
  case seekComplete => exact .block h (.onSeek _)
  case recordDelivery => exact .block h (.onDelivery _)
  case loopJump => exact .block h (.onLoopJump _)
  case waitingCountRise => exact .block h (.onWaitingMs _)
  case exportIdleExpiry => exact .block h (.onExportIdle _)
  case importIdleExpiry => exact .block h (.onImportIdle _)
  case restartWarmStart now pins => exact .of_proceed h (.event (.restartRead now pins s))
  case restartTimeout now pins => exact .of_proceed h (.event (.restartTimeout now pins s))
  case badSelector now => exact .of_proceed h (.event (.badSelector now s))
  case replyRead now l toEnd judged => exact .of_proceed h (.addressed (.replyRead now _ toEnd judged s))
  case replyStretchTimeout now => exact .of_proceed h (.event (.endStretch now s))
  case pointerWrite now value => exact .of_proceed h (.addressed (.pointerWrite now _ s))
  case statusRead now l => exact .of_proceed h (.addressed (.statusRead now _ s))
  case statusReadAbandon now l => exact .of_proceed h (.event (.abandonStatus now l s))
  case streamRead now bytes => exact .of_proceed h (.addressed (.streamRead now _ s))
  case resetPin now pins => exact .of_proceed h (.event (.resetPin now pins s))
  case powerOn now pins => exact .of_proceed h (.powerOn now pins s)
  case standbySwitchChange w active => exact .of_proceed h (.standbySwitch w active s)
  case mainPowerLoss => exact .of_proceed h (.losePower s)
  case standbySupplyLoss => exact .of_proceed h (.loseStandby s)

/-! ### Whole commands as moves of the blocks -/

/-- Two states agree in all the blocks but the links and the panel, and in the queue. -/
def State.sameBlocks (s t : State) : Prop :=
  t.scanner = s.scanner ∧ t.strokes = s.strokes ∧ t.pedals = s.pedals ∧ t.router = s.router ∧ t.tone = s.tone ∧ t.rail = s.rail ∧
    t.audio = s.audio ∧ t.store = s.store ∧ t.transport = s.transport ∧ t.transfer = s.transfer ∧ t.pending = s.pending

/-- The moves of which every command is made: an elementary move, a change outside the blocks, a start, or the loss of main power. -/
inductive Move : State → State → Prop
  | atom {s t : State} (h : Atom s t) : Move s t
  | outside {s t : State} (h : s.sameBlocks t) : Move s t
  | start (warm : Bool) (cause : StartCause) (now : Time) (pins : Pins) (s : State) : Move s (s.start warm cause now pins)
  | losePower (s : State) : Move s s.losePower

abbrev Moves : State → State → Prop := Relation.ReflTransGen Move

/-- What every move keeps, every chain of moves keeps. -/
theorem Moves.keeps {P : State → Prop} (move : ∀ {s t}, Move s t → P s → P t) {s t : State} (h : Moves s t) (hs : P s) : P t := by
  induction h with
  | refl => exact hs
  | tail _ last ih => exact move last ih

namespace Moves

variable {s u v : State}

theorem of_leads (h : Leads s u) : Moves s u := h.lift id (fun _ _ => .atom)

theorem leads (h : Moves s u) (next : Leads u v) : Moves s v := h.trans (of_leads next)

theorem outside (h : Moves s u) (same : u.sameBlocks v) : Moves s v := h.tail (.outside same)

theorem setNow (now : Time) (h : Moves s u) : Moves s { u with now := now } :=
  h.outside ⟨rfl, rfl, rfl, rfl, rfl, rfl, rfl, rfl, rfl, rfl, rfl⟩

theorem setPanel (x : PanelIf) (h : Moves s u) : Moves s { u with panel := x } :=
  h.outside ⟨rfl, rfl, rfl, rfl, rfl, rfl, rfl, rfl, rfl, rfl, rfl⟩

theorem setSystem (x : System) (h : Moves s u) : Moves s { u with system := x } :=
  h.outside ⟨rfl, rfl, rfl, rfl, rfl, rfl, rfl, rfl, rfl, rfl, rfl⟩

theorem modLink (l : Link) (f : LinkIf → LinkIf) (h : Moves s u) : Moves s (u.modLink l f) := by
  cases l <;> exact h.outside ⟨rfl, rfl, rfl, rfl, rfl, rfl, rfl, rfl, rfl, rfl, rfl⟩

theorem start (warm : Bool) (cause : StartCause) (now : Time) (pins : Pins) (h : Moves s u) : Moves s (u.start warm cause now pins) :=
  h.tail (.start warm cause now pins u)

theorem beginExchange (l : Link) (h : Moves s u) : Moves s (u.beginExchange l) := by
  have cleared := h.modLink l (fun x => { x with statusRead := none, out := .nothing })
  cases l
  exacts [cleared.leads (single (.setDrain none _)), cleared.setPanel _]

theorem countMalformed (l : Link) (h : Moves s u) : Moves s (u.countMalformed l) := h.modLink l _

theorem countLost (l : Link) (h : Moves s u) : Moves s (u.countLost l) := h.modLink l _

theorem answerFrame (kind : ReqKind) (f : Frame) (h : Moves s u) : Moves s (u.answerFrame kind f).1 := by
  simp only [State.answerFrame]
  split
  · exact h.countMalformed _
  · split
    next r judged =>
      obtain ⟨p, _, judged⟩ := Option.bind_eq_some_iff.mp judged
      by_cases mask : kind = .statusMask
      · subst mask
        simp only [judge, judgeStatusMask] at judged
        split at judged <;> cases judged
        · exact h
        · dsimp only
          exact h.modLink f.link _
      · exact h.leads (judge_leads p u _ _ mask _ judged)
    · exact h.countMalformed _

theorem judgeFrame (kind : ReqKind) (f : Frame) (h : Moves s u) : Moves s (u.judgeFrame kind f) :=
  (h.answerFrame kind f).modLink f.link (fun x => { x with buffer := .ready _ })

theorem admitFrame (kind : ReqKind) (f : Frame) (h : Moves s u) : Moves s (u.admitFrame kind f) := by
  simp only [State.admitFrame]
  split
  exacts [h.modLink _ _, h.judgeFrame kind f]

theorem writePointer (value : Nat) (h : Moves s u) : Moves s (u.writePointer value) := by
  simp only [State.writePointer]
  repeat' split
  exacts [h.setPanel _, h.setPanel _, h.setPanel _, h.countMalformed _]

theorem enterFrame (kind : ReqKind) (f : Frame) (h : Moves s u) : Moves s (u.enterFrame kind f) := by
  simp only [State.enterFrame]
  repeat' split
  exacts [h.admitFrame kind f, (h.countLost _).admitFrame kind f, h.countLost _, h.modLink _ _]

theorem takeFrame (kind : ReqKind) (code : Nat) (f : Frame) : Moves s (s.takeFrame kind code f) := by
  have began := (setNow f.now (refl : Moves s s)).beginExchange f.link
  simp only [State.takeFrame, State.addressed]
  repeat' split
  exacts [began.writePointer code, began.enterFrame kind f, setNow _ refl]

theorem takeHeld (l : Link) (h : Moves s u) : Moves s (u.takeHeld l) := by
  simp only [State.takeHeld]
  split
  exacts [h, ((h.modLink l _).countLost l).admitFrame _ _]

theorem settle (l : Link) (h : Moves s u) : Moves s (u.settle l) := by
  simp only [State.settle]
  split
  exacts [(h.judgeFrame _ _).takeHeld l, h, h]

theorem settleRestart (l : Link) (h : Moves s u) : Moves s (u.settleRestart l) := by
  have once {u : State} (h : Moves s u) : Moves s (if u.awaitsRestart l then u.settle l else u) := by
    split
    exacts [h.settle l, h]
  exact once (once h)

theorem readBuffer (l : Link) (toEnd : Bool) (h : Moves s u) : Moves s (u.readBuffer l toEnd) := by
  simp only [State.readBuffer, State.replyTaken]
  repeat' split
  exacts [(h.modLink l _).setSystem _, h.modLink l _, h.modLink l _, h.modLink l _, h.modLink .t _, h.setPanel _]

theorem readReply (l : Link) (toEnd judged : Bool) (h : Moves s u) : Moves s (u.readReply l toEnd judged) := by
  simp only [State.readReply]
  split
  · refine readBuffer l toEnd ?_
    split
    exacts [(h.beginExchange l).settle l, h.beginExchange l]
  · exact h

theorem endStretch (h : Moves s u) : Moves s u.endStretch := by
  simp only [State.endStretch]
  repeat' split
  exacts [h, modLink _ _ (h.setPanel _), h]

theorem readStatus (l : Link) (h : Moves s u) : Moves s (u.readStatus l) := by
  simp only [State.readStatus]
  split
  exacts [modLink l _ (h.beginExchange l), h]

theorem abandonStatus (l : Link) (h : Moves s u) : Moves s (u.abandonStatus l) := by
  simp only [State.abandonStatus]
  split
  exacts [h, h.modLink l _]

theorem readStream (bytes : Nat) (h : Moves s u) : Moves s (u.readStream bytes) := by
  simp only [State.readStream]
  repeat' split
  exacts [h.beginExchange .p, modLink _ _ ((h.beginExchange .p).setPanel _), h]

theorem onRestartRead (pins : Pins) (h : Moves s u) : Moves s (u.onRestartRead pins) := by
  simp only [State.onRestartRead]
  repeat' split
  exacts [h.start _ _ _ _, h, h]

theorem onRestartTimeout (pins : Pins) (h : Moves s u) : Moves s (u.onRestartTimeout pins) := by
  simp only [State.onRestartTimeout]
  repeat' split
  exacts [(h.settleRestart .t).start _ _ _ _, (h.settleRestart .p).start _ _ _ _, h]

theorem of_works (h : Works s u) : Moves s u := by
  cases h with
  | request kind code f => exact takeFrame kind code f
  | block now leads => exact (setNow now refl).leads leads
  | beginDrain now => exact (beginExchange .t (setNow now refl)).leads ((single (.setDrain _ _)).tail (.shiftOut _ _))
  | badSelector now => exact (beginExchange .t (setNow now refl)).countMalformed .t
  | replyRead now l toEnd judged => exact readReply l toEnd judged (setNow now refl)
  | endStretch now => exact endStretch (setNow now refl)
  | pointerWrite now value => exact (beginExchange .p (setNow now refl)).writePointer value
  | statusRead now l => exact readStatus l (setNow now refl)
  | abandonStatus now l => exact abandonStatus l (setNow now refl)
  | streamRead now bytes => exact readStream bytes (setNow now refl)
  | restartRead now pins => exact onRestartRead pins (setNow now refl)
  | restartTimeout now pins => exact onRestartTimeout pins (setNow now refl)
  | resetPin now pins => exact start _ _ _ _ (setNow now refl)

theorem of_acts {c : Instr} (h : Acts c s u) : Moves s u := by
  cases h with
  | off => exact refl
  | on _ _ works => exact of_works works
  | powerOn now pins => exact start _ _ _ _ refl
  | standbySwitch w active =>
    simp only [State.standbySwitch]
    split
    exacts [of_leads (Leads.modRail rfl rfl id refl), refl]
  | losePower => exact single (.losePower s)
  | loseStandby => exact setSystem _ refl

end Moves

/-- A step takes the front command off the queue and makes moves of the blocks, or it idles (assumption 12). -/
theorem step_moves {s t : State} (h : step s = .next t) : t = s ∨ ∃ rest, Moves { s with pending := rest } t := by
  simp only [step] at h
  split at h
  · exact .inl (by cases h; rfl)
  next c rest _ => exact .inr ⟨rest, .of_acts (exec_acts h)⟩

/-- What every move keeps and the queue does not matter to, every step keeps. -/
theorem step_keeps {P : State → Prop} (move : ∀ {s t}, Move s t → P s → P t) (queue : ∀ s rest, P s → P { s with pending := rest })
    {s t : State} (hs : P s) (h : step s = .next t) : P t := by
  obtain rfl | ⟨rest, moves⟩ := step_moves h
  · exact hs
  · exact moves.keeps move (queue s rest hs)

end Sys2Proof.Machine
end

section
/-! SUPPORT. What the moves leave of the queue, take memory, the rail record, the Transport and the Audio Stage. -/

namespace Sys2Proof.Machine

open Sys2Proof

/-! ### The moves of the Stroke Analyzer, block by block -/

@[simp] theorem State.discardStroke_frame (x : KeyState) (k : Nat) (s : State) :
    (s.discardStroke x k).now = s.now ∧ (s.discardStroke x k).system = s.system ∧ (s.discardStroke x k).pedals = s.pedals ∧
    (s.discardStroke x k).router = s.router ∧ (s.discardStroke x k).tone = s.tone ∧ (s.discardStroke x k).rail = s.rail ∧
    (s.discardStroke x k).audio = s.audio ∧ (s.discardStroke x k).store = s.store ∧
    (s.discardStroke x k).transport = s.transport ∧ (s.discardStroke x k).linkT = s.linkT ∧
    (s.discardStroke x k).linkP = s.linkP ∧ (s.discardStroke x k).panel = s.panel ∧
    (s.discardStroke x k).pending = s.pending := by
  simp [State.discardStroke]

@[simp] theorem State.takeStroke_frame (k : Nat) (q : Plausible) (s : State) :
    (s.takeStroke k q).now = s.now ∧ (s.takeStroke k q).system = s.system ∧ (s.takeStroke k q).pedals = s.pedals ∧
    (s.takeStroke k q).router = s.router ∧ (s.takeStroke k q).tone = s.tone ∧ (s.takeStroke k q).rail = s.rail ∧
    (s.takeStroke k q).audio = s.audio ∧ (s.takeStroke k q).store = s.store ∧ (s.takeStroke k q).transport = s.transport ∧
    (s.takeStroke k q).linkT = s.linkT ∧ (s.takeStroke k q).linkP = s.linkP ∧ (s.takeStroke k q).panel = s.panel ∧
    (s.takeStroke k q).pending = s.pending := by
  simp [State.takeStroke]

@[simp] theorem State.routeStroke_frame (k : Nat) (e : StrokeEvent) (s : State) :
    (s.routeStroke k e).now = s.now ∧ (s.routeStroke k e).system = s.system ∧ (s.routeStroke k e).scanner = s.scanner ∧
    (s.routeStroke k e).strokes = s.strokes ∧ (s.routeStroke k e).pedals = s.pedals ∧ (s.routeStroke k e).rail = s.rail ∧
    (s.routeStroke k e).audio = s.audio ∧ (s.routeStroke k e).store = s.store ∧
    (s.routeStroke k e).transport = s.transport ∧ (s.routeStroke k e).pending = s.pending := by
  cases e <;> simp [State.routeStroke]

/-! ### The queue and take memory -/

theorem Atom.pending {s t : State} (h : Atom s t) : t.pending = s.pending := by
  cases h <;> simp

theorem Move.pending {s t : State} (h : Move s t) : t.pending = s.pending := by
  cases h with
  | atom h => exact h.pending
  | outside h =>
    obtain ⟨_, _, _, _, _, _, _, _, _, _, queue⟩ := h
    exact queue
  | start => rfl
  | losePower => rfl

/-- Settles O2: the queue is none of the fields that a move of the blocks, a link or a start writes. -/
theorem commandsLeaveTheQueueAlone : Obligations.CommandsLeaveTheQueueAlone := fun _ s _ h =>
  (Moves.of_acts (exec_acts h)).keeps (P := fun u => u.pending = s.pending) (fun move kept => move.pending.trans kept) rfl

theorem Atom.memory {s t : State} (h : Atom s t) (kept : s.memoryCanonical) : t.memoryCanonical := by
  cases h
  case setStore st wf => exact wf kept
  all_goals simpa [State.memoryCanonical] using kept

theorem Store.atStart_wf {st : Store} (warm : Bool) (h : Memory.wf st.memory = true) :
    Memory.wf (st.atStart warm).1.memory = true := by
  cases warm <;> simp only [Store.atStart]
  · rfl
  · exact Store.finishTakes_wf h

theorem Move.memory {s t : State} (h : Move s t) (kept : s.memoryCanonical) : t.memoryCanonical := by
  cases h with
  | atom h => exact h.memory kept
  | outside h =>
    obtain ⟨_, _, _, _, _, _, _, store, _⟩ := h
    rwa [State.memoryCanonical, store]
  | start warm => exact Store.atStart_wf warm kept
  | losePower => exact kept

/-- Settles O9: the blocks change take memory only by writes of records, each of which keeps the form, and a cold start clears it. -/
theorem stepKeepsTakeMemoryCanonical : Obligations.StepKeepsTakeMemoryCanonical := fun _ _ kept h =>
  step_keeps (P := State.memoryCanonical) Move.memory (fun _ _ => id) kept h

/-! ### The rail record -/

theorem Atom.rail {s t : State} (h : Atom s t) (kept : s.rail.consistent) : t.rail.consistent := by
  cases h
  case setRail r _ _ hr => exact hr kept
  case railMoves r hr => simpa using hr kept
  all_goals simpa using kept

/-- A start leaves the rail at an end, UNKNOWN or in SWITCH_FAULT, and a recorded state among the first three (R110). -/
theorem Rail.consistent.atStart {r : Rail} (h : r.consistent) (warm : Bool) (pins : Pins) (now : Time) :
    (r.atStart warm pins now).consistent := by
  obtain ⟨resting, low, high, least, most⟩ := h.ranges
  have learned : 400 ≤ r.learnedAtStart warm ∧ r.learnedAtStart warm ≤ 4000 := by
    simp only [Rail.learnedAtStart]
    split
    exacts [⟨low, high⟩, by decide]
  have place : ((r.placeAtStart warm pins).1.moving = false ∧ (r.placeAtStart warm pins).1 ≠ .waitQuiet) ∧
      -32768 ≤ (r.placeAtStart warm pins).2.1 ∧ (r.placeAtStart warm pins).2.1 ≤ 32767 := by
    have count : -32768 ≤ r.countAtStart warm ∧ r.countAtStart warm ≤ 32767 := by
      simp only [Rail.countAtStart]
      split
      exacts [⟨least, most⟩, by decide]
    simp only [Rail.placeAtStart]
    split
    · exact ⟨⟨rfl, nofun⟩, count⟩
    · split
      · exact ⟨⟨rfl, nofun⟩, by decide⟩
      · split
        · refine ⟨⟨rfl, nofun⟩, ?_⟩
          split
          exacts [⟨least, most⟩, by decide]
        · refine ⟨?_, count⟩
          split
          · obtain e | e | e := resting <;> simp [e, RailState.moving]
          · exact ⟨rfl, nofun⟩
  obtain ⟨⟨still, awake⟩, count⟩ := place
  exact .of_rest still awake rfl rfl rfl rfl ⟨restingAfter_range _ (.inr (.inr rfl)), learned.1, learned.2, count⟩

theorem Move.rail {s t : State} (h : Move s t) (kept : s.rail.consistent) : t.rail.consistent := by
  cases h with
  | atom h => exact h.rail kept
  | outside h =>
    obtain ⟨_, _, _, _, _, rail, _⟩ := h
    rwa [rail]
  | start warm cause now pins => exact Rail.consistent.atStart kept warm pins now
  | losePower => exact .of_rest rfl nofun rfl rfl rfl rfl (Rail.consistent.ranges (r := s.rail) kept)

/-- The motor is driven only in a run (R91). -/
theorem Rail.consistent.duty {r : Rail} (h : r.consistent) (driven : r.duty ≠ 0) : r.state = .engaging ∨ r.state = .retracting := by
  have runs : r.run.isSome = true := by
    cases run : r.run with
    | none => simp [Rail.duty, run] at driven
    | some x => rfl
  have moves := h.run_isSome_iff.mp runs
  revert moves
  cases r.state <;> simp [RailState.moving]

/-- Settles O14. -/
theorem stepKeepsTheRailRecord : Obligations.StepKeepsTheRailRecord := fun _ _ kept h =>
  have after := step_keeps (P := fun s => s.rail.consistent) Move.rail (fun _ _ => id) kept h
  ⟨after, after.duty⟩

/-! ### The Transport -/

theorem Atom.expected {s t : State} (h : Atom s t) (kept : s.transport.expectedKept) : t.transport.expectedKept := by
  cases h
  case setTransport x hx => exact hx kept
  all_goals simpa using kept

theorem Transport.initial_expectedKept : Transport.initial.expectedKept := Transport.expectedKept_of_nil rfl

theorem Move.expected {s t : State} (h : Move s t) (kept : s.transport.expectedKept) : t.transport.expectedKept := by
  cases h with
  | atom h => exact h.expected kept
  | outside h =>
    obtain ⟨_, _, _, _, _, _, _, _, transport, _⟩ := h
    rwa [transport]
  | start => exact Transport.initial_expectedKept
  | losePower => exact Transport.initial_expectedKept

/-- Settles O16. -/
theorem stepKeepsTheExpectedSet : Obligations.StepKeepsTheExpectedSet := fun _ _ kept h =>
  step_keeps (P := fun s => s.transport.expectedKept) Move.expected (fun _ _ => id) kept h

/-! ### The Audio Stage -/

theorem State.mutesKept_congr {s t : State} (rail : t.rail = s.rail) (audio : t.audio = s.audio) (kept : s.mutesKept) :
    t.mutesKept := by
  rwa [State.mutesKept, rail, audio]

/-- The rail conditions are handed on as they stand, with RAIL_NOT_ENGAGED and RAIL_MOVING judged by them (R105, R118). -/
theorem State.railHandOn_mutesKept {s : State} (mutes : s.audio.mutesTrue) : s.railHandOn.mutesKept :=
  ⟨rfl, rfl, rfl, by simp_all [State.railHandOn, State.modAudio, Audio.handOn, Audio.judgeRail, Audio.setAlert, Audio.mutesTrue]⟩

theorem Atom.mutes {s t : State} (h : Atom s t) (kept : s.mutesKept) : t.mutesKept := by
  obtain ⟨moving, engaged, requested, mutes⟩ := id kept
  cases h
  case setRail r state alert hr =>
    exact ⟨by simp [state, moving], by simp [state, engaged], by simp [alert, requested], mutes⟩
  case railMoves r hr => exact State.railHandOn_mutesKept mutes
  case setAudio a steady =>
    obtain ⟨sameMoving, sameEngaged, sameAlert, mutesStay, _⟩ := steady
    exact ⟨sameMoving.trans moving, sameEngaged.trans engaged, sameAlert.trans requested, mutesStay mutes⟩
  all_goals exact State.mutesKept_congr (by simp) (by simp) kept

theorem Audio.atStart_mutes (pins : Pins) (r : Rail) :
    (Audio.atStart pins r).moving = r.state.moving ∧ (Audio.atStart pins r).engaged = decide (r.state = .engaged) ∧
      (Audio.atStart pins r).alertRequested = r.alertRequested ∧ (Audio.atStart pins r).mutesTrue := ⟨rfl, rfl, rfl, rfl⟩

theorem Move.mutes {s t : State} (h : Move s t) (kept : s.mutesKept) : t.mutesKept := by
  cases h with
  | atom h => exact h.mutes kept
  | outside h =>
    obtain ⟨_, _, _, _, _, rail, audio, _⟩ := h
    exact State.mutesKept_congr rail audio kept
  | start warm cause now pins => exact Audio.atStart_mutes pins _
  | losePower => exact ⟨rfl, rfl, rfl, rfl⟩

theorem Audio.handOn_inRange {a : Audio} (moving engaged alert : Bool) (h : a.inRange) : (a.handOn moving engaged alert).inRange := h

theorem Atom.audioRange {s t : State} (h : Atom s t) (kept : s.audio.inRange) : t.audio.inRange := by
  cases h
  case railMoves r hr => exact Audio.handOn_inRange _ _ _ kept
  case setAudio a steady =>
    obtain ⟨_, _, _, _, ranges⟩ := steady
    exact ranges kept
  all_goals simpa using kept

theorem Audio.initial_inRange : Audio.initial.inRange := by simp [Audio.inRange, Audio.initial, Metro.initial]

theorem Move.audioRange {s t : State} (h : Move s t) (kept : s.audio.inRange) : t.audio.inRange := by
  cases h with
  | atom h => exact h.audioRange kept
  | outside h =>
    obtain ⟨_, _, _, _, _, _, audio, _⟩ := h
    rwa [audio]
  | start => exact Audio.initial_inRange
  | losePower => exact Audio.initial_inRange

/-- Settles O15: the stage's own moves keep the marks true and the numbers in range, and a move of the rail hands its conditions on. -/
theorem stepKeepsTheAudioStage : Obligations.StepKeepsTheAudioStage :=
  ⟨fun _ _ kept h => step_keeps (P := State.mutesKept) Move.mutes (fun _ _ => id) kept h,
   fun _ _ kept h => step_keeps (P := fun s => s.audio.inRange) Move.audioRange (fun _ _ => id) kept h⟩

end Sys2Proof.Machine
end

section
/-! SUPPORT. What the moves leave of the stroke records and of the key line sets. -/

namespace Sys2Proof.Machine

open Sys2Proof

/-! ### The Stroke Analyzer's judgement -/

/-- A key that is held down at a strike or past it: STRUCK or REARMED (R62). -/
def KeyState.struckOn (x : KeyState) : Prop := x = .struck ∨ x = .rearmed

/-- The state a judged sample leaves a key in, by what the sample finds (R28 to R33). -/
def StrokeEvent.fits (before after : KeyState) : StrokeEvent → Prop
  | .nothing => after.isStroke = true ∧ (before.struckOn → after.struckOn)
  | .strike _ _ => after = .struck
  | .release _ _ => after = .rest

section Judge

variable (st : Strokes) (l : LineSet) (p q : Plausible) (k : Key)

theorem Key.slowChecked_state (limit : Nat) : (k.slowChecked limit q).state = k.state := by
  unfold Key.slowChecked
  split <;> rfl

theorem Strokes.inRest_fits (rest : k.state = .rest) : (st.inRest l p q k).2.fits .rest (st.inRest l p q k).1.state := by
  simp only [Strokes.inRest]
  repeat' split
  · exact ⟨rfl, nofun⟩
  · rfl
  · exact ⟨by rw [rest]; rfl, nofun⟩

theorem Strokes.inDescending_fits (t : Timing) (state : k.state = .descending) :
    (st.inDescending l p q k t).2.fits .descending (st.inDescending l p q k t).1.state := by
  simp only [Strokes.inDescending]
  repeat' split
  · rfl
  · exact ⟨rfl, nofun⟩
  · exact ⟨by rw [state]; rfl, nofun⟩

theorem Strokes.throughRearm_fits (before : KeyState) :
    (st.throughRearm l p q k).2.fits before (st.throughRearm l p q k).1.state := by
  simp only [Strokes.throughRearm]
  split
  · rfl
  · exact ⟨rfl, fun _ => .inr rfl⟩

theorem Strokes.inStruck_fits (state : k.state = .struck) : (st.inStruck l p q k).2.fits .struck (st.inStruck l p q k).1.state := by
  simp only [Strokes.inStruck]
  split
  · exact st.throughRearm_fits l p q k _
  · exact ⟨by rw [state]; rfl, fun _ => .inl state⟩

theorem Strokes.inRearmed_fits (t : Timing) (state : k.state = .rearmed) :
    (st.inRearmed l p q k t).2.fits .rearmed (st.inRearmed l p q k t).1.state := by
  have stays {x : Key} (h : x.state = k.state) : StrokeEvent.nothing.fits .rearmed x.state :=
    ⟨by rw [h, state]; rfl, fun _ => .inr (h.trans state)⟩
  simp only [Strokes.inRearmed]
  repeat' split
  · rfl
  · exact st.throughRearm_fits l p q k _
  · exact stays rfl
  · rfl
  · exact stays rfl
  · rfl
  · exact stays rfl
  · exact stays rfl

theorem Strokes.judgeState_fits (inStroke : k.state.isStroke = true) :
    (st.judgeState p q k).2.fits k.state (st.judgeState p q k).1.state := by
  have stays (e : k.state.isStroke = true) : StrokeEvent.nothing.fits k.state k.state := ⟨e, id⟩
  simp only [Strokes.judgeState]
  split
  case h_1 state => rw [state]; exact st.inRest_fits _ p q k state
  case h_2 state => rw [state]; exact st.inStruck_fits _ p q k state
  case h_3 state =>
    rw [state]
    split
    · exact st.inDescending_fits _ p q _ _ ((k.slowChecked_state q _).trans state)
    · exact state ▸ stays inStroke
  case h_4 state =>
    rw [state]
    split
    · exact st.inRearmed_fits _ p q _ _ ((k.slowChecked_state q _).trans state)
    · exact state ▸ stays inStroke
  all_goals exact stays inStroke

/-- A judged sample of a key in a stroke state leaves it in one (R28 to R33). -/
theorem Strokes.judge_fits (inStroke : k.state.isStroke = true) : (st.judge q k).2.fits k.state (st.judge q k).1.state := by
  simp only [Strokes.judge]
  split
  · exact st.judgeState_fits _ q k inStroke
  · exact ⟨inStroke, id⟩

theorem StrokeEvent.fits.isStroke {e : StrokeEvent} {before after : KeyState} (h : e.fits before after) : after.isStroke = true := by
  cases e with
  | nothing => exact h.1
  | strike => cases (h : after = _); rfl
  | release => cases (h : after = _); rfl

end Judge

/-! ### The records of the keys -/

@[simp] theorem State.key_releasePrevious (s : State) (j : Nat) : s.releasePrevious.key j = s.key j :=
  State.key_congr (by simp) j

theorem State.key_discardStroke (x : KeyState) (k j : Nat) (s : State) :
    (s.discardStroke x k).key j = if j = k ∧ 1 ≤ k ∧ k ≤ 88 then (s.key k).leaveStroke x else s.key j := by
  rw [State.discardStroke, State.key_releasePrevious, State.key_setKey]

theorem State.key_takeStroke (k j : Nat) (q : Plausible) (s : State) :
    (s.takeStroke k q).key j =
      if j = k ∧ 1 ≤ k ∧ k ≤ 88 then (s.strokes.judge q { s.key k with glitchRun := 0 }).1 else s.key j := by
  rw [State.takeStroke, State.key_releasePrevious, State.key_setKey]

/-- A number that names no key reads as a key after a cold start. -/
theorem State.key_outside (s : State) {k : Nat} (h : ¬(1 ≤ k ∧ k ≤ 88)) : s.key k = Key.initial := by
  have : ¬slotOf k < 88 := fun hk => h ((slotOf_lt (by omega)).1 hk)
  have none : s.scanner.keys[slotOf k]? = none := by simp; omega
  simp [State.key, none]

theorem State.key_changeLines (l : LineSet) (j : Nat) (s : State) : (s.changeLines l).key j = (s.key j).keepLines := by
  rw [State.changeLines, State.key_releasePrevious]
  simp only [State.key, Vector.getElem?_map]
  cases s.scanner.keys[slotOf j]? <;> rfl

theorem Key.leaveStroke_recordKept (x : KeyState) (k : Key) : (k.leaveStroke x).recordKept := fun _ => ⟨rfl, rfl, rfl, rfl⟩

theorem Key.recordKept_of_stroke {k : Key} (h : k.state.isStroke = true) : k.recordKept := fun e => by simp [h] at e

theorem Key.recordKept.of_same {x k : Key} (h : k.recordKept) (same : x.sameStroke k) : x.recordKept := by
  obtain ⟨state, timing, slow, lines, plausible⟩ := same
  rwa [Key.recordKept, state, timing, slow, lines, plausible]

theorem Key.recordKept.keepLines {k : Key} (h : k.recordKept) : k.keepLines.recordKept := by
  rw [Key.keepLines]
  split
  next inFlight => exact Key.recordKept_of_stroke (by revert inFlight; cases k.state <;> simp [KeyState.inFlight, KeyState.isStroke])
  · exact h

theorem State.recordsKept.setKey {s : State} (h : s.recordsKept) {k : Nat} {x : Key} (hx : x.recordKept) : (s.setKey k x).recordsKept := by
  intro j
  rw [State.key_setKey]
  split
  exacts [hx, h j]

theorem State.recordsKept.of_scanner {s t : State} (h : s.recordsKept) (scanner : t.scanner = s.scanner) : t.recordsKept :=
  fun j => State.key_congr scanner j ▸ h j

theorem State.recordsKept.releasePrevious {s : State} (h : s.recordsKept) : s.releasePrevious.recordsKept := h.of_scanner (by simp)

theorem State.recordsKept.discardStroke {s : State} (h : s.recordsKept) (x : KeyState) (k : Nat) : (s.discardStroke x k).recordsKept :=
  (h.setKey (Key.leaveStroke_recordKept x (s.key k))).releasePrevious

theorem Atom.records {s t : State} (h : Atom s t) (kept : s.recordsKept) : t.recordsKept := by
  cases h
  case noteKey k x same => exact State.recordsKept.setKey kept (Key.recordKept.of_same (kept k) same)
  case setScanner x same => exact fun j => by simpa [State.key, same] using kept j
  case leaveCapture k =>
    rw [State.leaveCapture]
    split
    exacts [State.recordsKept.setKey kept (Key.leaveStroke_recordKept _ _), kept]
  case enterScanner x k idle => exact State.recordsKept.discardStroke kept x k
  case endStroke x c k scanner => exact State.recordsKept.of_scanner (State.recordsKept.discardStroke kept x k) (by simp)
  case recover k fault =>
    refine State.recordsKept.setKey kept (fun _ => ?_)
    exact kept k (by rw [fault]; rfl)
  case beginStroke k x rest idle => exact State.recordsKept.setKey kept (Key.recordKept_of_stroke (by rw [rest]; rfl))
  case stroke k q inStroke =>
    have judged := (s.strokes.judge_fits q { s.key k with glitchRun := 0 } inStroke).isStroke
    have taken : (s.takeStroke k q).recordsKept := (State.recordsKept.setKey kept (Key.recordKept_of_stroke judged)).releasePrevious
    exact taken.of_scanner (by simp)
  case changeLines l formed => exact fun j => (s.key_changeLines l j) ▸ Key.recordKept.keepLines (kept j)
  all_goals exact State.recordsKept.of_scanner kept (by simp)

theorem Key.initial_recordKept : Key.initial.recordKept := fun _ => ⟨rfl, rfl, rfl, rfl⟩

/-- The record of every key after a start of either kind is discarded (R22). -/
theorem State.recordsKept_of_atStart {s t : State} (warm : Bool) (h : t.scanner = s.scanner.atStart warm) : t.recordsKept := by
  intro j
  cases warm
  · have initial : t.key j = Key.initial := by
      simp only [State.key, h, Scanner.atStart, Scanner.initial, Bool.false_eq_true, if_false, Vector.getElem?_replicate]
      split <;> rfl
    rw [initial]
    exact Key.initial_recordKept
  · simp only [State.key, h, Scanner.atStart, if_true, Vector.getElem?_map]
    cases s.scanner.keys[slotOf j]? <;> exact fun _ => ⟨rfl, rfl, rfl, rfl⟩

theorem Move.records {s t : State} (h : Move s t) (kept : s.recordsKept) : t.recordsKept := by
  cases h with
  | atom h => exact h.records kept
  | outside h =>
    obtain ⟨scanner, _⟩ := h
    exact State.recordsKept.of_scanner kept scanner
  | start warm => exact State.recordsKept_of_atStart (s := s) warm rfl
  | losePower => exact State.recordsKept_of_atStart (s := s) true rfl

/-! ### The key line sets -/

theorem Strokes.linesKept.of_same {x y : Strokes} (h : y.linesKept) (current : x.current = y.current)
    (previous : x.previous = y.previous) : x.linesKept := by
  rwa [Strokes.linesKept, current, previous]

theorem State.releasePrevious_linesKept {s : State} (h : s.strokes.linesKept) : s.releasePrevious.strokes.linesKept := by
  rw [State.releasePrevious]
  split
  exacts [⟨h.1, fun _ e => nomatch e⟩, h]

theorem State.discardStroke_linesKept {s : State} (h : s.strokes.linesKept) (x : KeyState) (k : Nat) :
    (s.discardStroke x k).strokes.linesKept := State.releasePrevious_linesKept (s := s.setKey k _) (by simpa using h)

theorem State.takeStroke_linesKept {s : State} (h : s.strokes.linesKept) (k : Nat) (q : Plausible) :
    (s.takeStroke k q).strokes.linesKept := State.releasePrevious_linesKept (s := s.setKey k _) (by simpa using h)

theorem Atom.lines {s t : State} (h : Atom s t) (kept : s.strokes.linesKept) : t.strokes.linesKept := by
  cases h
  case setStrokes x current previous => exact kept.of_same current previous
  case changeLines l formed =>
    refine State.releasePrevious_linesKept ⟨formed, fun x e => ?_⟩
    cases e
    exact kept.1
  case enterScanner x k idle => exact State.discardStroke_linesKept kept x k
  case endStroke x c k scanner => simpa using State.discardStroke_linesKept kept x k
  case stroke k q inStroke => simpa using State.takeStroke_linesKept kept k q
  all_goals simpa using kept

theorem Strokes.atStart_linesKept (warm : Bool) (x : Strokes) : (x.atStart warm).linesKept := by
  cases warm <;> exact ⟨rfl, fun _ e => nomatch e⟩

theorem Move.lines {s t : State} (h : Move s t) (kept : s.strokes.linesKept) : t.strokes.linesKept := by
  cases h with
  | atom h => exact h.lines kept
  | outside h =>
    obtain ⟨_, strokes, _⟩ := h
    rwa [strokes]
  | start warm => exact Strokes.atStart_linesKept warm _
  | losePower => exact Strokes.atStart_linesKept true _

/-- Settles O10: a key leaves the stroke states with its record discarded, and a KEY_LINES change brings a well-formed set. -/
theorem stepKeepsStrokeRecords : Obligations.StepKeepsStrokeRecords :=
  ⟨fun _ _ kept h => step_keeps (P := State.recordsKept) Move.records (fun _ _ => id) kept h,
   fun _ _ kept h => step_keeps (P := fun s => s.strokes.linesKept) Move.lines (fun _ _ => id) kept h⟩

end Sys2Proof.Machine
end

section
/-! SUPPORT. What the moves leave of owners, released marks and the Sostenuto Set (R56, R62). -/

namespace Sys2Proof.Machine

open Sys2Proof

/-! ### The intents, seen in the Sounding Table -/

/-- Owner and released mark of key `j` are the same in both states. -/
def State.soundsSame (s t : State) (j : Nat) : Prop :=
  (t.sound j).owner = (s.sound j).owner ∧ (t.sound j).released = (s.sound j).released

/-- Key `k` takes an owner and a released mark, the Sostenuto Set becomes `l`, and the other keys stay. -/
structure State.soundsAs (s t : State) (k : Nat) (owner : Option Source) (released : Bool) (l : List Nat) : Prop where
  set : t.router.sostenutoSet = l
  owner : (t.sound k).owner = owner
  released : (t.sound k).released = released
  others : ∀ j, j ≠ k → s.soundsSame t j

/-- What an ON intent makes of the Sounding Table: nothing, key `k` SOUNDING for the source, or, refused at a restrike, key `k` SILENT
and out of the Sostenuto Set (R58, R59). -/
def State.hears (s t : State) (k : Nat) (source : Source) : Prop :=
  s.sameSounding t ∨ s.soundsAs t k (some source) false s.router.sostenutoSet ∨
    s.soundsAs t k none false (removeNum k s.router.sostenutoSet)

section Intents

variable {s t u : State} {k : Nat}

theorem State.soundsAs.of_same {owner : Option Source} {released : Bool} {l : List Nat} (same : s.sameSounding t)
    (h : t.soundsAs u k owner released l) : s.soundsAs u k owner released l :=
  ⟨h.set, h.owner, h.released, fun j hj => ⟨(h.others j hj).1.trans (same.2 j).1, (h.others j hj).2.trans (same.2 j).2⟩⟩

theorem State.soundsAs.then_same {owner : Option Source} {released : Bool} {l : List Nat} (h : s.soundsAs t k owner released l)
    (same : t.sameSounding u) : s.soundsAs u k owner released l :=
  ⟨same.1.trans h.set, (same.2 k).1.trans h.owner, (same.2 k).2.trans h.released,
    fun j hj => ⟨(same.2 j).1.trans (h.others j hj).1, (same.2 j).2.trans (h.others j hj).2⟩⟩

/-- An admitted NOTE_ON makes its key sound (R58, R59); a number that names no key has no entry. -/
theorem State.setSound_hears (source : Source) (v : Nat) (same : s.sameSounding t) :
    s.hears (t.setSound k (.sounded source v)) k source := by
  by_cases key : 1 ≤ k ∧ k ≤ 88
  · refine .inr (.inl (.of_same same ⟨?_, ?_, ?_, fun j hj => ?_⟩))
    · exact same.1
    · simp [State.sound_setSound, key, SoundEntry.sounded]
    · simp [State.sound_setSound, key, SoundEntry.sounded]
    · simp [State.soundsSame, State.sound_setSound, hj]
  · refine .inl (State.sameSounding_trans same ⟨rfl, fun j => ?_⟩)
    simp [State.sound_setSound, key]

theorem State.silence_sound (j : Nat) (s : State) : (s.silence k).sound j = if j = k then (s.sound k).silenced else s.sound j := by
  rw [State.silence, State.sound_setSound]
  by_cases key : 1 ≤ k ∧ k ≤ 88
  · simp [key]
  · by_cases hj : j = k
    · subst hj
      simp [key, s.sound_outside key, SoundEntry.silenced, SoundEntry.initial]
    · simp [hj]

theorem State.silence_soundsAs (k : Nat) (s : State) : s.soundsAs (s.silence k) k none false s.router.sostenutoSet :=
  ⟨rfl, by rw [State.silence_sound, if_pos rfl]; rfl, by rw [State.silence_sound, if_pos rfl]; rfl,
    fun j hj => by simp [State.soundsSame, State.silence_sound, hj]⟩

theorem State.soundsAs.leave {owner : Option Source} {released : Bool} {l : List Nat} (h : s.soundsAs t k owner released l) :
    s.soundsAs (t.leaveSostenuto k) k owner released (removeNum k l) :=
  ⟨congrArg (removeNum k) h.set, h.owner, h.released, h.others⟩

theorem State.sameSounding_countDropped (s : State) : s.sameSounding s.countDropped := ⟨rfl, fun _ => ⟨rfl, rfl⟩⟩

theorem State.onSilent_hears (k v : Nat) (source : Source) (transit : Bool) (m : Time) (s : State) :
    s.hears (s.onSilent k v source transit m) k source := by
  have same := State.sameSounding_offerNote (.noteOn k v source { transit := transit } m) k none s
  simp only [State.onSilent]
  split
  · exact State.setSound_hears source v same
  · exact .inl (State.sameSounding_trans same (State.sameSounding_countDropped _))
  · exact .inl same

theorem State.onRestrike_hears (k v : Nat) (owner source : Source) (transit : Bool) (m : Time) (s : State) :
    s.hears (s.onRestrike k v owner source transit m) k source := by
  have first : s.sameSounding (s.restrikeOff k owner m) := by
    rw [State.restrikeOff]
    split
    exacts [State.sameSounding_offerNote _ _ _ s, State.sameSounding_refl s]
  have same := State.sameSounding_trans first
    (State.sameSounding_offerNote (.noteOn k v source { restrike := true, transit := transit } m) k none (s.restrikeOff k owner m))
  simp only [State.onRestrike]
  split
  · exact State.setSound_hears source v same
  · have silent := State.soundsAs.of_same same (State.silence_soundsAs k _).leave
    exact .inr (.inr (same.1 ▸ silent.then_same (State.sameSounding_countDropped _)))
  · exact .inl same

theorem State.onIntent_hears (k v : Nat) (source : Source) (transit : Bool) (m : Time) (s : State) :
    s.hears (s.onIntent k v source transit m) k source := by
  rw [State.onIntent]
  split
  exacts [s.onSilent_hears k v source transit m, s.onRestrike_hears k v _ source transit m]

theorem State.silenceWith_soundsAs (k v : Nat) (o : Source) (f : NoteFlags) (c : Option Cause) (m : Time) (s : State) :
    s.soundsAs (s.silenceWith k v o f c m) k none false s.router.sostenutoSet := by
  obtain ⟨set, sounds⟩ := State.silenceWith_sound k v o f c m s
  exact ⟨set, by simp [sounds k], by simp [sounds k], fun j hj => by simp [State.soundsSame, sounds j, hj]⟩

/-- What an OFF intent makes of the Sounding Table: nothing, a released member of the Sostenuto Set, or, where no sostenuto holds the
key, key `k` SILENT (R60). -/
theorem State.offIntent_sounds (k v : Nat) (source : Source) (m : Time) (s : State) :
    (s.sameSounding (s.offIntent k v source m) ∧ (s.sound k).owner ≠ some source) ∨
    (k ∈ s.router.sostenutoSet ∧ s.pedals.sostenuto.effective = true ∧
      s.soundsAs (s.offIntent k v source m) k (some source) true s.router.sostenutoSet) ∨
    (¬(k ∈ s.router.sostenutoSet ∧ s.pedals.sostenuto.effective = true) ∧
      s.soundsAs (s.offIntent k v source m) k none false s.router.sostenutoSet) := by
  rw [State.offIntent]
  split
  next silent => exact .inl ⟨⟨rfl, fun _ => ⟨rfl, rfl⟩⟩, by simp [silent]⟩
  next owner sounding =>
    have key : 1 ≤ k ∧ k ≤ 88 := by
      by_contra outside
      simp [s.sound_outside outside, SoundEntry.initial] at sounding
    split
    next foreign => exact .inl ⟨⟨rfl, fun _ => ⟨rfl, rfl⟩⟩, by simpa [sounding] using foreign⟩
    next own =>
      obtain rfl : owner = source := by simpa using own
      split
      next held =>
        obtain ⟨member, on⟩ : k ∈ s.router.sostenutoSet ∧ s.pedals.sostenuto.effective = true := by simpa using held
        refine .inr (.inl ⟨member, on, rfl, ?_, ?_, fun j hj => ?_⟩)
        · simp [State.sound_setSound, key, sounding]
        · simp [State.sound_setSound, key]
        · simp [State.soundsSame, State.sound_setSound, hj]
      next unheld => exact .inr (.inr ⟨by simpa using unheld, s.silenceWith_soundsAs k v owner {} none m⟩)

/-- What a FORCE_OFF makes of the Sounding Table: nothing of a SILENT key or one of another owner, or key `k` SILENT and out of the
Sostenuto Set (R61). -/
theorem State.forceOff_sounds (c : Cause) (q : Option Source) (m : Time) (k : Nat) (s : State) :
    (s.forceOff c q m k = s ∧ ∀ owner, (s.sound k).owner = some owner → q ≠ none ∧ q ≠ some owner) ∨
    s.soundsAs (s.forceOff c q m k) k none false (removeNum k s.router.sostenutoSet) := by
  rw [State.forceOff]
  split
  next silent => exact .inl ⟨rfl, by simp [silent]⟩
  next owner sounding =>
    split
    · have silent := (s.leaveSostenuto k).silenceWith_soundsAs k 64 owner { forced := true } (some c) m
      exact .inr ⟨silent.set, silent.owner, silent.released, silent.others⟩
    next other => exact .inl ⟨rfl, by simpa [sounding, not_or] using other⟩

/-! ### The sostenuto edges -/

/-- One member at an off edge: a released member that sounds becomes SILENT (R64). -/
theorem State.sostenutoRelease_sounds (m : Time) (s : State) (k : Nat) :
    (s.sostenutoRelease m k = s ∧ ((s.sound k).owner = none ∨ (s.sound k).released = false)) ∨
    s.soundsAs (s.sostenutoRelease m k) k none false s.router.sostenutoSet := by
  rw [State.sostenutoRelease]
  split
  next silent => exact .inl ⟨rfl, .inl silent⟩
  next owner sounding =>
    split
    · exact .inr (s.silenceWith_soundsAs k 64 owner {} none m)
    next kept => exact .inl ⟨rfl, .inr (by simpa using kept)⟩

/-- Over the members of an off edge, an entry stays, or becomes SILENT with its mark clear; a released member that sounded does not
stay (R64). -/
theorem State.sostenutoRelease_foldl (m : Time) (l : List Nat) (s : State) (j : Nat) :
    (s.soundsSame (l.foldl (State.sostenutoRelease m) s) j ∧ (j ∈ l → (s.sound j).owner = none ∨ (s.sound j).released = false)) ∨
    (((l.foldl (State.sostenutoRelease m) s).sound j).owner = none ∧
      ((l.foldl (State.sostenutoRelease m) s).sound j).released = false) := by
  induction l generalizing s with
  | nil => exact .inl ⟨⟨rfl, rfl⟩, fun h => by simp at h⟩
  | cons k rest ih =>
    simp only [List.foldl_cons]
    rcases ih (s.sostenutoRelease m k) with ⟨⟨owner, released⟩, unreleased⟩ | silent
    · rcases s.sostenutoRelease_sounds m k with ⟨same, member⟩ | ⟨_, silent, clear, others⟩
      · rw [same] at owner released unreleased ⊢
        refine .inl ⟨⟨owner, released⟩, fun h => ?_⟩
        rcases List.mem_cons.mp h with rfl | later
        exacts [member, unreleased later]
      · by_cases hj : j = k
        · subst hj
          exact .inr ⟨owner.trans silent, released.trans clear⟩
        · obtain ⟨ownerStays, releasedStays⟩ := others j hj
          refine .inl ⟨⟨owner.trans ownerStays, released.trans releasedStays⟩, fun h => ?_⟩
          rw [← ownerStays, ← releasedStays]
          exact unreleased ((List.mem_cons.mp h).resolve_left hj)
    · exact .inr silent

theorem mem_keyNumbers (k : Nat) : k ∈ keyNumbers ↔ 1 ≤ k ∧ k ≤ 88 := by
  simp only [keyNumbers, List.mem_map, List.mem_range]
  constructor
  · rintro ⟨n, _, rfl⟩
    omega
  · exact fun h => ⟨k - 1, by omega, by omega⟩

theorem mem_removeNum (x y : Nat) (l : List Nat) : x ∈ removeNum y l ↔ x ∈ l ∧ x ≠ y := by simp [removeNum]

/-- The set of SOUNDING keys (R63). -/
theorem State.mem_soundingKeys (k : Nat) (s : State) : k ∈ s.soundingKeys ↔ (s.sound k).owner.isSome = true := by
  rw [State.soundingKeys, List.mem_filter, mem_keyNumbers]
  refine ⟨And.right, fun sounding => ⟨?_, sounding⟩⟩
  by_contra outside
  simp [s.sound_outside outside, SoundEntry.initial] at sounding

/-! ### The Sostenuto Set -/

theorem State.sostenutoKept.of_same (kept : s.sostenutoKept) (same : s.sameSounding t)
    (effective : t.pedals.sostenuto.effective = s.pedals.sostenuto.effective) : t.sostenutoKept := by
  obtain ⟨members, empty, released⟩ := kept
  refine ⟨fun j hj => ?_, fun off => ?_, fun j hj => ?_⟩
  · rw [(same.2 j).1]
    exact members j (same.1 ▸ hj)
  · rw [same.1]
    exact empty (effective ▸ off)
  · rw [same.1]
    exact released j ((same.2 j).2 ▸ hj)

/-- An entry of the table is replaced: the set loses the key, or the key sounds; a released mark stays on a member alone. -/
theorem State.sostenutoKept.of_soundsAs {owner : Option Source} {mark : Bool} {l : List Nat} (kept : s.sostenutoKept)
    (h : s.soundsAs t k owner mark l) (effective : t.pedals.sostenuto.effective = s.pedals.sostenuto.effective)
    (within : ∀ j ∈ l, j ∈ s.router.sostenutoSet) (others : ∀ j ≠ k, j ∈ s.router.sostenutoSet → j ∈ l)
    (sounds : k ∈ l → owner.isSome = true) (marked : mark = true → k ∈ l) : t.sostenutoKept := by
  obtain ⟨members, empty, released⟩ := kept
  refine ⟨fun j hj => ?_, fun off => ?_, fun j hj => ?_⟩
  · rw [h.set] at hj
    by_cases key : j = k
    · subst key
      rw [h.owner]
      exact sounds hj
    · rw [(h.others j key).1]
      exact members j (within j hj)
  · rw [h.set, List.eq_nil_iff_forall_not_mem]
    intro j hj
    have none := within j hj
    rw [empty (effective ▸ off)] at none
    simp at none
  · rw [h.set]
    by_cases key : j = k
    · subst key
      exact marked (h.released ▸ hj)
    · exact others j key (released j ((h.others j key).2 ▸ hj))

theorem State.sostenutoKept.of_hears {source : Source} (kept : s.sostenutoKept) (h : s.hears t k source)
    (effective : t.pedals.sostenuto.effective = s.pedals.sostenuto.effective) : t.sostenutoKept := by
  rcases h with same | sounds | refused
  · exact kept.of_same same effective
  · exact kept.of_soundsAs sounds effective (fun _ h => h) (fun _ _ h => h) (fun _ => rfl) (fun e => nomatch e)
  · refine kept.of_soundsAs refused effective (fun j h => ((mem_removeNum j k _).mp h).1)
      (fun j other h => (mem_removeNum j k _).mpr ⟨h, other⟩) (fun h => ?_) (fun e => nomatch e)
    exact absurd rfl ((mem_removeNum k k _).mp h).2

theorem State.sostenutoKept.offIntent (kept : s.sostenutoKept) (k v : Nat) (source : Source) (m : Time) :
    (s.offIntent k v source m).sostenutoKept := by
  rcases s.offIntent_sounds k v source m with ⟨same, _⟩ | ⟨member, _, held⟩ | ⟨unheld, silent⟩
  · exact kept.of_same same (by simp)
  · exact kept.of_soundsAs held (by simp) (fun _ h => h) (fun _ _ h => h) (fun _ => rfl) (fun _ => member)
  · refine kept.of_soundsAs silent (by simp) (fun _ h => h) (fun _ _ h => h) (fun member => ?_) (fun e => nomatch e)
    have off : s.pedals.sostenuto.effective = false := by simpa using fun on => unheld ⟨member, on⟩
    rw [kept.2.1 off] at member
    simp at member

theorem State.sostenutoKept.forceOff (kept : s.sostenutoKept) (c : Cause) (q : Option Source) (m : Time) (k : Nat) :
    (s.forceOff c q m k).sostenutoKept := by
  rcases s.forceOff_sounds c q m k with ⟨same, _⟩ | silent
  · rwa [same]
  · refine kept.of_soundsAs silent (by simp) (fun j h => ((mem_removeNum j k _).mp h).1)
      (fun j other h => (mem_removeNum j k _).mpr ⟨h, other⟩) (fun h => ?_) (fun e => nomatch e)
    exact absurd rfl ((mem_removeNum k k _).mp h).2

/-- At an on edge the members are the SOUNDING keys, and no mark was set before; at an off edge the released members fall SILENT and
the set is emptied (R63, R64). -/
theorem State.sostenutoKept.recomputeSwitch (kept : s.sostenutoKept) (m : Time) : (s.recomputeSwitch m).sostenutoKept := by
  obtain ⟨members, empty, released⟩ := id kept
  simp only [State.recomputeSwitch]
  split
  · exact kept
  next edge =>
    split
    next on =>
      have off : s.pedals.sostenuto.effective = false := by simpa [on] using edge
      have unmarked (j : Nat) : (s.sound j).released ≠ true := fun h => by
        have member := released j h
        rw [empty off] at member
        simp at member
      refine ⟨fun j hj => ?_, fun h => ?_, fun j hj => absurd hj (unmarked j)⟩
      · exact (State.mem_soundingKeys j s).mp hj
      · exact absurd (on.symm.trans h) (by simp)
    next off =>
      refine ⟨fun j hj => by simp [State.sostenutoOff] at hj, fun _ => rfl, fun j hj => ?_⟩
      exfalso
      rcases State.sostenutoRelease_foldl m s.router.sostenutoSet
          (s.modSwitch (fun y => { y with effective := s.pedals.sostenuto.live || s.pedals.sostenuto.playback })) j with
        ⟨⟨_, mark⟩, unreleased⟩ | ⟨_, clear⟩
      · have marked : (s.sound j).released = true := mark.symm.trans hj
        have member := released j marked
        rcases unreleased member with silent | clear
        · have sounding := members j member
          rw [show (s.sound j).owner = none from silent] at sounding
          simp at sounding
        · exact absurd (marked.symm.trans clear) (by simp)
      · exact absurd (hj.symm.trans clear) (by simp)

theorem State.sostenutoKept_of_silent (silent : ∀ j, (t.sound j).owner = none ∧ (t.sound j).released = false)
    (empty : t.router.sostenutoSet = []) : t.sostenutoKept :=
  ⟨fun j hj => by simp [empty] at hj, fun _ => empty, fun j hj => by simp [silent j] at hj⟩

end Intents

theorem State.panic_silent (s : State) (j : Nat) : (s.panic.sound j).owner = none ∧ (s.panic.sound j).released = false := by
  rw [State.panic_sound]
  exact ⟨rfl, rfl⟩

theorem State.panic_set (s : State) : s.panic.router.sostenutoSet = [] := by rw [State.panic_router]; rfl

theorem State.sameSounding_setRouter (s : State) {x : Router} (table : x.table = s.router.table)
    (set : x.sostenutoSet = s.router.sostenutoSet) : s.sameSounding { s with router := x } :=
  ⟨set, fun j => by simp [State.sound, table]⟩

theorem Atom.sostenuto {s t : State} (h : Atom s t) (kept : s.sostenutoKept) : t.sostenutoKept := by
  cases h
  case endStroke x c k scanner =>
    have discarded : (s.discardStroke x k).sostenutoKept :=
      State.sostenutoKept.of_same kept (State.sameSounding_of_router (by simp)) (by simp)
    exact discarded.forceOff c _ _ k
  case stroke k q inStroke =>
    have taken : (s.takeStroke k q).sostenutoKept :=
      State.sostenutoKept.of_same kept (State.sameSounding_of_router (by simp)) (by simp)
    generalize (s.strokes.judge q { s.key k with glitchRun := 0 }).2 = e
    cases e with
    | nothing => exact taken
    | strike v m => exact taken.of_hears (State.onIntent_hears k v .live _ m _) (by simp)
    | release v m => exact taken.offIntent k v .live m
  case setPedals u effective => exact State.sostenutoKept.of_same kept ⟨rfl, fun _ => ⟨rfl, rfl⟩⟩ effective
  case offerTone e => exact State.sostenutoKept.of_same kept (State.sameSounding_offerTone e s) (by simp)
  case recomputeSwitch m => exact State.sostenutoKept.recomputeSwitch kept m
  case onPlayback k v transit m => exact State.sostenutoKept.of_hears kept (State.onIntent_hears k v .playback transit m s) (by simp)
  case offPlayback k v m => exact State.sostenutoKept.offIntent kept k v .playback m
  case forceOff c q m k => exact State.sostenutoKept.forceOff kept c q m k
  case panic => exact State.sostenutoKept_of_silent s.panic_silent s.panic_set
  case setRouter x table set => exact State.sostenutoKept.of_same kept (s.sameSounding_setRouter table set) rfl
  case flushTone => exact State.sostenutoKept.of_same kept (State.sameSounding_clearAnnounced { s with tone := _ }) rfl
  all_goals exact State.sostenutoKept.of_same kept (State.sameSounding_of_router (by simp)) (by simp)

theorem State.sound_initial {s : State} (h : s.router = Router.initial) (j : Nat) : s.sound j = SoundEntry.initial := by
  simp only [State.sound, h, Router.initial, Vector.getElem?_replicate]
  split <;> rfl

theorem Move.sostenuto {s t : State} (h : Move s t) (kept : s.sostenutoKept) : t.sostenutoKept := by
  have started {u : State} (router : u.router = Router.initial) : u.sostenutoKept :=
    State.sostenutoKept_of_silent (fun j => by rw [State.sound_initial router]; exact ⟨rfl, rfl⟩) (by rw [router]; rfl)
  cases h with
  | atom h => exact h.sostenuto kept
  | outside h =>
    obtain ⟨_, _, pedals, router, _⟩ := h
    exact State.sostenutoKept.of_same kept (State.sameSounding_of_router router) (by rw [pedals])
  | start => exact started rfl
  | losePower => exact started rfl

/-- Settles O11, by what each intent and each sostenuto edge makes of one key's entry and of the set. -/
theorem stepKeepsTheSostenutoSet : Obligations.StepKeepsTheSostenutoSet := fun _ _ kept h =>
  step_keeps (P := State.sostenutoKept) Move.sostenuto (fun _ _ => id) kept h

end Sys2Proof.Machine
end

section
/-! SUPPORT. What the moves leave of the keys that sound for a live player (R62). -/

namespace Sys2Proof.Machine

open Sys2Proof

/-- Key `j`, if it sounds with owner LIVE, is held by its key or by sostenuto (R62). -/
def State.heldAt (s : State) (j : Nat) : Prop :=
  (s.sound j).owner = some .live →
    (s.key j).state.struckOn ∨ (j ∈ s.router.sostenutoSet ∧ (s.sound j).released = true)

section Held

variable {s t u : State} {k j : Nat}

theorem State.heldAt_of_owner (h : (s.sound j).owner ≠ some .live) : s.heldAt j := fun live => absurd live h

/-- An entry that stays keeps its key held while the key does not leave STRUCK and REARMED and the set keeps the key. -/
theorem State.heldAt.of_same (held : s.heldAt j) (sounds : s.soundsSame t j)
    (struck : (s.key j).state.struckOn → (t.key j).state.struckOn)
    (member : j ∈ s.router.sostenutoSet → j ∈ t.router.sostenutoSet) : t.heldAt j := by
  obtain ⟨owner, released⟩ := sounds
  intro live
  rcases held (owner ▸ live) with on | ⟨inSet, mark⟩
  exacts [.inl (struck on), .inr ⟨member inSet, released.trans mark⟩]

theorem State.liveHeld.of_same (held : s.liveHeld) (same : s.sameSounding t)
    (struck : ∀ j, (s.key j).state.struckOn → (t.key j).state.struckOn) : t.liveHeld := fun j =>
  State.heldAt.of_same (held j) (same.2 j) (struck j) (fun h => same.1 ▸ h)

/-- A move that leaves the Scanner keeps what it leaves of the Sounding Table. -/
theorem State.liveHeld.of_scanner (held : s.liveHeld) (same : s.sameSounding t) (scanner : t.scanner = s.scanner) : t.liveHeld :=
  held.of_same same (fun j => by rw [State.key_congr scanner]; exact id)

/-- The record of key `k` is replaced in a move that does not take it out of STRUCK and REARMED. -/
theorem State.liveHeld.setKey (held : s.liveHeld) {x : Key} (struck : (s.key k).state.struckOn → x.state.struckOn) :
    (s.setKey k x).liveHeld := by
  refine held.of_same (State.sameSounding_of_router (by simp)) (fun j on => ?_)
  rw [State.key_setKey]
  split
  next h => exact struck (h.1 ▸ on)
  · exact on

/-- One entry changes, and the keys and the other members of the set stay. -/
theorem State.liveHeld.of_soundsAs {owner : Option Source} {mark : Bool} {l : List Nat} (others : ∀ j, j ≠ k → s.heldAt j)
    (h : s.soundsAs t k owner mark l) (scanner : t.scanner = s.scanner)
    (members : ∀ j, j ≠ k → j ∈ s.router.sostenutoSet → j ∈ l)
    (held : owner = some .live → (s.key k).state.struckOn ∨ (k ∈ l ∧ mark = true)) : t.liveHeld := by
  intro j
  by_cases key : j = k
  · subst key
    intro live
    rcases held (h.owner ▸ live) with on | ⟨member, marked⟩
    exacts [.inl ((State.key_congr scanner j).symm ▸ on), .inr ⟨h.set ▸ member, h.released.trans marked⟩]
  · exact State.heldAt.of_same (others j key) (h.others j key) (by rw [State.key_congr scanner]; exact id)
      (fun member => h.set ▸ members j key member)

theorem State.liveHeld.of_hears {source : Source} (others : ∀ j, j ≠ k → s.heldAt j) (own : s.sameSounding t → s.heldAt k)
    (h : s.hears t k source) (scanner : t.scanner = s.scanner) (struck : source = .live → (s.key k).state.struckOn) :
    t.liveHeld := by
  rcases h with same | sounds | refused
  · have held : s.liveHeld := fun j => if key : j = k then key ▸ own same else others j key
    exact held.of_scanner same scanner
  · exact .of_soundsAs others sounds scanner (fun _ _ h => h) (fun e => .inl (struck (by simpa using e)))
  · exact .of_soundsAs others refused scanner (fun j other h => (mem_removeNum j k _).mpr ⟨h, other⟩) (fun e => nomatch e)

/-- An OFF intent of the owner LIVE leaves its key SILENT or held by sostenuto, whatever held it before (R60, R62). -/
theorem State.liveHeld.offIntent (others : ∀ j, j ≠ k → s.heldAt j) (v : Nat) (source : Source) (m : Time)
    (own : source = .live ∨ s.heldAt k) : (s.offIntent k v source m).liveHeld := by
  rcases s.offIntent_sounds k v source m with ⟨same, foreign⟩ | ⟨member, _, held⟩ | ⟨_, silent⟩
  · have kept : s.heldAt k := own.elim (fun e => State.heldAt_of_owner (e ▸ foreign)) id
    have held : s.liveHeld := fun j => if key : j = k then key ▸ kept else others j key
    exact held.of_scanner same (by simp)
  · exact .of_soundsAs others held (by simp) (fun _ _ h => h) (fun _ => .inr ⟨member, rfl⟩)
  · exact .of_soundsAs others silent (by simp) (fun _ _ h => h) (fun e => nomatch e)

/-- A FORCE_OFF that covers the owner LIVE leaves no live note of its key (R61). -/
theorem State.liveHeld.forceOff (others : ∀ j, j ≠ k → s.heldAt j) (c : Cause) (q : Option Source) (m : Time)
    (own : q = some .live ∨ s.heldAt k) : (s.forceOff c q m k).liveHeld := by
  rcases s.forceOff_sounds c q m k with ⟨same, spared⟩ | silent
  · have kept : s.heldAt k := own.elim (fun e live => absurd e (spared _ live).2) id
    have held : s.liveHeld := fun j => if key : j = k then key ▸ kept else others j key
    rwa [same]
  · exact .of_soundsAs others silent (by simp) (fun j other h => (mem_removeNum j k _).mpr ⟨h, other⟩) (fun e => nomatch e)

/-- At an on edge every SOUNDING key becomes a member; at an off edge a member held by its mark alone falls SILENT (R63, R64). -/
theorem State.liveHeld.recomputeSwitch (held : s.liveHeld) (m : Time) : (s.recomputeSwitch m).liveHeld := by
  simp only [State.recomputeSwitch]
  split
  · exact held
  · split
    · intro j live
      refine (held j live).imp_right (fun ⟨_, mark⟩ => ⟨(State.mem_soundingKeys j s).mpr ?_, mark⟩)
      rw [show (s.sound j).owner = some .live from live]
      rfl
    · intro j live
      have scanner : (s.recomputeSwitch m).scanner = s.scanner := by simp
      rcases State.sostenutoRelease_foldl m s.router.sostenutoSet
          (s.modSwitch (fun y => { y with effective := s.pedals.sostenuto.live || s.pedals.sostenuto.playback })) j with
        ⟨⟨owner, _⟩, unreleased⟩ | ⟨silent, _⟩
      · have sounding : (s.sound j).owner = some .live := owner.symm.trans live
        rcases held j sounding with on | ⟨member, mark⟩
        · left
          rw [State.key_congr (s := s) (by simp)]
          exact on
        · rcases unreleased member with silent | clear
          · exact absurd (sounding.symm.trans silent) (by simp)
          · exact absurd (mark.symm.trans clear) (by simp)
      · exact absurd (live.symm.trans silent) (by simp)

theorem State.liveHeld_of_silent (silent : ∀ j, (t.sound j).owner = none) : t.liveHeld := fun j live => by simp [silent j] at live

end Held

theorem Key.keepLines_state (k : Key) : k.keepLines.state = k.state := by
  rw [Key.keepLines]
  split <;> rfl

theorem Key.not_struckOn_of_idle {x : KeyState} (h : x.isStroke = false) : ¬x.struckOn := by
  rintro (rfl | rfl) <;> simp [KeyState.isStroke] at h

/-- Only a key 1..88 is in a stroke state. -/
theorem State.key_of_stroke {s : State} {k : Nat} (h : (s.key k).state.isStroke = true) : 1 ≤ k ∧ k ≤ 88 := by
  by_contra outside
  rw [s.key_outside outside] at h
  exact absurd h (by decide)

theorem Atom.live {s t : State} (h : Atom s t) (held : s.liveHeld) : t.liveHeld := by
  have discarded (x : KeyState) (k j : Nat) (other : j ≠ k) : (s.discardStroke x k).heldAt j := by
    refine State.heldAt.of_same (s := s) (held j) ?_ ?_ (by simp)
    · rw [State.soundsSame, State.sound_congr (s := s) (by simp)]
      exact ⟨rfl, rfl⟩
    · rw [State.key_discardStroke, if_neg (fun h => other h.1)]
      exact id
  cases h
  case noteKey k x same => exact State.liveHeld.setKey held (fun on => by rwa [same.1])
  case setScanner x same =>
    exact State.liveHeld.of_same held (State.sameSounding_of_router rfl) (fun j => by simp [State.key, same])
  case leaveCapture k =>
    rw [State.leaveCapture]
    split
    next capture => exact State.liveHeld.setKey held (fun on => absurd on (Key.not_struckOn_of_idle (by rw [capture]; rfl)))
    · exact held
  case enterScanner x k idle =>
    refine State.liveHeld.of_same held (State.sameSounding_of_router (by simp)) (fun j on => ?_)
    rw [State.key_discardStroke]
    split
    next h => exact absurd (h.1 ▸ on) (Key.not_struckOn_of_idle idle)
    · exact on
  case endStroke x c k scanner => exact .forceOff (discarded x k) c (some .live) s.now (.inl rfl)
  case recover k fault => exact State.liveHeld.setKey held (fun on => absurd on (Key.not_struckOn_of_idle (by rw [fault]; rfl)))
  case beginStroke k x rest idle =>
    exact State.liveHeld.setKey held (fun on => absurd on (Key.not_struckOn_of_idle (by rw [idle]; rfl)))
  case stroke k q inStroke =>
    have fits := s.strokes.judge_fits q { s.key k with glitchRun := 0 } inStroke
    have key := State.key_of_stroke inStroke
    have others (j : Nat) (other : j ≠ k) : (s.takeStroke k q).heldAt j := by
      refine State.heldAt.of_same (s := s) (held j) ?_ ?_ (by simp)
      · rw [State.soundsSame, State.sound_congr (s := s) (by simp)]
        exact ⟨rfl, rfl⟩
      · rw [State.key_takeStroke, if_neg (fun h => other h.1)]
        exact id
    have judged : ((s.takeStroke k q).key k).state = (s.strokes.judge q { s.key k with glitchRun := 0 }).1.state := by
      rw [State.key_takeStroke, if_pos ⟨rfl, key⟩]
    revert fits
    rw [← judged]
    generalize (s.strokes.judge q { s.key k with glitchRun := 0 }).2 = e
    intro fits
    cases e with
    | nothing =>
      refine State.liveHeld.of_same held (State.sameSounding_of_router (by simp [State.routeStroke])) (fun j on => ?_)
      by_cases own : j = k
      · exact own ▸ fits.2 (own ▸ on)
      · rwa [State.routeStroke, State.key_takeStroke, if_neg (fun h => own h.1)]
    | strike v m =>
      exact .of_hears others (fun _ _ => .inl (.inl fits)) (State.onIntent_hears k v .live _ m _) (by simp) (fun _ => .inl fits)
    | release v m => exact .offIntent others v .live m (.inl rfl)
  case changeLines l formed =>
    refine State.liveHeld.of_same held (State.sameSounding_of_router (by simp)) (fun j on => ?_)
    rwa [State.key_changeLines, Key.keepLines_state]
  case offerTone e => exact State.liveHeld.of_scanner held (State.sameSounding_offerTone e s) (by simp)
  case recomputeSwitch m => exact State.liveHeld.recomputeSwitch held m
  case onPlayback k v transit m =>
    exact .of_hears (fun j _ => held j) (fun _ => held k) (State.onIntent_hears k v .playback transit m s) (by simp) (fun e => nomatch e)
  case offPlayback k v m => exact .offIntent (fun j _ => held j) v .playback m (.inr (held k))
  case forceOff c q m k => exact .forceOff (fun j _ => held j) c q m (.inr (held k))
  case panic => exact State.liveHeld_of_silent (fun j => (s.panic_silent j).1)
  case setRouter x table set => exact State.liveHeld.of_scanner held (s.sameSounding_setRouter table set) rfl
  case flushTone => exact State.liveHeld.of_scanner held (State.sameSounding_clearAnnounced { s with tone := _ }) rfl
  all_goals exact State.liveHeld.of_scanner held (State.sameSounding_of_router (by simp)) (by simp)

theorem Move.live {s t : State} (h : Move s t) (held : s.liveHeld) : t.liveHeld := by
  have started {u : State} (router : u.router = Router.initial) : u.liveHeld :=
    State.liveHeld_of_silent (fun j => by rw [State.sound_initial router]; rfl)
  cases h with
  | atom h => exact h.live held
  | outside h =>
    obtain ⟨scanner, _, _, router, _⟩ := h
    exact State.liveHeld.of_scanner held (State.sameSounding_of_router router) scanner
  | start => exact started rfl
  | losePower => exact started rfl

/-- Settles O12: a key leaves STRUCK and REARMED by a release or a forced off, and each silences its live note or leaves it to
sostenuto. -/
theorem stepKeepsLiveNotesHeld : Obligations.StepKeepsLiveNotesHeld := fun _ _ held h =>
  step_keeps (P := State.liveHeld) Move.live (fun _ _ => id) held h

end Sys2Proof.Machine
end

section
/-! SUPPORT. The moves of the Note Router as offers to the two queues, and what they leave of the Tone Queue (R69 to R82). -/

namespace Sys2Proof.Machine

open Sys2Proof Relation.ReflTransGen

/-! ### The Note Router's moves -/

/-- What the Note Router does to the rest of the part: it offers entries, and changes its own table and the effective pedals. -/
inductive Offering : State → State → Prop
  | offerTone (e : ToneEntry) (s : State) : Offering s (s.offerTone e).1
  | panelOffer (e : PanelEntry) (s : State) : Offering s (s.panelOffer e)
  | setRouter (x : Router) (s : State) : Offering s { s with router := x }
  | setPedals (u : PedalUnit) (s : State) : Offering s { s with pedals := u }

abbrev Offerings : State → State → Prop := Relation.ReflTransGen Offering

namespace Offerings

variable {s u : State}

theorem setSound (k : Nat) (e : SoundEntry) (h : Offerings s u) : Offerings s (u.setSound k e) := h.tail (.setRouter _ u)

theorem offerNote (e : ToneEntry) (k : Nat) (c : Option Cause) (h : Offerings s u) : Offerings s (u.offerNote e k c).1 := by
  simp only [State.offerNote]
  split
  exacts [(h.tail (.offerTone e u)).tail (.panelOffer _ _), h.tail (.offerTone e u)]

theorem silence (k : Nat) (h : Offerings s u) : Offerings s (u.silence k) := h.setSound k _

theorem leaveSostenuto (k : Nat) (h : Offerings s u) : Offerings s (u.leaveSostenuto k) := h.tail (.setRouter _ u)

theorem countDropped (h : Offerings s u) : Offerings s u.countDropped := h.tail (.setRouter _ u)

theorem onIntent (k v : Nat) (source : Source) (transit : Bool) (m : Time) (h : Offerings s u) :
    Offerings s (u.onIntent k v source transit m) := by
  have silent : Offerings s (u.onSilent k v source transit m) := by
    have offered := h.offerNote (.noteOn k v source { transit := transit } m) k none
    simp only [State.onSilent]
    split
    exacts [offered.setSound k _, offered.countDropped, offered]
  have restrike (owner : Source) : Offerings s (u.onRestrike k v owner source transit m) := by
    have first : Offerings s (u.restrikeOff k owner m) := by
      rw [State.restrikeOff]
      split
      exacts [h.offerNote _ _ _, h]
    have offered := first.offerNote (.noteOn k v source { restrike := true, transit := transit } m) k none
    simp only [State.onRestrike]
    split
    exacts [offered.setSound k _, ((offered.silence k).leaveSostenuto k).countDropped, offered]
  rw [State.onIntent]
  split
  exacts [silent, restrike _]

theorem silenceWith (k v : Nat) (o : Source) (f : NoteFlags) (c : Option Cause) (m : Time) (h : Offerings s u) :
    Offerings s (u.silenceWith k v o f c m) := by
  simp only [State.silenceWith]
  split
  exacts [(h.silence k).offerNote _ _ _, h.silence k]

theorem offIntent (k v : Nat) (source : Source) (m : Time) (h : Offerings s u) : Offerings s (u.offIntent k v source m) := by
  rw [State.offIntent]
  repeat' split
  exacts [h.tail (.setRouter _ u), h.tail (.setRouter _ u), h.setSound k _, h.silenceWith _ _ _ _ _ _]

theorem forceOff (c : Cause) (q : Option Source) (m : Time) (k : Nat) (h : Offerings s u) : Offerings s (u.forceOff c q m k) := by
  rw [State.forceOff]
  repeat' split
  exacts [h, (h.leaveSostenuto k).silenceWith _ _ _ _ _ _, h]

theorem panic (h : Offerings s u) : Offerings s u.panic := by
  have silent : Offerings s u.silenceAll := h.tail (.setRouter _ u)
  have offered := silent.tail (.offerTone (.allOff u.now) _)
  simp only [State.panic]
  split
  exacts [offered, offered.tail (.panelOffer _ _)]

theorem recomputeSwitch (m : Time) (h : Offerings s u) : Offerings s (u.recomputeSwitch m) := by
  have set (on : Bool) : Offerings s (u.modSwitch (fun y => { y with effective := on })) := h.tail (.setPedals _ u)
  simp only [State.recomputeSwitch]
  repeat' split
  · exact h
  · exact (set _).tail (.setRouter _ _)
  · refine tail (foldl_holds (Offerings s) _ (fun v k hv => ?_) _ _ (set _)) (.setRouter _ _)
    rw [State.sostenutoRelease]
    repeat' split
    exacts [hv, hv.silenceWith _ _ _ _ _ _, hv]

theorem routeStroke (k : Nat) (e : StrokeEvent) (h : Offerings s u) : Offerings s (u.routeStroke k e) := by
  cases e with
  | nothing => exact h
  | strike v m => exact h.onIntent k v _ _ m
  | release v m => exact h.offIntent k v _ m

/-- What every offering keeps, a move of the Note Router keeps. -/
theorem keeps {P : State → Prop} (move : ∀ {s t}, Offering s t → P s → P t) {s t : State} (h : Offerings s t) (hs : P s) : P t := by
  induction h with
  | refl => exact hs
  | tail _ last ih => exact move last ih

end Offerings

/-! ### The Tone Queue -/

namespace Tone.withinLimits

variable {t : Tone}

/-- An entry other than a RESYNC joins below 192, and a NOTE_ON below 168 (R70, R71, R73). -/
theorem enqueue (h : t.withinLimits) {e : ToneEntry} (now : Time) (room : t.queue.length < 192) (noteOn : e.isNoteOn = true → t.queue.length < 168)
    (early : e.mustNotWait = true → e.isAllOff = true) : (t.enqueue e now).withinLimits := by
  obtain ⟨length, noteOns, latched, head⟩ := h
  have ons : t.noteOns ≤ t.queue.length := List.countP_le_length
  refine ⟨?_, ?_, fun _ => by simp [Tone.enqueue], fun burst first => ?_⟩
  · simp only [Tone.enqueue, List.length_append, List.length_singleton]
    omega
  · simp only [Tone.noteOns, Tone.enqueue, List.countP_append, List.countP_singleton] at noteOns ons ⊢
    split
    next on => have := noteOn on; omega
    · omega
  · simp only [Tone.enqueue, Bool.or_eq_true, Bool.and_eq_true, decide_eq_true_eq] at burst ⊢
    cases queue : t.queue with
    | nil =>
      simp only [Tone.headMustNotWait, Tone.enqueue, queue, List.nil_append] at first
      exact .inr ⟨burst, .inr (early first)⟩
    | cons q rest =>
      refine .inl (head burst ?_)
      simpa [Tone.headMustNotWait, Tone.enqueue, queue] using first

/-- One entry in the queue's place is within the limits, and the latch is set with it in BURST mode (R72, R73, R79, R82). -/
theorem replaceWith (t : Tone) (e : ToneEntry) (now : Time) : (t.replaceWith e now).withinLimits := by
  refine ⟨by simp [Tone.replaceWith], ?_, fun _ => by simp [Tone.replaceWith], fun burst _ => by simp_all [Tone.replaceWith]⟩
  simp only [Tone.noteOns, Tone.replaceWith, List.countP_singleton]
  split <;> omega

theorem of_same {x : Tone} (h : t.withinLimits) (queue : x.queue = t.queue) (mode : x.mode = t.mode) (latch : x.latch = t.latch) :
    x.withinLimits := by
  rw [Tone.withinLimits, Tone.noteOns, Tone.headMustNotWait, queue, mode, latch]
  exact h

theorem removeHead (h : t.withinLimits) (now : Time) : (t.removeHead now).withinLimits := by
  obtain ⟨length, noteOns, _, _⟩ := h
  have fewer : ({ t with queue := t.queue.drop 1 } : Tone).noteOns ≤ t.noteOns := (List.drop_sublist 1 t.queue).countP_le
  simp only [Tone.removeHead]
  split
  next empty =>
    have nil : t.queue.drop 1 = [] := by simpa using empty
    refine ⟨by simp [nil], fewer.trans noteOns, nofun, fun _ first => ?_⟩
    simp [Tone.headMustNotWait, nil] at first
  next filled =>
    refine ⟨?_, fewer.trans noteOns, fun _ => by simpa using filled, fun burst first => ?_⟩
    · simp only [List.length_drop]
      omega
    · simp only [Bool.or_eq_true, Bool.and_eq_true, decide_eq_true_eq]
      exact .inr ⟨burst, .inr first⟩

/-- A fresh judgement of READY_T under any settings (R81). -/
theorem judgeReady (h : t.withinLimits) (now : Time) (mode : ReadyMode) (trigger : Nat) :
    (Tone.judgeReady now { t with mode := mode, trigger := trigger }).withinLimits := by
  obtain ⟨length, noteOns, latched, _⟩ := h
  simp only [Tone.judgeReady]
  split
  next alone => exact ⟨length, noteOns, latched, fun burst => by simp_all⟩
  · split
    next empty =>
      refine ⟨length, noteOns, nofun, fun _ first => ?_⟩
      simp_all [Tone.headMustNotWait]
    next filled =>
      refine ⟨length, noteOns, fun _ => by simpa using filled, fun _ first => ?_⟩
      simp only [Bool.or_eq_true]
      exact .inr first

theorem initial : Tone.initial.withinLimits := ⟨by decide, by decide, nofun, fun _ => nofun⟩

end Tone.withinLimits

theorem State.offerTone_withinLimits (e : ToneEntry) {s : State} (h : s.tone.withinLimits) : (s.offerTone e).1.tone.withinLimits := by
  have full : s.overflow.tone.withinLimits := (Tone.withinLimits.replaceWith s.tone (.resync s.now) s.now).of_same rfl rfl rfl
  cases e <;> simp only [State.offerTone]
  case noteOn =>
    split
    next room =>
      have room : s.tone.queue.length < 168 := room
      exact h.enqueue s.now (by omega) (fun _ => room) (fun e => nomatch e)
    · exact h
  case noteOff | pedal =>
    split
    next room => exact h.enqueue s.now room (fun e => nomatch e) (fun e => nomatch e)
    · exact full
  case allOff =>
    split
    next room => exact h.enqueue s.now room (fun e => nomatch e) (fun _ => rfl)
    · exact .replaceWith s.tone _ s.now
  case resync => exact .replaceWith s.tone _ s.now

theorem Offering.tone {s t : State} (h : Offering s t) (kept : s.tone.withinLimits) : t.tone.withinLimits := by
  cases h with
  | offerTone e => exact State.offerTone_withinLimits e kept
  | panelOffer e => simpa using kept
  | setRouter => exact kept
  | setPedals => exact kept

theorem Atom.tone {s t : State} (h : Atom s t) (kept : s.tone.withinLimits) : t.tone.withinLimits := by
  cases h
  case endStroke x c k scanner => exact (Offerings.forceOff c _ s.now k refl).keeps Offering.tone (by simpa using kept)
  case stroke k q inStroke => exact (Offerings.routeStroke k _ refl).keeps Offering.tone (by simpa using kept)
  case offerTone e => exact State.offerTone_withinLimits e kept
  case recomputeSwitch m => exact (Offerings.recomputeSwitch m refl).keeps Offering.tone kept
  case onPlayback k v transit m => exact (Offerings.onIntent k v _ transit m refl).keeps Offering.tone kept
  case offPlayback k v m => exact (Offerings.offIntent k v _ m refl).keeps Offering.tone kept
  case forceOff c q m k => exact (Offerings.forceOff c q m k refl).keeps Offering.tone kept
  case panic => exact (Offerings.panic refl).keeps Offering.tone kept
  case flushTone => exact .replaceWith s.tone _ s.now
  case setupTone mode trigger clear =>
    have judged := Tone.withinLimits.judgeReady kept s.now (mode.getD s.tone.mode) (trigger.getD s.tone.trigger)
    cases clear
    exacts [judged, judged.of_same rfl rfl rfl]
  case setDrain d => exact Tone.withinLimits.of_same kept rfl rfl rfl
  case removeHead => exact Tone.withinLimits.removeHead kept s.now
  case onAge =>
    rw [State.onAge]
    split
    next due =>
      obtain ⟨length, noteOns, _, _⟩ := kept
      refine ⟨length, noteOns, fun _ empty => ?_, fun _ _ => rfl⟩
      obtain ⟨_, aged⟩ := due
      simp only at empty
      simp [Tone.headAged, empty] at aged
    · exact kept
  all_goals simpa using kept

theorem Move.tone {s t : State} (h : Move s t) (kept : s.tone.withinLimits) : t.tone.withinLimits := by
  cases h with
  | atom h => exact h.tone kept
  | outside h =>
    obtain ⟨_, _, _, _, tone, _⟩ := h
    rwa [tone]
  | start => exact .initial
  | losePower => exact .initial

/-- Settles O13: an entry is admitted on the occupancy alone, and each change of the head or of the mode judges the latch. -/
theorem stepKeepsTheToneQueueLimits : Obligations.StepKeepsTheToneQueueLimits := fun _ _ kept h =>
  step_keeps (P := fun s => s.tone.withinLimits) Move.tone (fun _ _ => id) kept h

end Sys2Proof.Machine
end

section
/-! SUPPORT. What the moves of the blocks and the exchanges of the links leave of the status boards, the requests that wait and the
Panel Stream (R190 to R197). -/

namespace Sys2Proof.Machine

open Sys2Proof Relation.ReflTransGen

/-! ### What the blocks leave of a link -/

/-- A link as the blocks leave it: only kinds the mask holds are posted, and counters and the bytes shifted out may change. -/
def LinkIf.follows (l m : LinkIf) : Prop :=
  m.mask = l.mask ∧ m.buffer = l.buffer ∧ m.held = l.held ∧ m.statusRead = l.statusRead ∧
    (l.board &&& ~~~l.mask = 0#16 → m.board &&& ~~~l.mask = 0#16)

/-- Both links follow, and the Panel Stream stays within 64 entries. -/
def State.linksFollow (s t : State) : Prop :=
  s.linkT.follows t.linkT ∧ s.linkP.follows t.linkP ∧ (s.panel.stream.length ≤ 64 → t.panel.stream.length ≤ 64)

theorem LinkIf.follows.refl (l : LinkIf) : l.follows l := ⟨rfl, rfl, rfl, rfl, id⟩

theorem LinkIf.follows.trans {l m n : LinkIf} (h : l.follows m) (g : m.follows n) : l.follows n := by
  obtain ⟨mask, buffer, held, read, board⟩ := h
  obtain ⟨mask', buffer', held', read', board'⟩ := g
  exact ⟨mask'.trans mask, buffer'.trans buffer, held'.trans held, read'.trans read, fun e => mask ▸ board' (mask ▸ board e)⟩

/-- The kinds of a set lie in a mask when none of them lies outside it (R194). -/
theorem kinds_within (kinds mask more : BitVec 16) (h : kinds &&& ~~~mask = 0#16) (g : more &&& ~~~mask = 0#16) :
    (kinds ||| more) &&& ~~~mask = 0#16 := by
  grind

theorem kinds_masked (mask kinds : BitVec 16) : (mask &&& kinds) &&& ~~~mask = 0#16 := by
  grind

theorem LinkIf.post_follows (k : NoticeKind) (l : LinkIf) : l.follows (l.post k) :=
  ⟨rfl, rfl, rfl, rfl, fun h => kinds_within _ _ _ h (kinds_masked _ _)⟩

namespace State.linksFollow

variable {s t u : State}

theorem trans (h : s.linksFollow t) (g : t.linksFollow u) : s.linksFollow u := by
  obtain ⟨t', p, stream⟩ := h
  obtain ⟨t'', p', stream'⟩ := g
  exact ⟨t'.trans t'', p.trans p', stream' ∘ stream⟩

theorem of_same (linkT : t.linkT = s.linkT) (linkP : t.linkP = s.linkP) (panel : t.panel = s.panel) : s.linksFollow t := by
  rw [State.linksFollow, linkT, linkP, panel]
  exact ⟨.refl _, .refl _, id⟩

theorem refl (s : State) : s.linksFollow s := of_same rfl rfl rfl

theorem post (k : NoticeKind) (s : State) : s.linksFollow (s.post k) := ⟨LinkIf.post_follows k _, LinkIf.post_follows k _, id⟩

theorem panelOffer (e : PanelEntry) (s : State) : s.linksFollow (s.panelOffer e) := by
  refine ⟨by simpa using .refl _, by simpa using .refl _, fun h => ?_⟩
  rw [State.panelOffer]
  split
  next room =>
    have room : s.panel.stream.length < 64 := room
    simp only [List.length_append, List.length_singleton]
    omega
  · exact h

theorem overflow (s : State) : s.linksFollow s.overflow := ⟨LinkIf.post_follows _ _, LinkIf.post_follows _ _, id⟩

theorem offerTone (e : ToneEntry) (s : State) : s.linksFollow (s.offerTone e).1 := by
  have same (x : Tone) : s.linksFollow { s with tone := x } := of_same rfl rfl rfl
  cases e <;> simp only [State.offerTone]
  case noteOn =>
    split
    exacts [same _, refl s]
  case noteOff | pedal =>
    split
    exacts [same _, overflow s]
  case allOff =>
    split
    exacts [same _, same _]
  case resync => exact same _

theorem clearCounters (l : Link) (s : State) : s.linksFollow (s.clearCounters l) := by
  cases l
  exacts [⟨⟨rfl, rfl, rfl, rfl, id⟩, .refl _, id⟩, ⟨.refl _, ⟨rfl, rfl, rfl, rfl, id⟩, id⟩]

theorem of_offering (h : Offering s t) : s.linksFollow t := by
  cases h with
  | offerTone e => exact offerTone e s
  | panelOffer e => exact panelOffer e s
  | setRouter => exact of_same rfl rfl rfl
  | setPedals => exact of_same rfl rfl rfl

theorem of_offerings (h : Offerings s t) : s.linksFollow t :=
  h.keeps (P := s.linksFollow) (fun move followed => followed.trans (of_offering move)) (refl s)

end State.linksFollow

theorem Atom.links {s t : State} (h : Atom s t) : s.linksFollow t := by
  cases h
  case post k => exact .post k s
  case panelOffer e => exact .panelOffer e s
  case endStroke x c k scanner =>
    have discarded : s.linksFollow (s.discardStroke x k) := .of_same (by simp) (by simp) (by simp)
    exact discarded.trans (.of_offerings (Offerings.forceOff c _ s.now k refl))
  case stroke k q inStroke =>
    have taken : s.linksFollow (s.takeStroke k q) := .of_same (by simp) (by simp) (by simp)
    exact taken.trans (.of_offerings (Offerings.routeStroke k _ refl))
  case offerTone e => exact .offerTone e s
  case recomputeSwitch m => exact .of_offerings (Offerings.recomputeSwitch m refl)
  case onPlayback k v transit m => exact .of_offerings (Offerings.onIntent k v _ transit m refl)
  case offPlayback k v m => exact .of_offerings (Offerings.offIntent k v _ m refl)
  case forceOff c q m k => exact .of_offerings (Offerings.forceOff c q m k refl)
  case panic => exact .of_offerings (Offerings.panic refl)
  case shiftOut bytes => exact ⟨⟨rfl, rfl, rfl, rfl, id⟩, .refl _, id⟩
  case clearCounters l => exact .clearCounters l s
  case flushTone => exact .of_same rfl rfl rfl
  all_goals exact .of_same (by simp) (by simp) (by simp)

theorem Leads.links {s t : State} (h : Leads s t) : s.linksFollow t :=
  h.keeps (P := s.linksFollow) (fun move followed => followed.trans move.links) (.refl s)

/-! ### What the exchanges leave of the links -/

/-- What each link meets, and the Panel Stream at no more than 64 entries. -/
def State.linksAre (P : Link → LinkIf → Prop) (s : State) : Prop := P .t s.linkT ∧ P .p s.linkP ∧ s.panel.stream.length ≤ 64

/-- A link between the judgement of a request and the request held behind it: no status read is in flight, and a request may be held
whatever the buffer holds (R190). -/
def LinkIf.between (me : Link) (l : LinkIf) : Prop :=
  l.mask &&& 1#16 = 1#16 ∧ l.mask &&& ~~~kindBits = 0#16 ∧ l.board &&& ~~~l.mask = 0#16 ∧ l.statusRead = none ∧
  (∀ kind frame, l.held = some (kind, frame) → frame.link = me)

/-- Link `l` is between two requests, and the other one consistent. -/
def LinkIf.betweenOn (l me : Link) (x : LinkIf) : Prop := if me = l then x.between me else x.consistent me

theorem LinkIf.consistent.of_follows {me : Link} {l m : LinkIf} (h : l.consistent me) (f : l.follows m) : m.consistent me := by
  obtain ⟨mask, buffer, held, read, board⟩ := f
  obtain ⟨start, reserved, pending, rest⟩ := h
  rw [LinkIf.consistent, mask, buffer, held, read]
  exact ⟨start, reserved, board pending, rest⟩

theorem LinkIf.between.of_follows {me : Link} {l m : LinkIf} (h : l.between me) (f : l.follows m) : m.between me := by
  obtain ⟨mask, _, held, read, board⟩ := f
  obtain ⟨start, reserved, pending, rest⟩ := h
  rw [LinkIf.between, mask, held, read]
  exact ⟨start, reserved, board pending, rest⟩

theorem LinkIf.betweenOn.of_follows {l me : Link} {x y : LinkIf} (h : x.betweenOn l me) (f : x.follows y) : y.betweenOn l me := by
  unfold LinkIf.betweenOn at *
  split
  next own => exact LinkIf.between.of_follows (by simpa [own] using h) f
  next other => exact LinkIf.consistent.of_follows (by simpa [other] using h) f

theorem LinkIf.initial_consistent (me : Link) (mask : BitVec 16) (start : mask &&& 1#16 = 1#16)
    (reserved : mask &&& ~~~kindBits = 0#16) : (LinkIf.initial mask).consistent me :=
  ⟨start, reserved, by simp only [LinkIf.initial]; grind, nofun, nofun, nofun⟩

namespace State

variable {s t : State} {P Q : Link → LinkIf → Prop}

theorem linksAre.at (h : s.linksAre P) (l : Link) : P l (s.link l) := by
  cases l
  exacts [h.1, h.2.1]

theorem linksAre.mono (h : s.linksAre P) (weaker : ∀ me x, P me x → Q me x) : s.linksAre Q :=
  ⟨weaker _ _ h.1, weaker _ _ h.2.1, h.2.2⟩

theorem linksAre.modLink (h : s.linksAre P) (l : Link) {f : LinkIf → LinkIf} (own : Q l (f (s.link l)))
    (other : ∀ me x, me ≠ l → P me x → Q me x) : (s.modLink l f).linksAre Q := by
  cases l
  exacts [⟨own, other _ _ (by decide) h.2.1, h.2.2⟩, ⟨other _ _ (by decide) h.1, own, h.2.2⟩]

theorem linksAre.of_follow (h : s.linksAre P) (f : s.linksFollow t) (closed : ∀ me x y, P me x → x.follows y → P me y) : t.linksAre P := by
  obtain ⟨linkT, linkP, stream⟩ := f
  exact ⟨closed _ _ _ h.1 linkT, closed _ _ _ h.2.1 linkP, stream h.2.2⟩

theorem linksKept.modLink (h : s.linksKept) (l : Link) {f : LinkIf → LinkIf}
    (own : (s.link l).consistent l → (f (s.link l)).consistent l) : (s.modLink l f).linksKept :=
  linksAre.modLink (P := fun me x => x.consistent me) h l (own (linksAre.at (P := fun me x => x.consistent me) h l)) (fun _ _ _ => id)

theorem linksKept.link (h : s.linksKept) (l : Link) : (s.link l).consistent l := linksAre.at (P := fun me x => x.consistent me) h l

theorem linksKept.of_leads (h : s.linksKept) (leads : Leads s t) : t.linksKept :=
  linksAre.of_follow (P := fun me x => x.consistent me) h leads.links (fun _ _ _ => LinkIf.consistent.of_follows)

theorem linksKept.of_same (h : s.linksKept) (linkT : t.linkT = s.linkT) (linkP : t.linkP = s.linkP) (panel : t.panel = s.panel) :
    t.linksKept := by
  rwa [State.linksKept, linkT, linkP, panel]

/-- Counters and the bytes shifted out do not matter. -/
theorem linksKept.modLink_follows (h : s.linksKept) (l : Link) {f : LinkIf → LinkIf} (follows : ∀ x : LinkIf, x.follows (f x)) :
    (s.modLink l f).linksKept := h.modLink l (fun kept => kept.of_follows (follows _))

theorem linksKept.countMalformed (h : s.linksKept) (l : Link) : (s.countMalformed l).linksKept :=
  h.modLink_follows l (fun _ => ⟨rfl, rfl, rfl, rfl, id⟩)

theorem linksKept.countLost (h : s.linksKept) (l : Link) : (s.countLost l).linksKept :=
  h.modLink_follows l (fun _ => ⟨rfl, rfl, rfl, rfl, id⟩)

theorem linksKept.setPanel (h : s.linksKept) {x : PanelIf} (stream : x.stream.length ≤ s.panel.stream.length) :
    ({ s with panel := x } : State).linksKept := ⟨h.1, h.2.1, stream.trans h.2.2⟩

/-- An exchange begins with no status read of its link in flight (R195). -/
theorem linksKept.beginExchange (h : s.linksKept) (l : Link) :
    (s.beginExchange l).linksKept ∧ ((s.beginExchange l).link l).statusRead = none := by
  have kept : (s.modLink l (fun x => { x with statusRead := none, out := .nothing })).linksKept := h.modLink l (fun kept => by
    obtain ⟨start, reserved, pending, _, rest⟩ := kept
    exact ⟨start, reserved, pending, nofun, rest⟩)
  cases l
  exacts [⟨kept.of_same rfl rfl rfl, rfl⟩, ⟨kept.setPanel (x := { s.panel with stretch := none }) le_rfl, rfl⟩]

/-! ### A request is judged -/

theorem linksKept.between (h : s.linksKept) (l : Link) (unread : (s.link l).statusRead = none) :
    s.linksAre (fun me x => x.betweenOn l me) := by
  have own (me : Link) (x : LinkIf) (read : me = l → x.statusRead = none) (kept : x.consistent me) : x.betweenOn l me := by
    unfold LinkIf.betweenOn
    split
    next mine =>
      obtain ⟨start, reserved, pending, _, _, held⟩ := kept
      exact ⟨start, reserved, pending, read mine, fun kind frame e => (held kind frame e).1⟩
    · exact kept
  obtain ⟨linkT, linkP, stream⟩ := h
  exact ⟨own _ _ (fun e => by subst e; exact unread) linkT, own _ _ (fun e => by subst e; exact unread) linkP, stream⟩

/-- Between requests, a link whose new buffer agrees with what it holds is consistent again. -/
theorem linksAre.close {l : Link} (h : s.linksAre (fun me x => x.betweenOn l me)) {f : LinkIf → LinkIf}
    (own : (s.link l).between l → (f (s.link l)).consistent l) : (s.modLink l f).linksKept := by
  refine h.modLink (Q := fun me x => x.consistent me) l (own ?_) (fun me x other kept => ?_)
  · simpa [LinkIf.betweenOn] using h.at l
  · simpa [LinkIf.betweenOn, other] using kept

theorem linksAre.modBetween {l : Link} (h : s.linksAre (fun me x => x.betweenOn l me)) {f : LinkIf → LinkIf}
    (own : (s.link l).between l → (f (s.link l)).between l) : (s.modLink l f).linksAre (fun me x => x.betweenOn l me) := by
  have before : (s.link l).between l := by simpa [LinkIf.betweenOn] using h.at l
  exact h.modLink l (by simpa [LinkIf.betweenOn] using own before) (fun _ _ _ => id)

/-- The judgement of a frame leaves its link between requests, and what waits behind it held (R190, R196). -/
theorem linksAre.answerFrame {kind : ReqKind} {f : Frame} (h : s.linksAre (fun me x => x.betweenOn f.link me)) :
    (s.answerFrame kind f).1.linksAre (fun me x => x.betweenOn f.link me) ∧
      ((s.answerFrame kind f).1.link f.link).held = (s.link f.link).held := by
  have malformed (status : Status) : (s.malformedFrame f.link status).1.linksAre (fun me x => x.betweenOn f.link me) ∧
      ((s.malformedFrame f.link status).1.link f.link).held = (s.link f.link).held :=
    ⟨h.modBetween (fun kept => kept.of_follows ⟨rfl, rfl, rfl, rfl, id⟩), by simp [State.malformedFrame, State.countMalformed]⟩
  simp only [State.answerFrame]
  split
  · exact malformed .unknown
  · split
    next r judged =>
      obtain ⟨p, _, judged⟩ := Option.bind_eq_some_iff.mp judged
      by_cases mask : kind = .statusMask
      · subst mask
        simp only [judge, judgeStatusMask] at judged
        split at judged <;> cases judged
        · exact ⟨h, rfl⟩
        next reserved =>
          refine ⟨h.modBetween (fun kept => ?_), by simp⟩
          obtain ⟨_, _, _, read, held⟩ := kept
          have reserved : BitVec.ofNat 16 (field p 0 2) &&& ~~~kindBits = 0#16 := by simpa using reserved
          refine ⟨?_, kinds_within _ _ _ reserved (by decide), ?_, read, held⟩
          · have start : NoticeKind.start.bit = 1#16 := by decide
            simp only [start]
            grind
          · simp only
            grind
      · have follow := (judge_leads p s _ _ mask _ judged).links
        refine ⟨h.of_follow follow (fun _ _ _ => LinkIf.betweenOn.of_follows), ?_⟩
        obtain ⟨⟨_, _, heldT, _⟩, ⟨_, _, heldP, _⟩, _⟩ := follow
        cases f.link
        exacts [heldT, heldP]
    · exact malformed .length

theorem linksAre.judgeFrame {kind : ReqKind} {f : Frame} (h : s.linksAre (fun me x => x.betweenOn f.link me)) :
    (s.judgeFrame kind f).linksAre (fun me x => x.betweenOn f.link me) ∧
      ((s.judgeFrame kind f).link f.link).held = (s.link f.link).held := by
  obtain ⟨answered, held⟩ := h.answerFrame (kind := kind)
  exact ⟨answered.modBetween id, by simpa [State.judgeFrame, State.placeReply] using held⟩

/-- A request taken with nothing held behind it leaves the buffer READY, or HANDLING that request (R190). -/
theorem linksAre.admitFrame {kind : ReqKind} {f : Frame} (h : s.linksAre (fun me x => x.betweenOn f.link me))
    (alone : (s.link f.link).held = none) : (s.admitFrame kind f).linksKept := by
  simp only [State.admitFrame]
  split
  · refine h.close (fun between => ?_)
    obtain ⟨start, reserved, pending, read, _⟩ := between
    refine ⟨start, reserved, pending, by simp [read], fun kind' frame e => ?_, by simp [alone]⟩
    cases e
    rfl
  · obtain ⟨answered, held⟩ := h.answerFrame (kind := kind)
    refine answered.close (fun between => ?_)
    obtain ⟨start, reserved, pending, read, _⟩ := between
    exact ⟨start, reserved, pending, by simp [read], nofun, by simp [held, alone]⟩

theorem linksAre.takeHeld {l : Link} (h : s.linksAre (fun me x => x.betweenOn l me)) (placed : ∀ kind f, (s.link l).buffer ≠ .handling kind f) :
    (s.takeHeld l).linksKept := by
  simp only [State.takeHeld]
  split
  next none =>
    have kept : (s.modLink l id).linksKept := h.close (fun between => by
      obtain ⟨start, reserved, pending, read, _⟩ := between
      exact ⟨start, reserved, pending, by simp [read], fun kind f e => absurd e (placed kind f), by simp [none]⟩)
    cases l <;> exact kept
  next kind f held =>
    have own : f.link = l := by
      have between : (s.link l).between l := by simpa [LinkIf.betweenOn] using h.at l
      exact between.2.2.2.2 kind f held
    subst own
    have freed := h.modBetween (l := f.link) (f := fun x => { x with held := none }) (fun between => by
      obtain ⟨start, reserved, pending, read, _⟩ := between
      exact ⟨start, reserved, pending, read, nofun⟩)
    have counted := freed.modBetween (f := fun x => { x with lostReplies := satInc Config.maxCount8 x.lostReplies }) id
    exact counted.admitFrame (by simp)

theorem linksKept.settle (h : s.linksKept) (l : Link) (unread : (s.link l).statusRead = none) : (s.settle l).linksKept := by
  simp only [State.settle]
  split
  next kind f handling =>
    obtain ⟨_, _, _, _, frames, _⟩ := h.link l
    obtain rfl := frames kind f handling
    exact (h.between f.link unread).judgeFrame.1.takeHeld (by simp [State.judgeFrame, State.placeReply])
  · exact h
  · exact h

theorem linksKept.enterFrame (h : s.linksKept) (kind : ReqKind) (f : Frame) (unread : (s.link f.link).statusRead = none) :
    (s.enterFrame kind f).linksKept := by
  obtain ⟨_, _, _, _, _, held⟩ := h.link f.link
  have alone (free : ∀ first begun, (s.link f.link).buffer ≠ .handling first begun) : (s.link f.link).held = none := by
    by_contra some
    obtain ⟨⟨kind, frame⟩, e⟩ := Option.ne_none_iff_exists'.mp some
    obtain ⟨_, first, begun, handling⟩ := held kind frame e
    exact free first begun handling
  simp only [State.enterFrame]
  split
  next empty => exact (h.between _ unread).admitFrame (alone (by simp [empty]))
  next ready =>
    have counted := (h.between _ unread).modBetween (f := fun x => { x with lostReplies := satInc Config.maxCount8 x.lostReplies }) id
    exact counted.admitFrame (by simpa using alone (by simp [ready]))
  next first begun handling =>
    split
    · exact h.countLost _
    · refine h.modLink f.link (fun kept => ?_)
      obtain ⟨start, reserved, pending, read, frames, _⟩ := kept
      refine ⟨start, reserved, pending, read, frames, fun kind' frame e => ?_⟩
      cases e
      exact ⟨rfl, first, begun, handling⟩

/-! ### The exchanges -/

theorem linksKept.writePointer (h : s.linksKept) (value : Nat) : (s.writePointer value).linksKept := by
  simp only [State.writePointer]
  repeat' split
  exacts [h.setPanel le_rfl, h.setPanel le_rfl, h.setPanel le_rfl, h.countMalformed .p]

theorem linksKept.takeFrame (h : s.linksKept) (kind : ReqKind) (code : Nat) (f : Frame) : (s.takeFrame kind code f).linksKept := by
  have now : ({ s with now := f.now } : State).linksKept := h
  obtain ⟨began, unread⟩ := now.beginExchange f.link
  simp only [State.takeFrame, State.addressed]
  repeat' split
  exacts [began.writePointer code, began.enterFrame kind f unread, now]

theorem linksKept.readBuffer (h : s.linksKept) (l : Link) (toEnd : Bool) : (s.readBuffer l toEnd).linksKept := by
  have out {u : State} (kept : u.linksKept) (o : LinkOut) : (u.modLink l (fun x => { x with out := o })).linksKept :=
    kept.modLink_follows l (fun _ => ⟨rfl, rfl, rfl, rfl, id⟩)
  simp only [State.readBuffer]
  split
  next r ready =>
    split
    · have taken : (s.modLink l (fun x => { x with buffer := .empty, out := .bytes r.bytes })).linksKept :=
        h.modLink l (fun kept => by
          obtain ⟨start, reserved, pending, read, _, held⟩ := kept
          exact ⟨start, reserved, pending, read, nofun, fun kind frame e => by
            obtain ⟨_, first, begun, handling⟩ := held kind frame e
            simp [ready] at handling⟩)
      simp only [State.replyTaken]
      split
      exacts [taken.of_same rfl rfl rfl, taken]
    · exact out h _
  · exact out h _
  · split
    exacts [out h _, h.setPanel le_rfl]

theorem linksKept.readReply (h : s.linksKept) (l : Link) (toEnd judged : Bool) : (s.readReply l toEnd judged).linksKept := by
  obtain ⟨began, unread⟩ := h.beginExchange l
  simp only [State.readReply]
  split
  · split
    exacts [(began.settle l unread).readBuffer l toEnd, began.readBuffer l toEnd]
  · exact h

theorem linksKept.endStretch (h : s.linksKept) : s.endStretch.linksKept := by
  simp only [State.endStretch]
  repeat' split
  · exact h
  · exact linksKept.modLink_follows (h.setPanel (x := { s.panel with stretch := none }) le_rfl) .p (fun _ => ⟨rfl, rfl, rfl, rfl, id⟩)
  · exact h

theorem linksKept.readStatus (h : s.linksKept) (l : Link) : (s.readStatus l).linksKept := by
  obtain ⟨began, _⟩ := h.beginExchange l
  simp only [State.readStatus]
  split
  · refine began.modLink l (fun kept => ?_)
    obtain ⟨start, reserved, pending, _, rest⟩ := kept
    refine ⟨start, reserved, by simp, fun kinds e => ?_, rest⟩
    cases e
    exact pending
  · exact h

theorem linksKept.abandonStatus (h : s.linksKept) (l : Link) : (s.abandonStatus l).linksKept := by
  simp only [State.abandonStatus]
  split
  · exact h
  next kinds read =>
    refine h.modLink l (fun kept => ?_)
    obtain ⟨start, reserved, pending, inRead, rest⟩ := kept
    exact ⟨start, reserved, kinds_within _ _ _ pending (inRead kinds read), nofun, rest⟩

/-- A stream read removes whole entries from the front (R197). -/
theorem streamTake_length (bytes : Nat) (l : List PanelEntry) : (streamTake bytes l).2.length ≤ l.length := by
  induction l generalizing bytes with
  | nil => simp [streamTake]
  | cons e rest ih =>
    rw [streamTake]
    split
    exacts [(ih _).trans (by simp), le_rfl]

theorem linksKept.readStream (h : s.linksKept) (bytes : Nat) : (s.readStream bytes).linksKept := by
  obtain ⟨began, _⟩ := h.beginExchange .p
  simp only [State.readStream]
  repeat' split
  · exact began
  · exact linksKept.modLink_follows (began.setPanel (streamTake_length _ _)) .p (fun _ => ⟨rfl, rfl, rfl, rfl, id⟩)
  · exact h

/-! ### Starts and whole commands -/

theorem linksKept_initial {s : State} (linkT : s.linkT = LinkIf.initial startMaskT) (linkP : s.linkP = LinkIf.initial startMaskP)
    (panel : s.panel = PanelIf.initial) : s.linksKept := by
  rw [State.linksKept, linkT, linkP, panel]
  exact ⟨LinkIf.initial_consistent _ _ (by decide) (by decide), LinkIf.initial_consistent _ _ (by decide) (by decide), by decide⟩

theorem linksKept_start (warm : Bool) (cause : StartCause) (now : Time) (pins : Pins) (s : State) :
    (s.start warm cause now pins).linksKept := by
  have link (me : Link) (mask : BitVec 16) (r : Rail) (start : mask &&& 1#16 = 1#16) (reserved : mask &&& ~~~kindBits = 0#16) :
      (LinkIf.atStart mask r).consistent me := by
    have initial := LinkIf.initial_consistent me mask start reserved
    rw [LinkIf.atStart]
    split
    exacts [initial.of_follows (LinkIf.post_follows _ _), initial]
  exact ⟨link _ _ _ (by decide) (by decide), link _ _ _ (by decide) (by decide), Nat.zero_le 64⟩

theorem linksKept.works (h : s.linksKept) (works : Works s t) : t.linksKept := by
  have at_ (now : Time) : ({ s with now := now } : State).linksKept := h
  cases works with
  | request kind code f => exact h.takeFrame kind code f
  | block now leads => exact (at_ now).of_leads leads
  | beginDrain now =>
    exact ((at_ now).beginExchange .t).1.of_leads ((single (.setDrain _ _)).tail (.shiftOut _ _))
  | badSelector now => exact ((at_ now).beginExchange .t).1.countMalformed .t
  | replyRead now l toEnd judged => exact (at_ now).readReply l toEnd judged
  | endStretch now => exact (at_ now).endStretch
  | pointerWrite now value => exact ((at_ now).beginExchange .p).1.writePointer value
  | statusRead now l => exact (at_ now).readStatus l
  | abandonStatus now l => exact (at_ now).abandonStatus l
  | streamRead now bytes => exact (at_ now).readStream bytes
  | restartRead now pins =>
    simp only [State.onRestartRead]
    repeat' split
    exacts [linksKept_start _ _ _ _ _, h, h]
  | restartTimeout now pins =>
    simp only [State.onRestartTimeout]
    repeat' split
    exacts [linksKept_start _ _ _ _ _, linksKept_start _ _ _ _ _, h]
  | resetPin now pins => exact linksKept_start _ _ _ _ _

theorem linksKept.acts (h : s.linksKept) {c : Instr} (acts : Acts c s t) : t.linksKept := by
  cases acts with
  | off => exact h
  | on _ _ works => exact h.works works
  | powerOn now pins => exact linksKept_start _ _ _ _ _
  | standbySwitch w active =>
    simp only [State.standbySwitch]
    split
    exacts [h.of_same rfl rfl rfl, h]
  | losePower => exact linksKept_initial rfl rfl rfl
  | loseStandby => exact h

end State

/-- Settles O17: the blocks post only subscribed kinds, and every exchange leaves its link with nothing held but behind a request in
HANDLING. -/
theorem stepKeepsTheBoards : Obligations.StepKeepsTheBoards := by
  intro s t kept h
  simp only [step] at h
  split at h
  · cases h
    exact kept
  next c rest _ => exact State.linksKept.acts (s := { s with pending := rest }) kept (exec_acts h)

end Sys2Proof.Machine
end

section
/-! PROOFS. The block as a whole: the step, the queue, well-formed commands, main power, request frames, and what reset meets. -/

namespace Sys2Proof.Machine

open Sys2Proof

/-- Settles O1. -/
theorem stepRunsTheFrontCommand : Obligations.StepRunsTheFrontCommand :=
  ⟨fun _ _ _ => rfl, fun s empty => by rw [step, empty]⟩

/-- Settles O8, block by block. -/
theorem resetMeetsTheInvariants : Obligations.ResetMeetsTheInvariants := by
  have silent (j : Nat) : State.reset.sound j = SoundEntry.initial := State.sound_initial rfl j
  refine ⟨rfl, State.recordsKept_of_atStart (s := State.reset) false rfl, Strokes.atStart_linesKept false State.reset.strokes, ?_, ?_,
    Tone.withinLimits.initial, ?_, ⟨rfl, rfl, rfl, rfl⟩, Audio.initial_inRange, Transport.initial_expectedKept,
    State.linksKept_initial rfl rfl rfl⟩
  · exact State.sostenutoKept_of_silent (fun j => by rw [silent]; exact ⟨rfl, rfl⟩) rfl
  · exact State.liveHeld_of_silent (fun j => by rw [silent]; rfl)
  · exact Rail.consistent.of_rest rfl nofun rfl rfl rfl rfl (by decide)

/-! ### Well-formed commands -/

theorem proceedIf_goesOn {ok : Bool} (s : State) :
    (ok = true → ∃ t, proceedIf ok s = .next t) ∧ (ok = false → proceedIf ok s = .refused .illFormed) := by
  cases ok
  exacts [⟨nofun, fun _ => rfl⟩, ⟨fun _ => ⟨s, rfl⟩, nofun⟩]

/-- Settles O3: six commands carry an operand that is tested, and every other command goes on. -/
theorem wellFormedCommandsGoOn : Obligations.WellFormedCommandsGoOn := by
  intro c s
  cases c
  case keySample | pedalSample | bottomCaptureComplete | currentSample | unknown => exact proceedIf_goesOn _
  all_goals exact ⟨fun _ => ⟨_, rfl⟩, nofun⟩

/-- Settles O4: with main power off a command that is not one of the supplies' own leaves the state. -/
theorem mainPowerOffHoldsTheState : Obligations.MainPowerOffHoldsTheState := by
  intro c s off wellFormed noPowerOn noStandby noLoss noStandbyLoss
  obtain ⟨t, next⟩ := (wellFormedCommandsGoOn c s).1 wellFormed
  rw [next]
  cases exec_acts next with
  | off => rfl
  | on _ on => exact absurd (on.symm.trans off) (by decide)
  | powerOn now pins => exact absurd rfl (noPowerOn now pins)
  | standbySwitch w active => exact absurd rfl (noStandby w active)
  | losePower => exact absurd rfl noLoss
  | loseStandby => exact absurd rfl noStandbyLoss

/-! ### Request frames -/

/-- A kind byte that names a request is that request's code (12.2). -/
theorem reqCode_of_reqOfCode {n : Nat} (known : reqOfCode n ≠ .unknown) : reqCode (reqOfCode n) = some n := by
  unfold reqOfCode at known ⊢
  cases found : requestKinds.find? (fun k => reqCode k == some n) with
  | none => simp [found] at known
  | some kind => simpa using List.find?_some found

/-- A kind byte that names no request is none of the codes of 12.2. -/
theorem not_mem_requestCodes {n : Nat} (unknown : reqOfCode n = .unknown) : n ∉ requestCodes := by
  have listed : requestCodes.map some = requestKinds.map reqCode := by decide
  intro member
  have coded : some n ∈ requestKinds.map reqCode := listed ▸ List.mem_map_of_mem member
  obtain ⟨kind, inKinds, code⟩ := List.mem_map.mp coded
  unfold reqOfCode at unknown
  cases found : requestKinds.find? (fun k => reqCode k == some n) with
  | none =>
    have other := List.find?_eq_none.mp found kind inKinds
    simp [code] at other
  | some first =>
    have named := List.find?_some found
    simp only [found, Option.getD_some] at unknown
    simp [unknown, reqCode] at named

section Frames

variable (code : Byte) (f : Frame) (s : State)

theorem encodeRequest_commandOf {kind : ReqKind} (known : kind ≠ .unknown) :
    encodeRequest (commandOf kind code f) = (reqCode kind).map (fun n => (BitVec.ofNat 8 n, f)) ∧
      (commandOf kind code f).wellFormed = true := by
  cases kind
  case unknown => exact absurd rfl known
  all_goals exact ⟨rfl, rfl⟩

theorem exec_commandOf {kind : ReqKind} (known : kind ≠ .unknown) :
    exec (commandOf kind code f) s = proceed (takeRequest kind f s) := by
  cases kind
  case unknown => exact absurd rfl known
  all_goals rfl

/-- A frame leads to the command that its kind byte names, with the code that it carried (R190, R191). -/
theorem exec_decodeRequest :
    exec (decodeRequest code f) s = .next (s.whileOn (State.takeFrame (reqOfCode code.toNat) code.toNat f)) := by
  by_cases known : reqOfCode code.toNat = .unknown
  · have unlisted := not_mem_requestCodes known
    simp [decodeRequest, known, commandOf, exec, execUnknown, proceedIf, unlisted]
  · rw [decodeRequest, exec_commandOf code f s known, proceed, takeRequest, reqCode_of_reqOfCode known, Option.getD_some]

end Frames

/-- A well-formed request is the command that its kind byte and frame name (12.2). -/
theorem decodeRequest_of_encode {i : Instr} {code : Byte} {f : Frame} (wellFormed : i.wellFormed = true)
    (encoded : encodeRequest i = some (code, f)) : decodeRequest code f = i := by
  have statement : Laws.FrameDecodes.Statement i := by
    cases i
    case unknown kind frame => exact Laws.FrameDecodes.unknown kind frame
    case calWrite | calRead | calCaptureRest | calCaptureBottom | keyWatch | keyReport | keyLines | curveWrite | curveSelect |
        curveRead | strokeSlowLimit | noteCopy | soundingReport | allNotesOff | toneStreamSetup | flushTone | railEngage |
        railRetract | railProfile | railStatus | railAck | railClearDisturbed | audioSetup | audioMute | metroSet | metroRun |
        audioReport | takeList | takeDelete | takeName | memoryReport | takeRecord | takePlay | takeStop | takePause |
        takeResume | takeSpeed | takeSeek | loopSet | loopClear | transportReport | practiceSet | waitReport | exportOpen |
        exportRead | exportClose | importOpen | importWrite | importClose | identify | linkReport | statusMask | restart =>
      exact Laws.FrameDecodes.of_some rfl rfl
    all_goals exact Laws.FrameDecodes.of_none rfl
  exact statement code f wellFormed encoded

/-- Settles O5: a kind byte that names a request is its code, and the table of codes names no kind twice. -/
theorem requestFramesRoundTrip : Obligations.RequestFramesRoundTrip := by
  refine ⟨fun i code f => decodeRequest_of_encode, fun code f => ?_⟩
  by_cases known : reqOfCode code.toNat = .unknown
  · simp [decodeRequest, known, commandOf, Instr.wellFormed, encodeRequest, not_mem_requestCodes known]
  · obtain ⟨encoded, wellFormed⟩ := encodeRequest_commandOf code f known
    refine ⟨wellFormed, ?_⟩
    rw [decodeRequest, encoded, reqCode_of_reqOfCode known]
    simp

/-! ### How the link takes a frame -/

section Taking

variable {i : Instr} {code : Byte} {f : Frame} {s : State} {kind : ReqKind}

theorem exec_of_encode (wellFormed : i.wellFormed = true) (encoded : encodeRequest i = some (code, f)) (on : s.system.mainOn = true) :
    exec i s = .next (s.takeFrame (reqOfCode code.toNat) code.toNat f) := by
  rw [← decodeRequest_of_encode wellFormed encoded, exec_decodeRequest, State.whileOn, if_pos on]

theorem State.takeFrame_answered (answers : s.answers f.link f.address = true) (frame : f.link = .t ∨ f.body ≠ []) (n : Nat) :
    s.takeFrame kind n f = (State.beginExchange f.link { s with now := f.now }).enterFrame kind f := by
  have answers : ({ s with now := f.now } : State).answers f.link f.address = true := answers
  have noPointer : ¬(f.link = .p ∧ f.body = []) := by
    rintro ⟨link, body⟩
    rcases frame with h | h
    exacts [by simp [link] at h, h body]
  simp only [State.takeFrame, State.addressed, answers, if_true, noPointer, if_false]

theorem State.beginExchange_buffer (l : Link) (s : State) : ((s.beginExchange l).link l).buffer = (s.link l).buffer := by
  cases l <;> rfl

theorem State.beginExchange_held (l : Link) (s : State) : ((s.beginExchange l).link l).held = (s.link l).held := by
  cases l <;> rfl

/-- A frame that finds an earlier request in HANDLING finds no reply to lose (R190). -/
theorem State.received_of_handling {first : ReqKind} {begun : Frame} (handling : (s.link f.link).buffer = .handling first begun) :
    s.received f = State.beginExchange f.link { s with now := f.now } := by
  cases link : f.link <;> rw [link] at handling <;>
    simp_all [State.received, State.beginExchange, State.link, LinkIf.loseReady]

/-- A frame that finds no request in HANDLING is judged in the state in which it was received, or left to its block (R190). -/
theorem State.enterFrame_idle (idle : s.idleLink f.link) :
    (State.beginExchange f.link { s with now := f.now }).enterFrame kind f = (s.received f).admitFrame kind f := by
  have buffer : ((State.beginExchange f.link { s with now := f.now }).link f.link).buffer = (s.link f.link).buffer :=
    State.beginExchange_buffer f.link _
  cases state : (s.link f.link).buffer with
  | empty =>
    cases link : f.link <;> rw [link] at state <;>
      simp_all [State.enterFrame, State.received, State.beginExchange, State.link, LinkIf.loseReady]
  | ready reply =>
    cases link : f.link <;> rw [link] at state <;>
      simp_all [State.enterFrame, State.received, State.beginExchange, State.link, LinkIf.loseReady, State.countLost, satInc,
        Config.maxCount8]
  | handling k b => exact absurd state (idle k b)

theorem State.enterFrame_held {first : ReqKind} {begun : Frame} (handling : (s.link f.link).buffer = .handling first begun)
    (alone : (s.link f.link).held = none) :
    (State.beginExchange f.link { s with now := f.now }).enterFrame kind f =
      (s.received f).modLink f.link (fun l => { l with held := some (kind, f) }) := by
  have buffer := State.beginExchange_buffer f.link { s with now := f.now }
  have held := State.beginExchange_held f.link { s with now := f.now }
  rw [State.received_of_handling handling]
  have handling : (({ s with now := f.now } : State).link f.link).buffer = .handling first begun := handling
  have alone : (({ s with now := f.now } : State).link f.link).held = none := alone
  simp [State.enterFrame, buffer, held, handling, alone]

theorem State.enterFrame_lost {first : ReqKind} {begun : Frame} {waiting : ReqKind × Frame}
    (handling : (s.link f.link).buffer = .handling first begun) (behind : (s.link f.link).held = some waiting) :
    (State.beginExchange f.link { s with now := f.now }).enterFrame kind f =
      (s.received f).modLink f.link (fun l => { l with lostReplies := min (l.lostReplies + 1) 255 }) := by
  have buffer := State.beginExchange_buffer f.link { s with now := f.now }
  have held := State.beginExchange_held f.link { s with now := f.now }
  rw [State.received_of_handling handling]
  have handling : (({ s with now := f.now } : State).link f.link).buffer = .handling first begun := handling
  have behind : (({ s with now := f.now } : State).link f.link).held = some waiting := behind
  simp [State.enterFrame, buffer, held, handling, behind, State.countLost, satInc, Config.maxCount8]

theorem State.admitFrame_unknown :
    (s.admitFrame .unknown f) = ((s.modLink f.link (fun l => { l with malformed := min (l.malformed + 1) 255 })).placeReply f.link
      { status := .unknown, data := .none }) := by
  simp [State.admitFrame, State.judgeFrame, State.answerFrame, State.malformedFrame, State.countMalformed, satInc, Config.maxCount8]

theorem State.admitFrame_length (known : kind ≠ .unknown) (misfit : frameParams kind f.body = none) :
    (s.admitFrame kind f) = ((s.modLink f.link (fun l => { l with malformed := min (l.malformed + 1) 255 })).placeReply f.link
      { status := .length, data := .none }) := by
  simp [State.admitFrame, State.judgeFrame, State.answerFrame, State.malformedFrame, State.countMalformed, satInc, Config.maxCount8,
    known, misfit]

theorem frameParams_misfit {n : Byte} {p : List Byte} (misfit : n.toNat ≠ p.length ∨ p.length < reqMinLength kind ∨ paramsFit kind p = false) :
    frameParams kind (n :: p) = none := by
  rw [frameParams, if_neg]
  rintro ⟨length, least, fits⟩
  rcases misfit with h | h | h
  exacts [h length, absurd least (by omega), by simp [fits] at h]

end Taking

/-- Settles O6: the link's own answers, from how it takes a frame by the state of its buffer. -/
theorem malformedFramesAreAnsweredByTheLink : Obligations.MalformedFramesAreAnsweredByTheLink := by
  intro i code f s wellFormed encoded on
  have taken := exec_of_encode wellFormed encoded on
  refine ⟨fun link address => ?otherAddress, fun answers link body => ?pointer, fun answers frame => ?frame⟩
  case otherAddress =>
    have elsewhere : ({ s with now := f.now } : State).answers f.link f.address = false := by
      simp only [State.answers, link, State.linkAddress]
      exact decide_eq_false address
    simp [taken, State.takeFrame, State.addressed, elsewhere]
  case pointer =>
    have answers : ({ s with now := f.now } : State).answers f.link f.address = true := answers
    rw [link] at answers
    rw [taken]
    simp [State.takeFrame, State.addressed, link, body, answers, exec, execPointerWrite, State.event, State.whileOn, on, proceed]
  case frame =>
    rw [taken, State.takeFrame_answered answers frame]
    refine ⟨fun idle unknown => ?_, fun idle known body => ?_, fun n p idle known body misfit => ?_, fun first begun handling alone => ?_,
      fun first begun waiting handling behind => ?_⟩
    · rw [State.enterFrame_idle idle, unknown, State.admitFrame_unknown]
      rfl
    · rw [State.enterFrame_idle idle, State.admitFrame_length known (by rw [body]; rfl)]
      rfl
    · rw [State.enterFrame_idle idle, State.admitFrame_length known (by rw [body]; exact frameParams_misfit misfit)]
      rfl
    · rw [State.enterFrame_held handling alone]
    · rw [State.enterFrame_lost handling behind]

/-- Settles O7. -/
theorem requestsWaitForTheOneInHandling : Obligations.RequestsWaitForTheOneInHandling := by
  intro i code p f s wellFormed encoded body short least fits known on answers
  rw [exec_of_encode wellFormed encoded on, State.takeFrame_answered answers (.inr (by simp [body]))]
  refine ⟨fun idle deferred => ?_, fun first begun handling alone => ?_, fun first begun waiting handling behind => ?_⟩
  · have params : frameParams (reqOfCode code.toNat) f.body = some p := by
      have length : (BitVec.ofNat 8 p.length).toNat = p.length := by
        simp
        omega
      rw [body, frameParams, if_pos ⟨length, least, fits⟩]
    rw [State.enterFrame_idle idle, State.admitFrame, if_pos ⟨deferred, known, by rw [params]; rfl⟩]
  · rw [State.enterFrame_held handling alone]
  · rw [State.enterFrame_lost handling behind]

end Sys2Proof.Machine
end

section
/-! PROOFS. The key line sets and the velocity curves: KEY_LINES, CURVE_WRITE and the curve value (R25, R36, R39, R40). -/

namespace Sys2Proof.Machine

open Sys2Proof

/-! ### KEY_LINES -/

/-- A frame that is too short for what it marks is answered LENGTH by the link, whatever its kind (R191, R203). -/
theorem takeRequest_misfit {f : Frame} {p : List Byte} {s : State} {kind : ReqKind} (h : s.canTake f p) (known : kind ≠ .unknown)
    (misfit : p.length < reqMinLength kind ∨ paramsFit kind p = false) :
    proceed (takeRequest kind f s) =
      answered f { status := .length, data := .none }
        ((s.received f).modLink f.link (fun l => { l with malformed := min (l.malformed + 1) 255 })) := by
  obtain ⟨on, answers, idle, _, _, body⟩ := h
  have params : frameParams kind f.body = none := by
    rw [body]
    exact frameParams_misfit (.inr misfit)
  rw [takeRequest, State.whileOn, if_pos on, State.takeFrame_answered answers (.inr (by simp [body])), State.enterFrame_idle idle,
    State.admitFrame_length known params]
  rfl

theorem LineSet.wellFormed_iff (l : LineSet) :
    l.wellFormed = true ↔ 50 ≤ l.start ∧ l.start + 20 ≤ l.damp ∧ l.damp + 20 ≤ l.rearm ∧ l.rearm + 20 ≤ l.strike ∧ l.strike ≤ 950 := by
  simp only [LineSet.wellFormed, Bool.and_eq_true, decide_eq_true_eq]
  omega

theorem State.releasePrevious_strokes (s : State) :
    s.releasePrevious.strokes = { s.strokes with previous := if s.onPrevious = 0 then none else s.strokes.previous } := by
  rw [State.releasePrevious]
  split <;> simp_all

theorem State.releasePrevious_onPrevious (s : State) : s.releasePrevious.onPrevious = s.onPrevious := by
  simp [State.onPrevious]

/-- With no key on the previous set, the keys in flight are the ones a change leaves on it (R25). -/
theorem keepLines_countP {l : List Key} (none : l.countP (fun k => k.previousLines) = 0) :
    (l.map Key.keepLines).countP (fun k => k.previousLines) = l.countP (fun k => k.state.inFlight) := by
  rw [List.countP_map]
  refine List.countP_congr (fun k member => ?_)
  have current := List.countP_eq_zero.mp none k member
  simp only [Function.comp_apply, Key.keepLines]
  split
  next inFlight => simp [inFlight]
  next still => simp [still, current]

theorem State.changeLines_onPrevious (l : LineSet) {s : State} (none : s.onPrevious = 0) : (s.changeLines l).onPrevious = s.strokeCount := by
  rw [State.changeLines, State.releasePrevious_onPrevious]
  simp only [State.onPrevious, State.strokeCount, Vector.toList_map] at none ⊢
  exact keepLines_countP none

theorem State.changeLines_strokes (l : LineSet) {s : State} (none : s.onPrevious = 0) :
    (s.changeLines l).strokes =
      { s.strokes with current := l, previous := if s.strokeCount = 0 then .none else some s.strokes.current } := by
  have count := State.changeLines_onPrevious l none
  rw [State.changeLines, State.releasePrevious_onPrevious] at count
  rw [State.changeLines, State.releasePrevious_strokes, count]

theorem State.received_strokeCount (f : Frame) (s : State) : (s.received f).strokeCount = s.strokeCount := by
  simp [State.strokeCount]

section KeyLines

variable {f : Frame} {p : List Byte} {s u : State} {r : Reply}

theorem exec_keyLines_of_judge (h : s.canTake f p) (hj : judgeKeyLines p (s.received f) = some (u, r)) :
    exec (.keyLines f) s = answered f r u :=
  takeRequest_of_judge (kind := .keyLines) h (Nat.zero_le p.length) (by decide) hj

/-- A change is judged on its set of four lines alone, and then on the keys that still name the previous set (R25). -/
theorem judgeKeyLines_change (s1 s0 d1 d0 r1 r0 k1 k0 : Byte) (rest : List Byte) (s : State) {l : LineSet}
    (carried : l = { start := num2 s1 s0, damp := num2 d1 d0, rearm := num2 r1 r0, strike := num2 k1 k0 }) :
    judgeKeyLines (s1 :: s0 :: d1 :: d0 :: r1 :: r0 :: k1 :: k0 :: rest) s =
      if l.wellFormed = false then answerLines .range s
      else if s.onPrevious ≠ 0 then answerLines .busy s
      else answerLines .ok (s.changeLines l) := by
  subst carried
  simp only [judgeKeyLines, List.length_cons, Nat.add_eq_zero_iff, one_ne_zero, and_false, if_false, field_word,
    field_cons]
  rw [if_neg (by omega)]
  simp

end KeyLines

/-- Settles O24: a read, the link's own LENGTH, and the three outcomes of a change. -/
theorem keyLinesChangeForKeysAtRest : Obligations.KeyLinesChangeForKeysAtRest := by
  refine ⟨fun f s h => ?read, fun f p s h some few => ?short, fun f s1 s0 d1 d0 r1 r0 k1 k0 rest s h => ?change⟩
  case read => exact (exec_keyLines_of_judge h rfl).trans (by simp [okFor])
  case short =>
    refine takeRequest_misfit (kind := .keyLines) h (by decide) (.inr ?_)
    have fits : paramsFit .keyLines p = (decide (p.length = 0) || decide (8 ≤ p.length)) := rfl
    rw [fits, Bool.or_eq_false_iff, decide_eq_false_iff_not, decide_eq_false_iff_not]
    omega
  case change =>
    intro l wellFormed
    have judged := judgeKeyLines_change s1 s0 d1 d0 r1 r0 k1 k0 rest (s.received f) (l := l) rfl
    have formed : l.wellFormed = true ↔ wellFormed := l.wellFormed_iff
    refine ⟨fun bad => ?_, fun good busy => ?_, fun good free => ?_⟩
    · rw [if_pos (by simpa using mt formed.mp bad)] at judged
      exact (exec_keyLines_of_judge h judged).trans (by simp)
    · rw [if_neg (by simp [formed.mpr good]), if_pos (by simpa using busy)] at judged
      exact (exec_keyLines_of_judge h judged).trans (by simp)
    · have none : (s.received f).onPrevious = 0 := by simpa using free
      rw [if_neg (by simp [formed.mpr good]), if_neg (by simpa using none)] at judged
      refine ⟨(s.received f).changeLines l, (exec_keyLines_of_judge h judged).trans ?_, ?_, fun k => ?_, ?_, ?_, ?_, ?_⟩
      · rw [State.changeLines_onPrevious l none, State.changeLines_strokes l none, State.received_strokeCount]
        rfl
      · rw [State.changeLines_strokes l none, State.received_strokeCount]
        simp
      · rw [State.key_changeLines, Key.keepLines]
        simp
      all_goals simp

/-! ### CURVE_WRITE -/

/-- The bytes of a breakpoint, as CURVE_WRITE carries it (12.2). -/
def pointBytes (q : Byte × Byte × Byte × Byte) : List Byte := [q.1, q.2.1, q.2.2.1, q.2.2.2]

/-- The breakpoint that four bytes spell (12.2). -/
def pointOf (q : Byte × Byte × Byte × Byte) : Breakpoint := { speed := num3 q.1 q.2.1 q.2.2.1, velocity := q.2.2.2.toNat }

theorem range_map_points (points : List (Byte × Byte × Byte × Byte)) (rest : List Byte) :
    (List.range points.length).map (fun i =>
      ({ speed := field (points.flatMap pointBytes ++ rest) (4 * i) 3,
         velocity := field (points.flatMap pointBytes ++ rest) (3 + 4 * i) 1 } : Breakpoint)) = points.map pointOf := by
  induction points with
  | nil => rfl
  | cons q points ih =>
    have shift (i w n : Nat) : field ((q :: points).flatMap pointBytes ++ rest) (n + 4 * (i + 1)) w =
        field (points.flatMap pointBytes ++ rest) (n + 4 * i) w := by
      have four : n + 4 * (i + 1) = n + 4 * i + 1 + 1 + 1 + 1 := by ring
      rw [four]
      simp [pointBytes]
    rw [List.length_cons, List.range_succ_eq_map, List.map_cons, List.map_cons, List.map_map, ← ih]
    refine congrArg₂ List.cons ?_ ?_
    · simp only [List.flatMap_cons, pointBytes, pointOf, List.cons_append, Nat.mul_zero, Nat.add_zero, field_three, field_cons,
        field_byte]
    · refine List.map_congr_left (fun i _ => ?_)
      have speed := shift i 3 0
      have velocity := shift i 1 3
      rw [Nat.zero_add, Nat.zero_add] at speed
      simp only [Function.comp_apply, Nat.succ_eq_add_one, speed, velocity]

theorem readCurve_points {points : List (Byte × Byte × Byte × Byte)} (length : points.length = 16) (slot : Byte) (rest : List Byte) :
    readCurve (slot :: (points.flatMap pointBytes ++ rest)) = points.map pointOf := by
  rw [← range_map_points points rest, length, readCurve]
  refine List.map_congr_left (fun i _ => ?_)
  have speed : 1 + 4 * i = 4 * i + 1 := by ring
  have velocity : 4 + 4 * i = 3 + 4 * i + 1 := by ring
  simp only [speed, velocity, field_cons]

theorem strictlyIncreasing_iff (l : List Nat) : strictlyIncreasing l = true ↔ l.Pairwise (· < ·) := by
  rw [← List.isChain_iff_pairwise]
  induction l with
  | nil => simp [strictlyIncreasing]
  | cons a l ih =>
    cases l with
    | nil => simp [strictlyIncreasing]
    | cons b rest => simp [strictlyIncreasing, ih]

theorem nonDecreasing_iff (l : List Nat) : nonDecreasing l = true ↔ l.Pairwise (· ≤ ·) := by
  rw [← List.isChain_iff_pairwise]
  induction l with
  | nil => simp [nonDecreasing]
  | cons a l ih =>
    cases l with
    | nil => simp [nonDecreasing]
    | cons b rest => simp [nonDecreasing, ih]

theorem curveOk_iff {c : Curve} (length : c.length = 16) :
    curveOk c = true ↔ (∀ b ∈ c, b.speed ≤ 1048575 ∧ 1 ≤ b.velocity ∧ b.velocity ≤ 127) ∧
      c.Pairwise (fun a b => a.speed < b.speed) ∧ c.Pairwise (fun a b => a.velocity ≤ b.velocity) := by
  simp only [curveOk, length, Bool.and_eq_true, strictlyIncreasing_iff, nonDecreasing_iff, List.pairwise_map, List.all_eq_true,
    decide_eq_true_eq, true_and, and_assoc]
  exact Iff.rfl

/-- Settles O25. -/
theorem curveWriteReplacesASlotWhole : Obligations.CurveWriteReplacesASlotWhole := by
  intro f slot points rest s length h
  have carried := readCurve_points length slot rest
  have ok := curveOk_iff (c := points.map pointOf) (by simpa using length)
  have least : reqMinLength .curveWrite ≤ (slot :: (points.flatMap pointBytes ++ rest)).length := by
    have bytes : (points.flatMap pointBytes).length = 64 := by simp [List.length_flatMap, pointBytes, length]
    simp only [List.length_cons, List.length_append, bytes, show reqMinLength .curveWrite = 65 from rfl]
    omega
  have outcome {u : State} {r : Reply} (hj : judgeCurveWrite (slot :: (points.flatMap pointBytes ++ rest)) (s.received f) = some (u, r)) :
      exec (.curveWrite f) s = answered f r u := takeRequest_of_judge (kind := .curveWrite) h least (by decide) hj
  refine ⟨fun ⟨inRange, good⟩ => outcome ?_, fun bad => outcome ?_⟩
  · simp only [judgeCurveWrite, carried, field_byte]
    rw [if_pos ⟨inRange, ok.mpr good⟩, State.received_strokes]
    rfl
  · simp only [judgeCurveWrite, carried, field_byte]
    rw [if_neg (fun ⟨inRange, good⟩ => bad ⟨inRange, ok.mp good⟩)]
    rfl

/-! ### The curve value -/

section CurveValue

variable {s : Nat} {a b : Breakpoint} {rest : List Breakpoint}

/-- From the last breakpoint on, its value (R36). -/
theorem curveFrom_last (a : Breakpoint) (rest : List Breakpoint) (above : ∀ b ∈ rest, b.speed ≤ s) :
    curveFrom s a rest = ((a :: rest).getLast (by simp)).velocity := by
  induction rest generalizing a with
  | nil => rfl
  | cons b rest ih =>
    rw [curveFrom, if_neg (above b (by simp)).not_gt, ih b (fun x member => above x (by simp [member])), List.getLast_cons_cons]

/-- Between two neighbours, the line through them (R36). -/
theorem curveFrom_between (rising : (a :: rest).Pairwise (fun x y => x.speed < y.speed)) {i : Nat} {x y : Breakpoint}
    (hx : (a :: rest)[i]? = some x) (hy : (a :: rest)[i + 1]? = some y) (low : x.speed ≤ s) (high : s < y.speed) :
    curveFrom s a rest = interpolate s x y := by
  induction rest generalizing a i with
  | nil => simp at hy
  | cons b rest ih =>
    rw [List.pairwise_cons] at rising
    obtain ⟨_, rising⟩ := rising
    cases i with
    | zero =>
      simp only [List.getElem?_cons_zero, List.getElem?_cons_succ, Option.some.injEq, Nat.zero_add] at hx hy
      rw [curveFrom, hy, if_pos high, hx]
    | succ i =>
      simp only [List.getElem?_cons_succ] at hx hy
      have before : b.speed ≤ x.speed := by
        cases i with
        | zero => simp_all
        | succ i =>
          rw [List.pairwise_cons] at rising
          exact (rising.1 x (List.mem_of_getElem? hx)).le
      rw [curveFrom, if_neg (by omega)]
      exact ih rising hx hy

/-- The line between two breakpoints stays between their values, rounding included. -/
theorem interpolate_between (low : a.speed ≤ s) (high : s < b.speed) (rises : a.velocity ≤ b.velocity) :
    a.velocity ≤ interpolate s a b ∧ interpolate s a b ≤ b.velocity := by
  refine ⟨Nat.le_add_right _ _, ?_⟩
  have positive : 0 < b.speed - a.speed := by omega
  have bound : ((s - a.speed) * (b.velocity - a.velocity) + (b.speed - a.speed) / 2) / (b.speed - a.speed) ≤
      b.velocity - a.velocity := by
    rw [← Nat.lt_succ_iff, Nat.div_lt_iff_lt_mul positive]
    have share : (s - a.speed) * (b.velocity - a.velocity) ≤ (b.speed - a.speed) * (b.velocity - a.velocity) :=
      Nat.mul_le_mul_right _ (by omega)
    rw [Nat.succ_mul, Nat.mul_comm (b.velocity - a.velocity)]
    omega
  rw [interpolate]
  omega

theorem curveFrom_bounds (low : a.speed ≤ s) (within : ∀ b ∈ a :: rest, 1 ≤ b.velocity ∧ b.velocity ≤ 127)
    (rises : (a :: rest).Pairwise (fun a b => a.velocity ≤ b.velocity)) : 1 ≤ curveFrom s a rest ∧ curveFrom s a rest ≤ 127 := by
  induction rest generalizing a with
  | nil => exact within a (by simp)
  | cons b rest ih =>
    rw [curveFrom]
    rw [List.pairwise_cons] at rises
    split
    next high =>
      obtain ⟨least, most⟩ := interpolate_between low high (rises.1 b (by simp))
      have first := within a (by simp)
      have second := within b (by simp)
      omega
    next low => exact ih (by omega) (fun x member => within x (by simp_all)) rises.2

end CurveValue

/-- Settles O27, along the recursion over the breakpoints. -/
theorem curveValueFollowsTheBreakpoints : Obligations.CurveValueFollowsTheBreakpoints := by
  intro curve s length within rising rises
  obtain ⟨a, rest, rfl⟩ := List.exists_cons_of_ne_nil (l := curve) (by rintro rfl; simp at length)
  have after : ∀ b ∈ rest, a.speed < b.speed := (List.pairwise_cons.mp rising).1
  refine ⟨fun b hb below => ?_, fun b hb above => ?_, fun i x y hx hy low high => ?_, ?_⟩
  · simp only [List.getElem?_cons_zero, Option.some.injEq] at hb
    rw [curveValue, if_pos (hb ▸ below), hb]
  · have last : (a :: rest).getLast (by simp) = b := by
      rw [List.getLast_eq_getElem]
      simp only [length]
      exact Option.some.inj ((List.getElem?_eq_getElem (by omega)).symm.trans hb)
    have most (x : Breakpoint) (member : x ∈ a :: rest) : x.speed ≤ b.speed := by
      obtain ⟨i, hi, rfl⟩ := List.getElem_of_mem member
      have before : i ≤ 15 := by omega
      have final : (a :: rest)[15]'(by omega) = b := Option.some.inj ((List.getElem?_eq_getElem (by omega)).symm.trans hb)
      rcases before.lt_or_eq with h | rfl
      · exact (final ▸ List.pairwise_iff_getElem.mp rising i 15 hi (by omega) h).le
      · rw [final]
    have passes : ¬s ≤ a.speed := by
      have second := after b (by
        obtain ⟨c, rest', rfl⟩ := List.exists_cons_of_ne_nil (l := rest) (by rintro rfl; simp at length)
        rw [← last, List.getLast_cons_cons]
        exact List.getLast_mem _)
      omega
    rw [curveValue, if_neg passes, curveFrom_last a rest (fun x member => (most x (by simp [member])).trans above), last]
  · rw [curveValue]
    split
    next below =>
      have first : x = a ∧ i = 0 := by
        cases i with
        | zero => simpa [eq_comm] using hx
        | succ i =>
          have later := after x (List.mem_of_getElem? (by simpa using hx))
          omega
      obtain ⟨rfl, rfl⟩ := first
      have start : s - x.speed = 0 := by omega
      rw [start, Nat.zero_mul, Nat.zero_add, Nat.div_eq_of_lt (by omega), Nat.add_zero]
    · exact curveFrom_between rising hx hy low high
  · rw [curveValue]
    split
    · exact within a (by simp)
    · exact curveFrom_bounds (by omega) within rises

end Sys2Proof.Machine
end

section
/-! PROOFS. Key calibration, captures, the key watch and the key report (R12, R17). -/

namespace Sys2Proof.Machine

open Sys2Proof

/-! ### Notices and small readings -/

/-- A posted kind stands pending on each board that subscribes to it (R194). -/
theorem State.post_announces (k : NoticeKind) (s : State) : (s.post k).announces k := by
  have posted (l : LinkIf) (on : hasKind l.mask k = true) : hasKind (l.post k).board k = true := by
    simp only [hasKind, LinkIf.post, bne_iff_ne, ne_eq] at on ⊢
    intro h
    apply on
    have all : (l.board ||| l.mask &&& k.bit) &&& k.bit = (l.board &&& k.bit) ||| (l.mask &&& k.bit) := by
      ext i hi
      simp only [BitVec.getElem_and, BitVec.getElem_or]
      cases l.board[i] <;> cases l.mask[i] <;> cases k.bit[i] <;> rfl
    rw [all] at h
    ext i hi
    have bit := congrArg (·.getLsbD i) h
    simp_all
  exact ⟨posted s.linkT, posted s.linkP⟩

theorem plausible_iff (raw : Nat) : plausible raw = true ↔ 8 ≤ raw ∧ raw ≤ 1015 := by
  simp only [plausible, Bool.and_eq_true, decide_eq_true_eq]
  exact Iff.rfl

theorem not_plausible_iff (raw : Nat) : plausible raw = false ↔ raw < 8 ∨ 1015 < raw := by
  rw [← Bool.not_eq_true, plausible_iff]
  omega

theorem yesNo_eq (b : Byte) (d : Bool) : yesNo b.toNat = some d ↔ b.toNat ≤ 1 ∧ d = decide (b.toNat = 1) := by
  unfold yesNo
  split
  next zero => simp [zero, eq_comm]
  · split
    next one => simp [one, eq_comm]
    next other =>
      simp
      omega

theorem yesNo_none (b : Byte) : yesNo b.toNat = none ↔ 1 < b.toNat := by
  unfold yesNo
  split
  · simp; omega
  · split <;> simp <;> omega

/-! ### A key enters a Scanner state -/

section EnterScanner

variable (x : KeyState) (c : Cause) (s : State) (k : Nat)

theorem State.enterScanner_scanner : (State.enterScanner x c s k).scanner = (s.setKey k ((s.key k).leaveStroke x)).scanner := by
  simp only [State.enterScanner]
  split <;> simp

theorem State.key_enterScanner (j : Nat) :
    (State.enterScanner x c s k).key j = if j = k ∧ 1 ≤ k ∧ k ≤ 88 then (s.key k).leaveStroke x else s.key j := by
  rw [State.key_congr (State.enterScanner_scanner x c s k), State.key_setKey]

/-- The rest of the Scanner: the capture, the last result and the watch. -/
theorem State.enterScanner_capture :
    (State.enterScanner x c s k).scanner.capture = s.scanner.capture ∧
      (State.enterScanner x c s k).scanner.lastCapture = s.scanner.lastCapture ∧
      (State.enterScanner x c s k).scanner.watch = s.scanner.watch := by
  rw [State.enterScanner_scanner]
  exact ⟨rfl, rfl, rfl⟩

/-- A key that leaves no stroke leaves the other blocks alone (R10). -/
theorem State.enterScanner_idle (idle : (s.key k).state.isStroke = false) :
    State.enterScanner x c s k = (s.setKey k ((s.key k).leaveStroke x)).releasePrevious := by
  simp [State.enterScanner, idle]

theorem State.enterScanner_router (j : Nat) :
    (State.enterScanner x c s k).sound j = s.sound j ∨
      ((s.key k).state.isStroke = true ∧
        (State.enterScanner x c s k).sound j = ((s.discardStroke x k).forceOff c (some .live) s.now k).sound j) := by
  cases stroke : (s.key k).state.isStroke
  · left
    rw [State.enterScanner_idle x c s k stroke]
    exact State.sound_congr (by simp) j
  · right
    refine ⟨rfl, State.sound_congr ?_ j⟩
    simp [State.enterScanner, stroke, State.discardStroke]

/-- A key that leaves a stroke keeps no live note, and no other key changes its owner (R10, R61). -/
theorem State.enterScanner_owner :
    ((s.key k).state.isStroke = true → ((State.enterScanner x c s k).sound k).owner ≠ some .live) ∧
      ∀ j, j ≠ k → ((State.enterScanner x c s k).sound j).owner = (s.sound j).owner := by
  have same (j : Nat) : (s.discardStroke x k).sound j = s.sound j := State.sound_congr (by simp) j
  have forced := (s.discardStroke x k).forceOff_sounds c (some .live) s.now k
  refine ⟨fun stroke => ?_, fun j other => ?_⟩
  · have router : (State.enterScanner x c s k).router = ((s.discardStroke x k).forceOff c (some .live) s.now k).router := by
      simp [State.enterScanner, stroke, State.discardStroke]
    rw [State.sound_congr router]
    rcases forced with ⟨unchanged, spared⟩ | silent
    · rw [unchanged]
      exact fun live => (spared _ live).2 rfl
    · simp [silent.owner]
  · rcases State.enterScanner_router x c s k j with unchanged | ⟨_, changed⟩
    · rw [unchanged]
    · rw [changed]
      rcases forced with ⟨unchanged, _⟩ | silent
      · rw [unchanged, same]
      · rw [(silent.others j other).1, same]

end EnterScanner

theorem State.sound_post (k : NoticeKind) (s : State) (j : Nat) : (s.post k).sound j = s.sound j := rfl

theorem State.key_post (k : NoticeKind) (s : State) (j : Nat) : (s.post k).key j = s.key j := rfl

/-! ### CAL_WRITE to a key -/

section WriteKey

variable (k : Nat) (c : KeyCal) (s : State)

/-- The state in which a written key has its record and its new state, before the notice and the capture are seen to. -/
def State.rewriteKey : State := State.enterScanner c.settledState .calibrationWrite (s.setKey k { s.key k with cal := c }) k

theorem State.writeKey_eq :
    s.writeKey k c =
      if (s.key k).state = .fault then (s.rewriteKey k c).post .keyFault
      else if (s.key k).state = .capture then (s.rewriteKey k c).dropFromCapture k
      else s.rewriteKey k c := by
  simp only [State.writeKey, State.rewriteKey]
  split
  next fault => simp [fault]
  · rfl

variable {k c s}

theorem State.dropFromCapture_blocks :
    (s.dropFromCapture k).router = s.router ∧ (s.dropFromCapture k).tone = s.tone ∧ (s.dropFromCapture k).store = s.store ∧
      (s.dropFromCapture k).pedals = s.pedals ∧ (∀ j, (s.dropFromCapture k).key j = s.key j) := by
  refine ⟨by simp, by simp, by simp, by simp, fun j => ?_⟩
  simp only [State.dropFromCapture]
  split
  · rfl
  · rfl
  · split <;> rfl

theorem State.writeKey_blocks (k : Nat) (c : KeyCal) (s : State) :
    (s.writeKey k c).router = (s.rewriteKey k c).router ∧ (s.writeKey k c).tone = (s.rewriteKey k c).tone ∧
      (s.writeKey k c).store = (s.rewriteKey k c).store ∧ (∀ j, (s.writeKey k c).key j = (s.rewriteKey k c).key j) := by
  obtain ⟨router, tone, store, _, key⟩ := State.dropFromCapture_blocks (k := k) (s := s.rewriteKey k c)
  rw [State.writeKey_eq]
  split
  · exact ⟨rfl, rfl, rfl, fun _ => rfl⟩
  · split
    exacts [⟨router, tone, store, key⟩, ⟨rfl, rfl, rfl, fun _ => rfl⟩]

theorem State.key_rewriteKey (own : 1 ≤ k ∧ k ≤ 88) (j : Nat) :
    (s.rewriteKey k c).key j =
      if j = k then { s.key k with cal := c, state := c.settledState, lastPlausible := none, glitchRun := 0, recoveryRun := 0,
                                   previousLines := false, timing := none, slowMark := false }
      else s.key j := by
  rw [State.rewriteKey, State.key_enterScanner, State.key_setKey, State.key_setKey]
  by_cases j = k <;> simp_all [Key.leaveStroke]

theorem State.rewriteKey_scanner :
    (s.rewriteKey k c).scanner.capture = s.scanner.capture ∧ (s.rewriteKey k c).scanner.lastCapture = s.scanner.lastCapture := by
  obtain ⟨capture, last, _⟩ := State.enterScanner_capture c.settledState .calibrationWrite (s.setKey k { s.key k with cal := c }) k
  exact ⟨capture, last⟩

theorem State.setKey_state_own (own : 1 ≤ k ∧ k ≤ 88) (x : Key) : (s.setKey k x).key k = x := by simp [State.key_setKey, own]

end WriteKey

theorem exec_calWrite_of_judge {f : Frame} {k r1 r0 b1 b0 trim enabled : Byte} {rest : List Byte} {s u : State} {r : Reply}
    (h : s.canTake f (k :: r1 :: r0 :: b1 :: b0 :: trim :: enabled :: rest))
    (hj : judgeCalWrite (k :: r1 :: r0 :: b1 :: b0 :: trim :: enabled :: rest) (s.received f) = some (u, r)) :
    exec (.calWrite f) s = answered f r u :=
  takeRequest_of_judge (kind := .calWrite) h (by simp [reqMinLength]) (by decide) hj

/-- The record that a CAL_WRITE to a key carries (R12). -/
def carriedCal (r1 r0 b1 b0 trim enabled : Byte) : KeyCal :=
  { restRaw := num2 r1 r0, bottomRaw := num2 b1 b0, trim := trim.toInt, enabled := decide (enabled.toNat = 1) }

section CalWrite

variable {k r1 r0 b1 b0 trim enabled : Byte} {rest : List Byte} {s : State}

theorem judgeCalWrite_range (key : 1 ≤ k.toNat ∧ k.toNat ≤ 88)
    (bad : 1023 < num2 r1 r0 ∨ 1023 < num2 b1 b0 ∨ 1 < enabled.toNat ∨ trim.toInt < -16 ∨ 15 < trim.toInt) :
    judgeCalWrite (k :: r1 :: r0 :: b1 :: b0 :: trim :: enabled :: rest) s = refuse .range s := by
  simp only [judgeCalWrite, field_byte, field_cons, field_word, signedField, List.getD_cons_succ, List.getD_cons_zero]
  split
  · rfl
  next inRange =>
    split
    · rfl
    next on code =>
      have known := ((yesNo_eq enabled on).mp code).1
      rw [if_pos ((keyOk_iff k.toNat).mpr key), if_neg (by omega)]

theorem judgeCalWrite_writes (key : 1 ≤ k.toNat ∧ k.toNat ≤ 88) (restRange : num2 r1 r0 ≤ 1023) (bottomRange : num2 b1 b0 ≤ 1023)
    (code : enabled.toNat ≤ 1) (low : -16 ≤ trim.toInt) (high : trim.toInt ≤ 15) :
    judgeCalWrite (k :: r1 :: r0 :: b1 :: b0 :: trim :: enabled :: rest) s =
      okWith .none (s.writeKey k.toNat (carriedCal r1 r0 b1 b0 trim enabled)) := by
  have on := (yesNo_eq enabled _).mpr ⟨code, rfl⟩
  simp only [judgeCalWrite, field_byte, field_cons, field_word, signedField, List.getD_cons_succ, List.getD_cons_zero, on,
    (keyOk_iff k.toNat).mpr key, if_true]
  rw [if_neg (by omega), if_pos ⟨low, high⟩]
  rfl

end CalWrite

/-- Settles O19: a write is an entry to a Scanner state with the new record, and what follows for the notice and the capture. -/
theorem calWriteReplacesAKeyRecord : Obligations.CalWriteReplacesAKeyRecord := by
  intro f k r1 r0 b1 b0 trim enabled rest s h low high
  have own : 1 ≤ k.toNat ∧ k.toNat ≤ 88 := ⟨low, high⟩
  refine ⟨fun bad => exec_calWrite_of_judge h (judgeCalWrite_range own bad),
    fun restRange bottomRange code least most => ⟨_, exec_calWrite_of_judge h (judgeCalWrite_writes own restRange bottomRange code least most), ?_⟩⟩
  generalize cal : carriedCal r1 r0 b1 b0 trim enabled = c
  have cal' : ({ restRaw := num2 r1 r0, bottomRaw := num2 b1 b0, trim := trim.toInt, enabled := decide (enabled.toNat = 1) } : KeyCal) = c :=
    cal
  rw [cal']
  obtain ⟨router, tone, store, key⟩ := State.writeKey_blocks k.toNat c (s.received f)
  have entered := State.enterScanner_owner c.settledState .calibrationWrite
    ((s.received f).setKey k.toNat { (s.received f).key k.toNat with cal := c }) k.toNat
  rw [State.setKey_state_own own] at entered
  obtain ⟨capture, last⟩ := State.rewriteKey_scanner (k := k.toNat) (c := c) (s := s.received f)
  refine ⟨?own, fun j other => ⟨?others, ?owners⟩, fun stroke => ?live, fun idle => ⟨?router, ?tone, ?store⟩, fun fault => ?notice,
    ?pedals, fun free => ?free, fun accepted tallies captured inRest => ?inRest, fun accepted restRaw best captured inBottom => ?inBottom⟩
  case own => simp [key, State.key_rewriteKey own, KeyCal.settledState]
  case others => simp [key, State.key_rewriteKey own, other]
  case owners =>
    rw [State.sound_congr router, State.rewriteKey, entered.2 j other]
    exact congrArg SoundEntry.owner (State.sound_congr (by simp) j)
  case live => simpa [State.sound_congr router, State.rewriteKey] using entered.1 (by simpa using stroke)
  case router =>
    rw [router, State.rewriteKey, State.enterScanner_idle _ _ _ _ (by simpa [State.key_setKey, own] using idle)]
    simp
  case tone =>
    rw [tone, State.rewriteKey, State.enterScanner_idle _ _ _ _ (by simpa [State.key_setKey, own] using idle)]
    simp
  case store =>
    rw [store, State.rewriteKey, State.enterScanner_idle _ _ _ _ (by simpa [State.key_setKey, own] using idle)]
    simp
  case notice =>
    rw [State.writeKey_eq, if_pos (by simpa using fault)]
    exact State.post_announces _ _
  case pedals => simp
  case free =>
    rw [State.writeKey_eq]
    simp only [State.received_key, free, if_false]
    split
    exacts [⟨capture.trans (by simp), last.trans (by simp)⟩, ⟨capture.trans (by simp), last.trans (by simp)⟩]
  case inRest =>
    rw [State.writeKey_eq]
    simp only [State.received_key, captured, reduceCtorEq, if_false, if_true]
    rw [State.dropFromCapture, capture]
    simp only [State.received_scanner, inRest]
    exact ⟨by congr; funext x; by_cases same : x.key = k.toNat <;> simp [same], last.trans (by simp)⟩
  case inBottom =>
    rw [State.writeKey_eq]
    simp only [State.received_key, captured, reduceCtorEq, if_false, if_true]
    rw [State.dropFromCapture, capture]
    simp only [State.received_scanner, inBottom, if_true]
    exact ⟨rfl, rfl, State.post_announces _ _⟩

end Sys2Proof.Machine
end

section
/-! PROOFS. A key sample's way through the Scanner, the key watch and the key report (R1, R19, R21). -/

namespace Sys2Proof.Machine

open Sys2Proof

/-! ### A key sample -/

theorem exec_event {f : State → State} {s : State} (on : s.system.mainOn = true) (now : Time) :
    proceed (s.event now f) = .next (f { s with now := now }) := by
  simp [State.event, State.whileOn, on, proceed]

section Sample

variable {k raw : Nat} {s : State}

theorem isKey_iff (k : Nat) : isKey k = true ↔ 1 ≤ k ∧ k ≤ 88 := by
  simp [isKey]

theorem isRaw_iff (raw : Nat) : isRaw raw = true ↔ raw ≤ 1023 := by
  simp [isRaw]

theorem State.panelOffer_setKey (e : PanelEntry) (k : Nat) (x : Key) (s : State) :
    (s.setKey k x).panelOffer e = (s.panelOffer e).setKey k x := by
  by_cases room : s.panel.stream.length < Config.panelCapacity
  · simp only [State.panelOffer, State.setKey_panel, room, if_true]
    rfl
  · simp only [State.panelOffer, State.setKey_panel, room, if_false]
    rfl

/-- The watch collects depths by the key's record, which a sample leaves as it was. -/
theorem State.watchSample_setKey {x : Key} (cal : x.cal = (s.key k).cal) :
    (s.setKey k x).watchSample k raw = (s.watchSample k raw).setKey k x := by
  have same : ((s.setKey k x).key k).cal = (s.key k).cal := by
    rw [State.key_setKey]
    split <;> simp [cal]
  have watch : (s.setKey k x).scanner.watch = s.scanner.watch := rfl
  simp only [State.watchSample, watch]
  split
  · rfl
  next w _ =>
    split
    · rfl
    · split
      · rw [same]
        simp only [State.watchCollect]
        split
        · rfl
        · exact State.panelOffer_setKey _ k x { s with scanner := { s.scanner with watch := some { w with
            skip := 9, firstStamp := if w.group.isEmpty then s.now else w.firstStamp, group := [] } } }
      · rfl

/-- The sample as it stands at the key's state: the watch has heard it, and it is the key's last raw reading (R1, R19). -/
theorem exec_keySample {now : Time} (on : s.system.mainOn = true) (own : 1 ≤ k ∧ k ≤ 88) (range : raw ≤ 1023) :
    exec (.keySample now k raw) s =
      .next (State.judgeSample k raw
        ((State.watchSample k raw { s with now := now }).setKey k { s.key k with lastRaw := some raw })) := by
  have heard := State.watchSample_setKey (k := k) (raw := raw) (s := { s with now := now })
    (x := { s.key k with lastRaw := some raw }) rfl
  have fits : (isKey k && isRaw raw) = true := by
    rw [Bool.and_eq_true, isKey_iff, isRaw_iff]
    exact ⟨own, range⟩
  show proceedIf _ _ = _
  rw [proceedIf, if_pos fits]
  refine (exec_event on now).trans (congrArg Host.Outcome.next ?_)
  exact congrArg (State.judgeSample k raw) heard

theorem State.endCapture_watch (r : CaptureResult) (s : State) : (s.endCapture r).scanner.watch = s.scanner.watch := rfl

theorem State.leaveCapture_watch (k : Nat) (s : State) : (s.leaveCapture k).scanner.watch = s.scanner.watch := by
  simp only [State.leaveCapture]
  split <;> rfl

theorem State.captureSample_watch : (s.captureSample k raw).scanner.watch = s.scanner.watch := by
  simp only [State.captureSample]
  split
  · rfl
  · rfl
  · split
    · rfl
    · split
      · rfl
      · simp only [State.completeBottom]
        split
        · rw [State.endCapture_watch, State.leaveCapture_watch]
          rfl
        · rw [State.endCapture_watch, State.leaveCapture_watch]

theorem State.glitch_watch : (s.glitch k).scanner.watch = s.scanner.watch := by
  simp only [State.glitch]
  split
  · exact (State.enterScanner_capture .fault .keyFault _ k).2.2
  · rfl

theorem State.strokeSample_watch : (s.strokeSample k raw).scanner.watch = s.scanner.watch := by
  simp only [State.strokeSample]
  simp [State.setKey]

theorem State.judgeSample_watch : (s.judgeSample k raw).scanner.watch = s.scanner.watch := by
  have stroke : (if plausible raw = true then s.strokeSample k raw else s.glitch k).scanner.watch = s.scanner.watch := by
    split
    exacts [State.strokeSample_watch, State.glitch_watch]
  cases state : (s.key k).state <;> simp only [State.judgeSample, state]
  case rest | descending | struck | rearmed => exact stroke
  case suspended =>
    split
    · simp only [State.suspendedSample]
      split <;> rfl
    · exact State.glitch_watch
  case fault =>
    simp only [State.faultSample]
    (repeat' split) <;> rfl
  case capture => exact State.captureSample_watch

end Sample

/-! ### Key watch and key report -/

section Requests

variable {f : Frame} {k clear : Byte} {rest : List Byte} {s u : State} {r : Reply}

theorem exec_keyWatch_of_judge (h : s.canTake f (k :: rest)) (hj : judgeKeyWatch (k :: rest) (s.received f) = some (u, r)) :
    exec (.keyWatch f) s = answered f r u :=
  takeRequest_of_judge (kind := .keyWatch) h (Nat.le_add_left 1 rest.length) (by decide) hj

theorem exec_keyReport_of_judge (h : s.canTake f (k :: clear :: rest))
    (hj : judgeKeyReport (k :: clear :: rest) (s.received f) = some (u, r)) : exec (.keyReport f) s = answered f r u :=
  takeRequest_of_judge (kind := .keyReport) h (Nat.le_add_left 2 rest.length) (by decide) hj

theorem judgeKeyWatch_eq (k : Byte) (rest : List Byte) (s : State) :
    judgeKeyWatch (k :: rest) s =
      if k.toNat = 0 then okWith .none { s with scanner := { s.scanner with watch := none } }
      else if k.toNat ≤ 88 then
        okWith .none { s with scanner := { s.scanner with watch := some { key := k.toNat, skip := 0, firstStamp := s.now, group := [] } } }
      else refuse .range s := by
  simp only [judgeKeyWatch, field_byte]
  split
  · rfl
  next on => simp only [keyOk_iff, Nat.one_le_iff_ne_zero.mpr on, true_and]

theorem exec_keyWatch (h : s.canTake f (k :: rest)) :
    exec (.keyWatch f) s =
      if k.toNat = 0 then okFor f .none { s.received f with scanner := { s.scanner with watch := none } }
      else if k.toNat ≤ 88 then
        okFor f .none { s.received f with
          scanner := { s.scanner with watch := some { key := k.toNat, skip := 0, firstStamp := f.now, group := [] } } }
      else refusedWith f .range s := by
  have judged := judgeKeyWatch_eq k rest (s.received f)
  split
  next off =>
    have answers := exec_keyWatch_of_judge h (judged.trans (if_pos off))
    simpa only [State.received_scanner, okFor] using answers
  next on =>
    split
    next key =>
      have answers := exec_keyWatch_of_judge h (judged.trans ((if_neg on).trans (if_pos key)))
      simpa only [State.received_scanner, State.received_now, okFor] using answers
    next other => exact exec_keyWatch_of_judge h (judged.trans ((if_neg on).trans (if_neg other)))

theorem exec_keyReport (h : s.canTake f (k :: clear :: rest)) :
    exec (.keyReport f) s =
      if 1 ≤ k.toNat ∧ k.toNat ≤ 88 ∧ clear.toNat ≤ 1 then
        okFor f (.keyReport (s.keyReport k.toNat))
          (if clear.toNat = 1 then (s.received f).setKey k.toNat { s.key k.toNat with strikes := 0, partials := 0, glitches := 0 }
          else s.received f)
      else refusedWith f .range s := by
  have report : (s.received f).keyReport k.toNat = s.keyReport k.toNat := by simp [State.keyReport]
  split
  next good =>
    obtain ⟨low, high, code⟩ := good
    have known := (keyOk_iff _).mpr ⟨low, high⟩
    have read := (yesNo_eq clear _).mpr ⟨code, rfl⟩
    refine (exec_keyReport_of_judge h (by
      simp only [judgeKeyReport, field_byte, field_cons, known, read]
      rfl)).trans ?_
    rw [report]
    simp [okFor]
  next bad =>
    refine exec_keyReport_of_judge h ?_
    simp only [judgeKeyReport, field_byte, field_cons]
    split
    next known read =>
      exact absurd ⟨((keyOk_iff _).mp known).1, ((keyOk_iff _).mp known).2, ((yesNo_eq clear _).mp read).1⟩ bad
    · rfl
    · rfl

end Requests

theorem KeyCal.depth_eq (c : KeyCal) (raw : Nat) :
    c.depth raw = if c.valid = true ∧ 8 ≤ raw ∧ raw ≤ 1015 then some (depthOf raw c.restRaw c.bottomRaw) else none := by
  simp only [KeyCal.depth, Bool.and_eq_true, plausible_iff]

/-- Settles O23: the two requests, and what each sample of the watched key collects. -/
theorem keyWatchAndKeyReport : Obligations.KeyWatchAndKeyReport := by
  refine ⟨fun f k rest s h => exec_keyWatch h, fun now k raw w s on low high range watched => ?sample,
    fun f k clear rest s h => exec_keyReport h⟩
  dsimp only
  refine ⟨⟨_, exec_keySample on ⟨low, high⟩ range, State.judgeSample_watch.trans rfl⟩, fun other => ?other,
    fun own skips => ?skips, fun own due few => ?joins, fun own due full room => ?offered, fun own due full none => ?dropped⟩
  case other => simp [State.watchSample, watched, other]
  case skips => simp [State.watchSample, watched, own, skips]
  all_goals
    have collected : State.watchSample k raw { s with now := now } =
        State.watchCollect w { raw := raw, depth := (s.key k).cal.depth raw } { s with now := now } := by
      simp only [State.watchSample, watched]
      rw [if_neg (not_not.mpr own), if_pos due]
      rfl
    rw [collected, State.watchCollect, KeyCal.depth_eq]
    simp only [List.isEmpty_iff, List.length_append, List.length_cons, List.length_nil]
  case joins => rw [if_pos (by omega)]
  case offered =>
    rw [if_neg (by omega)]
    simp [State.panelOffer, Config.panelCapacity, room, own]
  case dropped =>
    rw [if_neg (by omega)]
    simp [State.panelOffer, Config.panelCapacity, Nat.not_lt.mpr none, satInc, Config.maxCount8]

end Sys2Proof.Machine
end

section
/-! PROOFS. The rest capture and the bottom capture (R14 to R16). -/

namespace Sys2Proof.Machine

open Sys2Proof

/-! ### What a heard sample leaves of the Scanner -/

section Heard

variable (k raw : Nat) (s : State)

/-- Of the Scanner, the watch alone hears a sample (R19). -/
theorem State.watchSample_scanner :
    (s.watchSample k raw).scanner.keys = s.scanner.keys ∧ (s.watchSample k raw).scanner.capture = s.scanner.capture ∧
      (s.watchSample k raw).scanner.lastCapture = s.scanner.lastCapture := by
  simp only [State.watchSample]
  split
  · exact ⟨rfl, rfl, rfl⟩
  · split
    · exact ⟨rfl, rfl, rfl⟩
    · split
      · simp only [State.watchCollect]
        split
        · exact ⟨rfl, rfl, rfl⟩
        · simp only [State.panelOffer]
          split <;> exact ⟨rfl, rfl, rfl⟩
      · exact ⟨rfl, rfl, rfl⟩

theorem State.key_watchSample (j : Nat) : (s.watchSample k raw).key j = s.key j := by
  simp only [State.key, (State.watchSample_scanner k raw s).1]

/-- The state in which a sample of key `k` is judged (R1). -/
def State.heardSample (now : Time) : State :=
  (State.watchSample k raw { s with now := now }).setKey k { s.key k with lastRaw := some raw }

variable {k raw s} {now : Time}

theorem State.key_heardSample (own : 1 ≤ k ∧ k ≤ 88) : (s.heardSample k raw now).key k = { s.key k with lastRaw := some raw } :=
  State.setKey_state_own own _

theorem State.key_heardSample_other {j : Nat} (other : j ≠ k) : (s.heardSample k raw now).key j = s.key j := by
  rw [State.heardSample, State.key_setKey, if_neg (fun h => other h.1), State.key_watchSample]
  rfl

theorem State.heardSample_capture : (s.heardSample k raw now).scanner.capture = s.scanner.capture :=
  (State.watchSample_scanner k raw { s with now := now }).2.1

theorem State.heardSample_now : (s.heardSample k raw now).now = now := by simp [State.heardSample]

end Heard

/-! ### A bottom capture -/

section Bottom

variable {f : Frame} {b : Byte} {rest : List Byte} {s u : State} {r : Reply}

theorem exec_calCaptureBottom_of_judge (h : s.canTake f (b :: rest))
    (hj : judgeCalCaptureBottom (b :: rest) (s.received f) = some (u, r)) : exec (.calCaptureBottom f) s = answered f r u :=
  takeRequest_of_judge (kind := .calCaptureBottom) h (Nat.le_add_left 1 rest.length) (by decide) hj

theorem judgeCalCaptureBottom_eq (b : Byte) (rest : List Byte) (s : State) :
    judgeCalCaptureBottom (b :: rest) s =
      if ¬(1 ≤ b.toNat ∧ b.toNat ≤ 88) then refuse .range s
      else if s.scanner.capture.isSome then refuse .busy s
      else if s.rail.fallboardClosed = true ∨ (s.key b.toNat).state = .fault then refuse .state s
      else answer .accepted .none (s.startBottom b.toNat) := by
  simp only [judgeCalCaptureBottom, field_byte, Bool.not_eq_true', ← Bool.not_eq_true, keyOk_iff]

theorem State.key_startBottom (own : 1 ≤ b.toNat ∧ b.toNat ≤ 88) (s : State) (j : Nat) :
    (s.startBottom b.toNat).key j = if j = b.toNat then (s.key b.toNat).leaveStroke .capture else s.key j := by
  have entered := State.key_enterScanner .capture .calibrationWrite s b.toNat j
  simp only [own, and_true] at entered
  exact entered

theorem State.startBottom_capture (own : 1 ≤ b.toNat ∧ b.toNat ≤ 88) (s : State) :
    (s.startBottom b.toNat).scanner.capture = some (.bottom s.now b.toNat (s.key b.toNat).cal.restRaw none) := by
  have entered := State.key_enterScanner .capture .calibrationWrite s b.toNat b.toNat
  simp only [own, and_true, if_true] at entered
  simp [State.startBottom, entered, Key.leaveStroke]

/-- Both paths to the completion of a bottom capture bring the sample to the key (R16). -/
theorem State.sampleKey_eq (k raw : Nat) (s : State) :
    s.sampleKey k raw = ((s.watchSample k raw).setKey k { s.key k with lastRaw := some raw }).judgeSample k raw :=
  congrArg (State.judgeSample k raw) (State.watchSample_setKey rfl)

theorem bottomReading_eq (best : Option Farthest) :
    bottomReading best = best.bind (fun b => if 64 ≤ b.distance then some b.raw else none) := by
  cases best <;> rfl

/-- The outcome of a bottom capture, with a reading far enough from rest or without (R16). -/
theorem State.completeBottom_eq {k : Nat} (own : 1 ≤ k ∧ k ≤ 88) (best : Option Farthest) (s : State)
    (captured : (s.key k).state = .capture) {c : KeyCal}
    (cal : c = { (s.key k).cal with bottomRaw := (bottomReading best).getD (s.key k).cal.bottomRaw }) :
    s.completeBottom k best =
      (s.setKey k ({ s.key k with cal := c }.leaveStroke c.settledState)).endCapture
        { kind := .bottom, key := some k, outcome := .complete, failed := if (bottomReading best).isSome then 0 else 1,
          lowestFailed := if (bottomReading best).isSome then none else some k } := by
  cases reading : bottomReading best with
  | none =>
    have same : c = (s.key k).cal := by rw [cal, reading]; rfl
    simp only [State.completeBottom, reading, State.leaveCapture]
    rw [if_pos captured, same]
    rfl
  | some raw =>
    simp only [State.completeBottom, reading, State.leaveCapture, State.setKey_state_own own, captured, if_true,
      State.setKey_setKey, cal]
    rfl

end Bottom

theorem KeyCal.settledState_eq (c : KeyCal) : c.settledState = if c.valid then .suspended else .uncalibrated := rfl

/-- Settles O22: the refusals in their order, the start as an entry to CAPTURE, and the completion by either command. -/
theorem bottomCapture : Obligations.BottomCapture := by
  refine ⟨fun f b rest s h => ?request, fun now accepted k raw restRaw best s on capture low high captured range late => ?completion⟩
  case request =>
    have judged := judgeCalCaptureBottom_eq b rest (s.received f)
    simp only [State.received_scanner, State.received_rail, State.received_key] at judged
    refine ⟨fun outside => ?_, fun low high => ⟨fun busy => ?_, fun free bad => ?_, fun free open_ sound => ?_⟩⟩
    · exact exec_calCaptureBottom_of_judge h (judged.trans (if_pos (by omega)))
    · rw [if_neg (by omega), if_pos busy] at judged
      exact exec_calCaptureBottom_of_judge h judged
    · rw [if_neg (by omega), if_neg (by simp [free]), if_pos bad] at judged
      exact exec_calCaptureBottom_of_judge h judged
    · rw [if_neg (by omega), if_neg (by simp [free]), if_neg (by simp [open_, sound])] at judged
      have own : 1 ≤ b.toNat ∧ b.toNat ≤ 88 := ⟨low, high⟩
      have key := State.key_startBottom own (s.received f)
      simp only [State.received_key] at key
      refine ⟨_, exec_calCaptureBottom_of_judge h judged, (key _).trans (if_pos rfl), fun j other => (key j).trans (if_neg other),
        fun stroke => ?_, ?_, by simp [State.startBottom]⟩
      · have live := (State.enterScanner_owner .capture .calibrationWrite (s.received f) b.toNat).1 (by simpa using stroke)
        exact live
      · simpa using State.startBottom_capture own (s.received f)
  case completion =>
    have own : 1 ≤ k ∧ k ≤ 88 := ⟨low, high⟩
    have sampled := exec_keySample (now := now) (raw := raw) on own range
    have completes : exec (.bottomCaptureComplete now raw) s =
        .next ((s.heardSample k raw now).judgeSample k raw) := by
      show proceedIf (isRaw raw) _ = _
      rw [proceedIf, if_pos ((isRaw_iff raw).mpr range)]
      refine (exec_event on now).trans (congrArg Host.Outcome.next ?_)
      simp only [State.onBottomComplete, capture]
      rw [if_pos (by exact late)]
      exact State.sampleKey_eq k raw { s with now := now }
    refine ⟨sampled.trans completes.symm, completes.trans (congrArg Host.Outcome.next ?_)⟩
    have inCapture : ((s.heardSample k raw now).key k).state = .capture := by rw [State.key_heardSample own, ← captured]
    have window : ¬elapsed (s.heardSample k raw now).now accepted < Config.bottomWindowMicros := by
      rw [State.heardSample_now]
      exact not_lt.mpr late
    simp only [State.judgeSample, inCapture, State.captureSample, State.heardSample_capture, capture]
    rw [if_neg (not_not.mpr rfl), if_neg window, State.completeBottom_eq own best _ inCapture rfl, State.key_heardSample own,
      bottomReading_eq, State.heardSample, State.setKey_setKey]
    rfl

/-! ### A rest capture -/

section Rest

/-- A run of entries to one Scanner state: each key of the list is brought there once, and no key outside it is touched. -/
theorem State.enterScanner_run (x : KeyState) (c : Cause) (keys : List Nat) (s : State)
    (own : ∀ k ∈ keys, 1 ≤ k ∧ k ≤ 88) (once : keys.Nodup) :
    let u := keys.foldl (State.enterScanner x c) s
    (∀ k, u.key k = if k ∈ keys then (s.key k).leaveStroke x else s.key k) ∧
      (∀ k ∈ keys, (s.key k).state.isStroke = true → (u.sound k).owner ≠ some .live) ∧
      (∀ k, k ∉ keys → (u.sound k).owner = (s.sound k).owner) := by
  induction keys generalizing s with
  | nil => simp
  | cons a rest ih =>
    obtain ⟨fresh, once⟩ := List.nodup_cons.mp once
    have ownA := own a List.mem_cons_self
    have entered := State.enterScanner_owner x c s a
    obtain ⟨key, live, others⟩ := ih (State.enterScanner x c s a) (fun k h => own k (List.mem_cons_of_mem a h)) once
    refine ⟨fun k => ?_, fun k among stroke => ?_, fun k out => ?_⟩
    · rw [List.foldl_cons, key k, State.key_enterScanner]
      by_cases same : k = a
      · subst same
        simp [fresh, ownA]
      · simp [same]
    · rw [List.foldl_cons]
      rcases List.mem_cons.mp among with same | among
      · subst same
        rw [others k fresh]
        exact entered.1 stroke
      · have other : k ≠ a := fun same => fresh (same ▸ among)
        refine live k among ?_
        rw [State.key_enterScanner, if_neg (fun h => other h.1)]
        exact stroke
    · rw [List.foldl_cons]
      obtain ⟨other, out⟩ := List.ne_and_not_mem_of_not_mem_cons out
      exact (others k out).trans (entered.2 k other)

variable {f : Frame} {p : List Byte} {s u : State} {r : Reply}

theorem exec_calCaptureRest_of_judge (h : s.canTake f p) (hj : judgeCalCaptureRest (s.received f) = some (u, r)) :
    exec (.calCaptureRest f) s = answered f r u :=
  takeRequest_of_judge (kind := .calCaptureRest) h (Nat.zero_le p.length) (by decide) hj

theorem State.mem_restKeys (k : Nat) : k ∈ s.restKeys ↔ (1 ≤ k ∧ k ≤ 88) ∧ (s.key k).state ≠ .fault := by
  simp [State.restKeys, mem_keyNumbers]

theorem State.startRest_keys (s : State) :
    (∀ k, 1 ≤ k → k ≤ 88 →
      s.startRest.key k = if (s.key k).state = .fault then s.key k else (s.key k).leaveStroke .capture) ∧
      (∀ k, (s.key k).state.isStroke = true → (s.startRest.sound k).owner ≠ some .live) := by
  have nodup : keyNumbers.Nodup := by decide
  obtain ⟨key, live, _⟩ := State.enterScanner_run .capture .calibrationWrite s.restKeys s
    (fun k h => ((State.mem_restKeys k).mp h).1) (nodup.filter _)
  refine ⟨fun k low high => (key k).trans ?_, fun k stroke => live k ?_ stroke⟩
  · by_cases fault : (s.key k).state = .fault <;> simp [State.mem_restKeys, low, high, fault]
  · refine (State.mem_restKeys k).mpr ⟨State.key_of_stroke stroke, fun fault => ?_⟩
    rw [fault] at stroke
    cases stroke

theorem State.startRest_capture (s : State) :
    s.startRest.scanner.capture =
      some (.rest s.now (s.restKeys.map (fun k =>
        { key := k, count := 0, sum := 0, low := 0, high := 0, implausible := false }))) := by
  simp [State.startRest]

end Rest

section Completion

/-- The record an included key has at the end of a rest capture (R15). -/
def RestTally.writes (t : RestTally) (c : KeyCal) : KeyCal := if t.failed then c else { c with restRaw := t.average }

variable {s : State} {t : RestTally}

theorem State.completeTally_eq (own : 1 ≤ t.key ∧ t.key ≤ 88) (captured : (s.key t.key).state = .capture) :
    s.completeTally t =
      s.setKey t.key ({ s.key t.key with cal := t.writes (s.key t.key).cal }.leaveStroke (t.writes (s.key t.key).cal).settledState) := by
  have state : ∀ x : Key, x.state = .capture → (s.setKey t.key x).leaveCapture t.key =
      s.setKey t.key (x.leaveStroke x.cal.settledState) := by
    intro x inCapture
    simp only [State.leaveCapture, State.setKey_state_own own, inCapture, if_true, State.setKey_setKey]
  simp only [State.completeTally, RestTally.writes]
  split
  · exact state _ captured
  · exact state _ captured

/-- A run of completions: each included key takes its record and leaves CAPTURE by it, and no other key is touched. -/
theorem State.completeTally_run (tallies : List RestTally) (s : State) (once : (tallies.map RestTally.key).Nodup)
    (included : ∀ x ∈ tallies, (1 ≤ x.key ∧ x.key ≤ 88) ∧ (s.key x.key).state = .capture) :
    let u := tallies.foldl State.completeTally s
    (∀ x ∈ tallies, (u.key x.key).cal = x.writes (s.key x.key).cal ∧
      (u.key x.key).state = (x.writes (s.key x.key).cal).settledState) ∧
      (∀ k, k ∉ tallies.map RestTally.key → u.key k = s.key k) := by
  induction tallies generalizing s with
  | nil => simp
  | cons a rest ih =>
    obtain ⟨fresh, once⟩ := List.nodup_cons.mp once
    obtain ⟨own, captured⟩ := included a List.mem_cons_self
    have first (k : Nat) (other : k ≠ a.key) : (s.completeTally a).key k = s.key k := by
      rw [State.completeTally_eq own captured, State.key_setKey, if_neg (fun h => other h.1)]
    have apart (x : RestTally) (among : x ∈ rest) : x.key ≠ a.key :=
      fun same => fresh (same ▸ List.mem_map_of_mem among)
    obtain ⟨inside, outside⟩ := ih (s.completeTally a) once (fun x among => by
      rw [first x.key (apart x among)]
      exact included x (List.mem_cons_of_mem a among))
    refine ⟨fun x among => ?_, fun k out => ?_⟩
    · rw [List.foldl_cons]
      rcases List.mem_cons.mp among with same | among
      · subst same
        rw [outside x.key fresh, State.completeTally_eq own captured, State.setKey_state_own own]
        exact ⟨rfl, rfl⟩
      · rw [← first x.key (apart x among)]
        exact inside x among
    · obtain ⟨other, out⟩ := List.ne_and_not_mem_of_not_mem_cons out
      exact (outside k out).trans (first k other)

theorem exec_restCaptureComplete {now accepted : Time} {tallies : List RestTally} (on : s.system.mainOn = true)
    (capture : s.scanner.capture = some (.rest accepted tallies)) :
    exec (.restCaptureComplete now) s =
      if restCollected now accepted tallies then .next (State.completeRest tallies { s with now := now })
      else .next { s with now := now } := by
  refine (exec_event on now).trans ?_
  simp only [State.onRestComplete, capture]
  split <;> rfl

theorem restCollected_some {now accepted : Time} {tallies : List RestTally} (some : tallies ≠ []) :
    restCollected now accepted tallies = tallies.all (fun t => decide (64 ≤ t.count)) := by
  cases tallies
  · contradiction
  · rfl

end Completion

/-- Settles O21: BUSY, STATE or the run of entries; the run of completions; and a capture with no keys by its time. -/
theorem restCaptureMeasuresRest : Obligations.RestCaptureMeasuresRest := by
  refine ⟨fun f p s h => ⟨fun busy => ?busy, fun free closed => ?state, fun free opened => ?starts⟩,
    fun now accepted tallies s on capture some ascending included => ?completes,
    fun now accepted tallies s on capture => ⟨fun x among few => ?few, fun empty early => ?early, fun empty late => ?empty⟩⟩
  case busy => exact exec_calCaptureRest_of_judge h (by simp [judgeCalCaptureRest, busy, refuse, answer])
  case state => exact exec_calCaptureRest_of_judge h (by simp [judgeCalCaptureRest, free, closed, refuse, answer])
  case starts =>
    have judged : judgeCalCaptureRest (s.received f) = answer .accepted .none (s.received f).startRest := by
      simp [judgeCalCaptureRest, free, opened]
    obtain ⟨key, live⟩ := State.startRest_keys (s.received f)
    simp only [State.received_key] at key live
    refine ⟨_, exec_calCaptureRest_of_judge h judged, key, live, ?_, by simp [State.startRest]⟩
    rw [State.startRest_capture]
    simp [State.restKeys]
  case completes =>
    have all : restCollected now accepted tallies = true := by
      rw [restCollected_some some, List.all_eq_true]
      exact fun x among => decide_eq_true (included x among).2.2.2
    obtain ⟨inside, outside⟩ := State.completeTally_run tallies { s with now := now }
      (ascending.imp (fun h => Nat.ne_of_lt h)) (fun x among => ⟨⟨(included x among).1, (included x among).2.1⟩, (included x among).2.2.1⟩)
    refine ⟨_, (exec_restCaptureComplete on capture).trans (if_pos all), inside, outside, rfl, ?_, State.post_announces _ _, ?_⟩
    · simp only [State.completeRest, List.length_map, ← List.countP_eq_length_filter, List.head?_map, List.head?_filter]
      rfl
    · simp
  case few =>
    have missing : restCollected now accepted tallies = false := by
      rw [restCollected_some (List.ne_nil_of_mem among), List.all_eq_false]
      exact ⟨x, among, by simpa using few⟩
    exact (exec_restCaptureComplete on capture).trans (if_neg (by simp [missing]))
  case early =>
    subst empty
    exact (exec_restCaptureComplete on capture).trans (if_neg (by
      simp only [restCollected, List.isEmpty_nil, if_true, decide_eq_true_eq, not_le]
      exact early))
  case empty =>
    subst empty
    exact (exec_restCaptureComplete on capture).trans (if_pos (decide_eq_true late))

end Sys2Proof.Machine
end

section
/-! SUPPORT. What one record, and a run of closing records, make of the Take Store (R130 to R139; 12.6). -/

namespace Sys2Proof.Machine

open Sys2Proof

/-! ### One record is appended -/

/-- The entry's next record stands in a block of its own (R138). -/
abbrev Take.needsBlock (e : Take) : Prop := e.count ≠ 0 ∧ e.count % 32 = 0

/-- The block that takes an entry's next record (R132, R138). -/
def Store.nextBlock (st : Store) (e : Take) : Nat := if e.needsBlock then st.freeList.headD 0 else e.last

/-- Where an entry's next record stands. -/
def Store.nextAddress (st : Store) (e : Take) : Nat := st.nextBlock e * 128 + e.count % 32 * 4

/-- Record `r` is appended to take `n`, whose entry is `e`: `u` is the store after it, `st` the store before. -/
structure Store.Appends (st u : Store) (n : Nat) (e : Take) (r : Record) : Prop where
  entry : u.entry n = some { e with count := e.count + 1, duration := e.duration + r.delta, last := st.nextBlock e }
  others : ∀ m, m ≠ n → u.entry m = st.entry m
  bytes : Memory.readBytes u.memory (st.nextAddress e) 4 = r.bytes
  outside : ∀ x, (x < st.nextAddress e ∨ st.nextAddress e + 4 ≤ x) → Memory.read u.memory x = Memory.read st.memory x
  freeList : u.freeList = if e.needsBlock then st.freeList.drop 1 else st.freeList
  canonical : Memory.wf u.memory = true

theorem Store.entry_setBlock (st : Store) (b m : Nat) (x : BlockEntry) : (st.setBlock b x).entry m = st.entry m := rfl

theorem Record.bytes_length (r : Record) : r.bytes.length = 4 := rfl

section Append

variable {st : Store} {n keep : Nat} {e : Take} {r : Record}

/-- A record in the next slot of a block `b`, in a store whose blocks and Free List are as the record finds them. -/
theorem Store.writeSlot_appends {base : Store} {b : Nat} (own : 1 ≤ n ∧ n ≤ 16) (canonical : Memory.wf st.memory = true)
    (block : st.nextBlock e = b) (memory : base.memory = st.memory) (entries : ∀ m, base.entry m = st.entry m)
    (freeList : base.freeList = if e.needsBlock then st.freeList.drop 1 else st.freeList) :
    st.Appends (base.writeSlot n { e with last := b } r) n e r := by
  have address : slotAddress b (e.count % Config.blockSlots) = st.nextAddress e := by
    simp only [slotAddress, Store.nextAddress, block]
    rfl
  have written : (base.writeSlot n { e with last := b } r).memory = Memory.writeBytes (st.nextAddress e) r.bytes st.memory := by
    simp only [Store.writeSlot, Store.setEntry_memory, address, memory]
  refine ⟨?_, fun m other => ?_, ?_, fun x far => ?_, freeList, ?_⟩
  · rw [Store.writeSlot, Store.entry_setEntry, if_pos ⟨rfl, own⟩, block]
  · rw [Store.writeSlot, Store.entry_setEntry, if_neg (fun h => other h.1)]
    exact entries m
  · rw [written]
    exact Memory.readBytes_writeBytes r.bytes _ _ canonical
  · rw [written]
    exact Memory.read_writeBytes_outside r.bytes _ _ canonical x far
  · rw [written]
    exact Memory.writeBytes_wf _ _ _ canonical

theorem Store.append_of_entry (entry : st.entry n = some e) :
    st.append n keep r =
      if e.needsBlock then if keep < st.freeList.length then (st.allocate n e).map (fun p => p.1.writeSlot n p.2 r) else none
      else some (st.writeSlot n e r) := by
  simp only [Store.append, entry]
  rfl

/-- With room for it a record is appended, in the last block or in the block at the head of the Free List (R138). -/
theorem Store.append_appends (own : 1 ≤ n ∧ n ≤ 16) (canonical : Memory.wf st.memory = true) (entry : st.entry n = some e)
    (room : e.needsBlock → keep < st.freeList.length) :
    ∃ u, st.append n keep r = some u ∧ st.Appends u n e r ∧ u.recording = st.recording := by
  by_cases needs : e.needsBlock
  · cases free : st.freeList with
    | nil => simp [free] at room; omega
    | cons b rest =>
      have block : st.nextBlock e = b := by simp [Store.nextBlock, needs, free]
      refine ⟨_, ?_, Store.writeSlot_appends (base := ({ st with freeList := rest }.setBlock e.last (.used n (some b))).setBlock b
        (.used n none)) own canonical block rfl (fun _ => rfl) ?_, rfl⟩
      · rw [Store.append_of_entry entry, if_pos needs, if_pos (room needs)]
        simp [Store.allocate, free]
      · rw [if_pos needs, free]
        rfl
  · have block : st.nextBlock e = e.last := by simp [Store.nextBlock, needs]
    refine ⟨_, ?_, Store.writeSlot_appends (base := st) own canonical block rfl (fun _ => rfl) (if_neg needs).symm, rfl⟩
    rw [Store.append_of_entry entry, if_neg needs]

/-- A record that needs a block which may not be had is not appended (R138). -/
theorem Store.append_none (entry : st.entry n = some e) (needs : e.needsBlock) (full : st.freeList.length ≤ keep) :
    st.append n keep r = none := by
  rw [Store.append_of_entry entry, if_pos needs, if_neg (Nat.not_lt.mpr full)]

end Append

/-! ### One record is recorded -/

/-- A payload is recorded at a position into the recording `c` of a take with entry `e` (R136, R137). -/
structure Store.Records (st u : Store) (c : RecordingContext) (e : Take) (p : Payload) (position : Nat) (stamp : Time) : Prop where
  appends : st.Appends u c.take e { delta := position / 1000 - c.lastTime, payload := p }
  recording : u.recording =
    some (RecordingContext.noted { c with position := position, lastTime := position / 1000, lastStamp := stamp } p)

theorem RecordingContext.noted_frame (c : RecordingContext) (p : Payload) :
    (c.noted p).take = c.take ∧ (c.noted p).started = c.started ∧ (c.noted p).position = c.position ∧
      (c.noted p).lastTime = c.lastTime ∧ (c.noted p).lastStamp = c.lastStamp := by
  unfold RecordingContext.noted
  split <;> exact ⟨rfl, rfl, rfl, rfl, rfl⟩

section Record

variable {st : Store} {c : RecordingContext} {e : Take} {p : Payload} {position keep : Nat} {stamp : Time}

theorem Store.writeAt_records (recording : st.recording = some c) (own : 1 ≤ c.take ∧ c.take ≤ 16)
    (canonical : Memory.wf st.memory = true) (entry : st.entry c.take = some e) (room : e.needsBlock → keep < st.freeList.length) :
    ∃ u, st.writeAt keep p position stamp = some u ∧ st.Records u c e p position stamp := by
  obtain ⟨u, appended, appends, _⟩ := Store.append_appends (r := { delta := position / 1000 - c.lastTime, payload := p }) own
    canonical entry room
  refine ⟨{ u with recording := some _ }, ?_,
    ⟨⟨appends.entry, appends.others, appends.bytes, appends.outside, appends.freeList, appends.canonical⟩, rfl⟩⟩
  simp only [Store.writeAt, recording, appended, Option.map_some]

theorem Store.writeAt_none (recording : st.recording = some c) (entry : st.entry c.take = some e) (needs : e.needsBlock)
    (full : st.freeList.length ≤ keep) : st.writeAt keep p position stamp = none := by
  simp only [Store.writeAt, recording, Store.append_none entry needs full, Option.map_none]

theorem RecordingContext.reckon_position (c : RecordingContext) (stamp : Time) : (c.reckon stamp).1 = c.positionAt stamp := by
  by_cases late : 2147483648 ≤ elapsed stamp c.lastStamp
  · have far : ¬(stamp - c.lastStamp).toNat < 2147483648 := Nat.not_lt.mpr late
    simp only [RecordingContext.reckon, if_pos late, RecordingContext.positionAt, if_neg far, Nat.add_zero]
  · have near : (stamp - c.lastStamp).toNat < 2147483648 := Nat.lt_of_not_le late
    simp only [RecordingContext.reckon, if_neg late, RecordingContext.positionAt, if_pos near]
    rfl

theorem RecordingContext.gapsBefore_zero (before : position ≤ (c.lastTime + 4095) * 1000) : c.gapsBefore position = 0 := by
  simp only [RecordingContext.gapsBefore, Config.gapMs]
  omega

/-- A payload that finds the recording able to take it is recorded as it comes (R136). -/
theorem Store.record_records {s : State} (ready : s.records c e stamp) :
    ∃ u, s.store.record p stamp = (u, false) ∧
      s.store.Records u c e p (c.positionAt stamp) (c.reckon stamp).2 := by
  obtain ⟨canonical, recording, started, low, high, entry, early, room⟩ := ready
  obtain ⟨u, written, records⟩ := Store.writeAt_records (p := p) (position := c.positionAt stamp) (stamp := (c.reckon stamp).2)
    (keep := Config.recordingReserve) recording ⟨low, high⟩ canonical entry room
  refine ⟨u, ?_, records⟩
  simp only [Store.record, recording, started, if_true, RecordingContext.reckon_position, RecordingContext.gapsBefore_zero early,
    Store.writeGaps, Bool.false_eq_true, if_false, Store.writeOrTruncate, written]

end Record

/-! ### The record as the statements tell it -/

theorem beBytes_two (n : Nat) : beBytes 2 n = [BitVec.ofNat 8 (n / 256), BitVec.ofNat 8 n] := by
  simp [beBytes]

/-- A record written says the kind, the two payload bytes, the notes and the levels of its payload. -/
theorem Store.Records.writes {st u : Store} {c : RecordingContext} {e : Take} {p : Payload} {position : Nat} {stamp : Time}
    (h : st.Records u c e p position stamp) (started : c.started = true) {a b : Byte} {notes : List Nat} {levels : PedalLevels}
    (word : beBytes 2 p.word = [a, b])
    (open_ : ∀ j, j ∈ (c.noted p).openNotes ↔ j ∈ notes) (pedals : (c.noted p).levels = levels) :
    st.writes u c e p.code a b position notes levels := by
  obtain ⟨⟨entry, others, bytes, outside, freeList, _⟩, recording⟩ := h
  obtain ⟨take, start, place, time, _⟩ :=
    RecordingContext.noted_frame { c with position := position, lastTime := position / 1000, lastStamp := stamp } p
  have notesEq : (RecordingContext.noted { c with position := position, lastTime := position / 1000, lastStamp := stamp } p).openNotes
      = (c.noted p).openNotes := by
    unfold RecordingContext.noted
    split <;> rfl
  have levelsEq : (RecordingContext.noted { c with position := position, lastTime := position / 1000, lastStamp := stamp } p).levels
      = (c.noted p).levels := by
    unfold RecordingContext.noted
    split <;> rfl
  refine ⟨entry, others, ?_, outside, freeList, _, recording, take, start.trans started, place, time, fun j => ?_, ?_⟩
  · refine bytes.trans ?_
    rw [Record.bytes, word]
  · rw [notesEq]
    exact open_ j
  · rw [levelsEq]
    exact pedals

/-! ### The closing records -/

theorem RecordingContext.closing_length (c : RecordingContext) : c.closing.length = c.closings := by
  simp only [RecordingContext.closing, RecordingContext.closings, List.length_append, List.length_map, List.length_cons,
    List.length_nil]
  congr 1
  congr 1
  · congr 1
    · split <;> rfl
    · split <;> rfl
  · split <;> rfl

/-- After `k` closing records at one position: the first carries the time since the last record, the rest carry 0. -/
structure Store.Closing (st u : Store) (c : RecordingContext) (e : Take) (position k : Nat) : Prop where
  entry : ∃ last, u.entry c.take =
    some { e with count := e.count + k, duration := e.duration + (if k = 0 then 0 else position / 1000 - c.lastTime), last := last }
  others : ∀ m, m ≠ c.take → u.entry m = st.entry m
  recording : ∃ d, u.recording = some d ∧ d.take = c.take ∧ d.lastTime = if k = 0 then c.lastTime else position / 1000
  free : u.freeList.length + (e.count + k - 1) / 32 = st.freeList.length + (e.count - 1) / 32
  canonical : Memory.wf u.memory = true

section Closing

variable {st u : Store} {c : RecordingContext} {e : Take} {position : Nat} {stamp : Time}

/-- A closing record finds a block while the Free List lasts (R135, R139). -/
theorem Store.Closing.next {k : Nat} (h : st.Closing u c e position k) (own : 1 ≤ c.take ∧ c.take ≤ 16)
    (blocks : (e.count + k) / 32 ≤ st.freeList.length + (e.count - 1) / 32) (p : Payload) :
    st.Closing (u.writeClosing position stamp p) c e position (k + 1) ∧
      ∃ last, (u.writeClosing position stamp p).entry c.take =
          some { e with count := e.count + (k + 1), duration := e.duration + (position / 1000 - c.lastTime), last := last } ∧
        Memory.readBytes (u.writeClosing position stamp p).memory (last * 128 + (e.count + k) % 32 * 4) 4 =
          Record.bytes { delta := if k = 0 then position / 1000 - c.lastTime else 0, payload := p } := by
  obtain ⟨⟨last, entry⟩, others, ⟨d, recording, take, time⟩, free, canonical⟩ := h
  rw [← take] at entry own
  have room : e.count + k ≠ 0 ∧ (e.count + k) % 32 = 0 → 0 < u.freeList.length := by
    rintro ⟨some, full⟩
    omega
  obtain ⟨v, written, ⟨appends, after⟩⟩ := Store.writeAt_records (p := p) (position := position) (stamp := stamp) recording own canonical
    entry room
  have next : u.writeClosing position stamp p = v := by rw [Store.writeClosing, written, Option.getD_some]
  have delta : position / 1000 - d.lastTime = if k = 0 then position / 1000 - c.lastTime else 0 := by
    rw [time]
    split <;> omega
  obtain ⟨takeAfter, _, _, timeAfter, _⟩ :=
    RecordingContext.noted_frame { d with position := position, lastTime := position / 1000, lastStamp := stamp } p
  obtain ⟨entryAfter, othersAfter, bytes, _, freeAfter, canonicalAfter⟩ := appends
  rw [take] at entryAfter othersAfter
  rw [delta] at entryAfter bytes
  have duration : e.duration + (if k = 0 then 0 else position / 1000 - c.lastTime) +
      (if k = 0 then position / 1000 - c.lastTime else 0) = e.duration + (position / 1000 - c.lastTime) := by
    split <;> omega
  simp only [duration] at entryAfter
  simp only [Store.nextAddress] at bytes
  generalize u.nextBlock _ = block at entryAfter bytes
  rw [next]
  refine ⟨⟨⟨block, ?_⟩, fun m other => (othersAfter m other).trans (others m other),
    ⟨_, after, takeAfter.trans take, ?_⟩, ?_, canonicalAfter⟩, block, entryAfter, bytes⟩
  · rw [if_neg (Nat.succ_ne_zero k)]
    exact entryAfter
  · rw [if_neg (Nat.succ_ne_zero k)]
    exact timeAfter
  · rw [freeAfter]
    simp only [Take.needsBlock]
    split
    next needs =>
      have some := room needs
      rw [List.length_drop]
      omega
    next fits => omega

theorem Store.closing_run (own : 1 ≤ c.take ∧ c.take ≤ 16) (l : List Payload) {k : Nat} (h : st.Closing u c e position k)
    (blocks : (e.count + k + l.length - 1) / 32 ≤ st.freeList.length + (e.count - 1) / 32) :
    st.Closing (l.foldl (Store.writeClosing position stamp) u) c e position (k + l.length) := by
  induction l generalizing u k with
  | nil => exact h
  | cons p rest ih =>
    have next := (h.next (stamp := stamp) own (by simp at blocks; omega) p).1
    have tail := ih next (by simp at blocks; omega)
    rw [List.foldl_cons, List.length_cons, ← Nat.add_assoc, Nat.add_right_comm]
    exact tail

/-- A recording with blocks for its closing records is closed (R139). -/
theorem Store.closeAt_closesTo {base : Store} {flags : TakeFlags} (recording : st.recording = some c)
    (own : 1 ≤ c.take ∧ c.take ≤ 16) (canonical : Memory.wf st.memory = true)
    (entry : st.entry c.take = some { e with flags := flags }) (others : ∀ m, m ≠ c.take → st.entry m = base.entry m)
    (free : 3 ≤ st.freeList.length) (few : c.closings ≤ 96) :
    base.closesTo (st.closeAt position stamp) c e flags position := by
  have start : st.Closing st c { e with flags := flags } position 0 :=
    ⟨⟨e.last, entry⟩, fun _ _ => rfl, ⟨c, recording, rfl, rfl⟩, rfl, canonical⟩
  have front : c.closing = c.closing.dropLast ++ [.ending] := by
    simp [RecordingContext.closing]
  have count : c.closing.dropLast.length + 1 = c.closings := by
    rw [← RecordingContext.closing_length, front]
    simp
  have run := Store.closing_run (stamp := stamp) own c.closing.dropLast start (by simp only; omega)
  rw [Nat.zero_add] at run
  obtain ⟨⟨_, othersAfter, _, _, _⟩, last, lastEntry, bytes⟩ := run.next (stamp := stamp) own (by simp only; omega) .ending
  have ended : st.closeAt position stamp =
      { (Store.writeClosing position stamp (c.closing.dropLast.foldl (Store.writeClosing position stamp) st) .ending).modEntry c.take
          (fun t => { t with state := .closed }) with recording := none } := by
    simp only [Store.closeAt, recording]
    rw [front, List.foldl_append]
    simp
  generalize c.closing.dropLast.length = k at count lastEntry bytes
  rw [ended]
  refine ⟨rfl, fun m other => ?_, last, ?_, ?_⟩
  · refine (Store.entry_setEntry _ c.take m _).trans ?_
    rw [if_neg (fun h => other h.1), othersAfter m other, others m other]
  · refine (Store.entry_setEntry _ c.take c.take _).trans ?_
    rw [if_pos ⟨rfl, own⟩, lastEntry, ← count]
    rfl
  · rw [← count]
    refine bytes.trans ?_
    have first : (k + 1 = 1) ↔ k = 0 := by omega
    simp only [Record.bytes, first]
    rfl

end Closing

end Sys2Proof.Machine
end

section
/-! PROOFS. Key samples outside the stroke, and the glitch run to FAULT (R4 to R10, R15, R16, R20). -/

namespace Sys2Proof.Machine

open Sys2Proof

/-! ### What the recorder makes of a release -/

theorem beBytes_pair (a b : Nat) (byte : b < 256) : beBytes 2 (a * 256 + b) = [BitVec.ofNat 8 a, BitVec.ofNat 8 b] := by
  have high : (a * 256 + b) / 256 = a := by omega
  have low : BitVec.ofNat 8 (a * 256 + b) = BitVec.ofNat 8 b := by
    apply BitVec.eq_of_toNat_eq
    simp only [BitVec.toNat_ofNat]
    omega
  rw [beBytes_two, high, low]

section Release

variable {c : RecordingContext} {e : Take} {k v : Nat} {stamp : Time} {s : State}

/-- A release of a key in the open-note set is written as a NOTE_OFF (R137, R154). -/
theorem Store.recordNoteOff_writes (ready : s.records c e stamp) (note : k ∈ c.openNotes) (byte : v < 256) :
    ∃ u, s.store.recordNoteOff k v stamp = (u, false) ∧
      s.store.writes u c e 2 (BitVec.ofNat 8 k) (BitVec.ofNat 8 v) (c.positionAt stamp) (c.openNotes.filter (fun j => j ≠ k))
        c.levels := by
  obtain ⟨u, recorded, records⟩ := Store.record_records (p := .noteOff k v) ready
  refine ⟨u, ?_, records.writes ready.2.2.1 (beBytes_pair k v byte) (fun j => ?_) rfl⟩
  · simp only [Store.recordNoteOff, ready.2.1, List.contains_iff_mem, note, if_true]
    exact recorded
  · simp [RecordingContext.noted, removeNum]

/-- A release of any other key is not (R137). -/
theorem Store.recordNoteOff_stray {st : Store} (recording : st.recording = some c) (stray : k ∉ c.openNotes) :
    st.recordNoteOff k v stamp = (st, false) := by
  simp only [Store.recordNoteOff, recording, List.contains_iff_mem, stray, if_false]

theorem State.liveRelease_store (k v : Nat) (stamp : Time) (s : State) :
    (s.liveRelease k v stamp).store =
      if s.transport.state = .recording then (s.store.recordNoteOff k v stamp).1 else s.store := by
  simp only [State.liveRelease]
  split
  · simp only [State.recordWith]
    split <;> simp
  · rfl

/-- Of an entry to a Scanner state the recorder hears the forced off of a key in a stroke (R10, R154). -/
theorem State.enterScanner_store (x : KeyState) (cause : Cause) (s : State) (k : Nat) :
    (State.enterScanner x cause s k).store =
      if (s.key k).state.isStroke = true ∧ s.transport.state = .recording then (s.store.recordNoteOff k 64 s.now).1 else s.store := by
  cases stroke : (s.key k).state.isStroke
  · rw [State.enterScanner_idle x cause s k stroke]
    simp
  · simp [State.enterScanner, stroke, State.liveRelease_store]

end Release

/-! ### Samples in the Scanner states -/

section Judge

variable {k raw : Nat} {s : State}

theorem State.judgeSample_idle (state : (s.key k).state = .uncalibrated) : s.judgeSample k raw = s := by
  simp only [State.judgeSample, state]

theorem State.judgeSample_suspended (state : (s.key k).state = .suspended) (good : plausible raw = true) :
    s.judgeSample k raw = s.suspendedSample k raw := by
  simp only [State.judgeSample, state, good, if_true]

theorem State.judgeSample_fault (state : (s.key k).state = .fault) : s.judgeSample k raw = s.faultSample k raw := by
  simp only [State.judgeSample, state]

theorem State.judgeSample_capture (state : (s.key k).state = .capture) : s.judgeSample k raw = s.captureSample k raw := by
  simp only [State.judgeSample, state]

/-- An implausible sample in a stroke state or in SUSPENDED counts as a glitch (R4). -/
theorem State.judgeSample_glitch (state : (s.key k).state.isStroke = true ∨ (s.key k).state = .suspended)
    (bad : plausible raw = false) : s.judgeSample k raw = s.glitch k := by
  rcases state with stroke | suspended
  · cases state : (s.key k).state <;> rw [state] at stroke <;>
      simp_all [State.judgeSample, KeyState.isStroke]
  · simp only [State.judgeSample, suspended, bad, Bool.false_eq_true, if_false]

theorem not_plausible_of (h : raw < 8 ∨ 1015 < raw) : plausible raw = false := (not_plausible_iff raw).mpr h

/-- The tally of an included key takes the first 64 samples (R15). -/
theorem RestTally.add_eq (raw : Nat) (t : RestTally) :
    t.add raw =
      if t.count < 64 then
        { t with count := t.count + 1, sum := t.sum + raw, low := if t.count = 0 then raw else min t.low raw,
                 high := max t.high raw, implausible := t.implausible || decide (raw < 8 ∨ 1015 < raw) }
      else t := by
  have bad : (!plausible raw) = decide (raw < 8 ∨ 1015 < raw) := by
    rw [Bool.eq_iff_iff, Bool.not_eq_true', not_plausible_iff, decide_eq_true_eq]
  rw [RestTally.add, bad]
  rfl

theorem farther_eq (raw restRaw : Nat) (best : Option Farthest) :
    farther raw restRaw best =
      if 8 ≤ raw ∧ raw ≤ 1015 ∧ (∀ b, best = some b → b.distance < max raw restRaw - min raw restRaw) then
        some { distance := max raw restRaw - min raw restRaw, raw := raw }
      else best := by
  have distance : rawDistance raw restRaw = max raw restRaw - min raw restRaw := by
    simp only [rawDistance]
  simp only [farther, distance]
  cases good : plausible raw
  · rcases (not_plausible_iff raw).mp good with low | high
    · rw [if_neg (by simp), if_neg (by omega)]
    · rw [if_neg (by simp), if_neg (by omega)]
  · obtain ⟨low, high⟩ := (plausible_iff raw).mp good
    cases best with
    | none => simp [low, high]
    | some b =>
      by_cases far : b.distance < max raw restRaw - min raw restRaw
      · simp [low, high, far]
      · rw [if_pos rfl, if_neg (fun h => far (h.2.2 b rfl))]
        exact if_neg far

end Judge

/-! ### The glitch run -/

section Glitch

variable {k : Nat} {s : State}

/-- The key's record after one more implausible sample, before the entry to FAULT (R4). -/
def Key.glitched (x : Key) : Key :=
  { x with glitchRun := x.glitchRun + 1, glitches := if x.state.isStroke then min (x.glitches + 1) 65535 else x.glitches }

theorem State.glitch_eq : s.glitch k =
    if (s.key k).glitchRun < 3 then s.setKey k (s.key k).glitched else (s.setKey k (s.key k).glitched).enterFault k := by
  have split : s.glitch k =
      if Config.faultEntry ≤ (s.key k).glitchRun + 1 then (s.setKey k (s.key k).glitched).enterFault k
      else s.setKey k (s.key k).glitched := rfl
  have late : Config.faultEntry ≤ (s.key k).glitchRun + 1 ↔ ¬(s.key k).glitchRun < 3 := by
    show 4 ≤ (s.key k).glitchRun + 1 ↔ _
    omega
  simp only [split, late, ite_not]

end Glitch

/-- Settles O20: each Scanner state's own rule, and then the glitch run, whose fourth sample enters FAULT. -/
theorem samplesAreJudgedByKeyState : Obligations.SamplesAreJudgedByKeyState := by
  refine ⟨fun now k raw s on low high range => ?states, fun now k raw s on low high range bad inRun => ?glitches⟩
  all_goals
    have own : 1 ≤ k ∧ k ≤ 88 := ⟨low, high⟩
    have sampled : exec (.keySample now k raw) s = .next ((s.heardSample k raw now).judgeSample k raw) := exec_keySample on own range
    have key := State.key_heardSample (s := s) (raw := raw) (now := now) own
    intro heard x
    have still (y : Key) : (s.heardSample k raw now).setKey k y = heard.setKey k y := State.setKey_setKey _ _ _ _
  case states =>
    have fits : (s.heardSample k raw now).key k = x := key
    intro depth captures
    refine ⟨fun state => ?idle, fun accepted tallies state capture => ?rest, fun accepted restRaw best state capture window => ?bottom,
      fun state low high => ?suspended, fun state low high => ?recovery, fun state bad => ?relapse⟩
    case idle => rw [sampled, State.judgeSample_idle (by rw [fits, state])]; rfl
    case rest =>
      rw [sampled, State.judgeSample_capture (by rw [fits, state]), State.captureSample, State.heardSample_capture, capture]
      simp only [RestTally.add_eq, ← ite_and]
      rfl
    case bottom =>
      have inside : elapsed (s.heardSample k raw now).now accepted < Config.bottomWindowMicros := by
        rw [State.heardSample_now]
        exact window
      rw [sampled, State.judgeSample_capture (by rw [fits, state]), State.captureSample, State.heardSample_capture, capture]
      simp only [farther_eq]
      rw [if_neg (not_not.mpr rfl), if_pos inside]
      rfl
    case suspended =>
      rw [sampled, State.judgeSample_suspended (by rw [fits, state]) ((plausible_iff raw).mpr ⟨low, high⟩), State.suspendedSample, fits]
      have lines : (s.heardSample k raw now).strokes = s.strokes := by simp [State.heardSample]
      have rail : (s.heardSample k raw now).rail = s.rail := by simp [State.heardSample]
      simp only [lines, rail, still, State.heardSample_now]
      split <;> rfl
    case recovery =>
      rw [sampled, State.judgeSample_fault (by rw [fits, state]), State.faultSample, fits, if_pos ((plausible_iff raw).mpr ⟨low, high⟩)]
      have done : Config.faultRecovery ≤ x.recoveryRun + 1 ↔ ¬x.recoveryRun < 63 := by
        show 64 ≤ _ ↔ _
        omega
      simp only [still, done, ite_not]
      split <;> rfl
    case relapse =>
      rw [sampled, State.judgeSample_fault (by rw [fits, state]), State.faultSample, fits, if_neg (by simp [not_plausible_of bad]), still]
      rfl
  case glitches =>
    have glitched : (s.heardSample k raw now).setKey k ((s.heardSample k raw now).key k).glitched =
        heard.setKey k { x with glitchRun := x.glitchRun + 1 } := by
      rw [still, key]
      rfl
    have judged : (s.heardSample k raw now).judgeSample k raw = (s.heardSample k raw now).glitch k :=
      State.judgeSample_glitch (by rw [key]; exact inRun) (not_plausible_of bad)
    rw [sampled, judged, State.glitch_eq, glitched, key]
    refine ⟨fun early => by rw [if_pos early], fun late => ⟨_, by rw [if_neg (Nat.not_lt.mpr late)], ?_⟩⟩
    generalize fresh : { x with glitchRun := x.glitchRun + 1 } = y
    have state : ((heard.setKey k y).key k).state = (s.key k).state := by
      rw [State.setKey_state_own own, ← fresh]
    have store : (heard.setKey k y).store = s.store := by simp [heard]
    have transport : (heard.setKey k y).transport = s.transport := by simp [heard]
    have sound (j : Nat) : (heard.setKey k y).sound j = s.sound j := State.sound_congr (by simp [heard]) j
    have owners := State.enterScanner_owner .fault .keyFault (heard.setKey k y) k
    have entered := State.enterScanner_store .fault .keyFault (heard.setKey k y) k
    have stamp : (heard.setKey k y).now = now := by simp [heard]
    simp only [state, store, transport, sound, stamp] at owners entered
    refine ⟨?own, owners.1, fun j other => ⟨?other, owners.2 j other⟩, State.post_announces _ _, ?pedals, fun silent => ?untouched,
      fun c e recording stroke ready note => ?written, fun c e recording ready stray => ?stray⟩
    case own =>
      refine (State.key_enterScanner .fault .keyFault _ k k).trans ?_
      rw [if_pos ⟨rfl, own⟩, State.setKey_state_own own, ← fresh]
      rfl
    case pedals => simp [State.enterFault, heard]
    case untouched =>
      refine entered.trans (if_neg ?_)
      rintro ⟨stroke, recording⟩
      rcases silent with other | suspended
      · exact other recording
      · rw [suspended] at stroke
        cases stroke
    case written =>
      obtain ⟨u, recorded, writes⟩ := Store.recordNoteOff_writes (v := 64) ready note (by omega)
      rw [if_pos ⟨stroke, recording⟩, recorded] at entered
      exact entered.symm ▸ writes
    case stray =>
      refine entered.trans ?_
      rw [Store.recordNoteOff_stray ready.2.1 stray, ite_self]
    case other =>
      refine (State.key_enterScanner .fault .keyFault _ k j).trans ?_
      rw [if_neg (fun h => other h.1), State.key_setKey, if_neg (fun h => other h.1), State.key_watchSample]
      rfl

end Sys2Proof.Machine
end

section
/-! PROOFS. How the Tone Stream judges an offer (R69 to R73, R77, R79). -/

namespace Sys2Proof.Machine

open Sys2Proof

/-- The two kinds of entry whose offer overflows a full queue: a NOTE_OFF and a PEDAL (R71, R72). -/
def ToneEntry.overflows : ToneEntry → Prop
  | .noteOff .. => True
  | .pedal .. => True
  | .noteOn .. => False
  | .allOff _ => False
  | .resync _ => False

section Offer

variable {e : ToneEntry} {s : State}

theorem ToneEntry.overflows_iff : e.overflows ↔
    (∃ k v source flags time, e = .noteOff k v source flags time) ∨ (∃ p level source time, e = .pedal p level source time) := by
  cases e <;> simp [ToneEntry.overflows]

theorem ToneEntry.not_allOff_of_noteOn (noteOn : e.isNoteOn = true) : e.isAllOff = false := by
  cases e
  case allOff => cases noteOn
  all_goals rfl

theorem ToneEntry.not_allOff_of_overflows (may : e.overflows) : e.isAllOff = false := by
  cases e
  case allOff => exact may.elim
  all_goals rfl

theorem State.offerTone_noteOn (noteOn : e.isNoteOn = true) :
    s.offerTone e =
      if s.tone.queue.length < 168 then ({ s with tone := s.tone.enqueue e s.now }, .admitted) else (s, .refused) := by
  cases e
  case noteOn => rfl
  all_goals cases noteOn

theorem State.offerTone_overflows (may : e.overflows) :
    s.offerTone e =
      if s.tone.queue.length < 192 then ({ s with tone := s.tone.enqueue e s.now }, .admitted) else (s.overflow, .discarded) := by
  cases e
  case noteOff | pedal => rfl
  all_goals cases may

theorem Tone.enqueue_latch (now : Time) (t : Tone) (other : e.isAllOff = false) :
    (t.enqueue e now).latch = (t.latch || (decide (t.mode = .burst) && decide (t.trigger ≤ t.queue.length + 1))) := by
  simp [Tone.enqueue, other]

theorem Tone.enqueue_eq (now : Time) (t : Tone) (other : e.isAllOff = false) :
    t.enqueue e now =
      { t with queue := t.queue ++ [{ entry := e, admitted := now }],
               latch := t.latch || (decide (t.mode = .burst) && decide (t.trigger ≤ t.queue.length + 1)) } := by
  simp [Tone.enqueue, other]

theorem State.overflow_tone (s : State) :
    s.overflow.tone =
      { s.tone.replaceWith (.resync s.now) s.now with resyncs := min (s.tone.resyncs + 1) 255, lastOverflow := some s.now } := rfl

theorem State.sound_overflow (s : State) (k : Nat) : s.overflow.sound k = { s.sound k with announced := false } :=
  State.sound_clearAnnounced _ k

theorem State.overflow_announces (s : State) : s.overflow.announces .queueResync := State.post_announces _ _

end Offer

/-- Settles O35: by the kind of the entry, and then by the occupancy alone. -/
theorem offersAreJudgedOnOccupancy : Obligations.OffersAreJudgedOnOccupancy := by
  intro e s queued burst reaches joins emptied
  refine ⟨fun noteOn room => ?_, fun noteOn full => ?_, fun may => ⟨fun room => ?_, fun full => ?_⟩,
    fun time allOff => ⟨fun room => ?_, fun full => ?_⟩⟩
  · show s.offerTone e = _
    rw [State.offerTone_noteOn noteOn, if_pos room, Tone.enqueue_eq _ _ (ToneEntry.not_allOff_of_noteOn noteOn)]
  · rw [State.offerTone_noteOn noteOn, if_neg (Nat.not_lt.mpr full)]
  · have kind := ToneEntry.overflows_iff.mpr may
    show s.offerTone e = _
    rw [State.offerTone_overflows kind, if_pos room, Tone.enqueue_eq _ _ (ToneEntry.not_allOff_of_overflows kind)]
  · rw [State.offerTone_overflows (ToneEntry.overflows_iff.mpr may), if_neg (Nat.not_lt.mpr full)]
    refine ⟨rfl, ?_, s.sound_overflow, s.overflow_announces, rfl⟩
    rw [State.overflow_tone]
    simp only [emptied, Tone.replaceWith]
    rfl
  · subst allOff
    show s.offerTone _ = _
    rw [State.offerTone_allOff, Tone.withAllOff, if_pos room]
    simp [Tone.enqueue, ToneEntry.isAllOff, queued, burst]
  · subst allOff
    rw [State.offerTone_allOff, Tone.withAllOff, if_neg (Nat.not_lt.mpr full)]
    simp only [emptied, Tone.replaceWith]
    rfl

end Sys2Proof.Machine
end

section
/-! PROOFS. What an intent does to a key that sounds (R57, R59 to R61, R67). -/

namespace Sys2Proof.Machine

open Sys2Proof

/-! ### An offer with its monitor copy -/

section Note

variable {e : ToneEntry} {k : Nat} {c : Option Cause} {s : State}

/-- An offer and its monitor copy: the copy changes the Panel Stream alone, and joins it at its tail (R67, R197). -/
theorem State.offerNote_copies (e : ToneEntry) (k : Nat) (c : Option Cause) (s : State) :
    ∃ panel, s.offerNote e k c = ({ (s.offerTone e).1 with panel := panel }, (s.offerTone e).2) ∧
      (s.router.copy.covers k = true → s.panel.stream.length < 64 →
        panel.stream = s.panel.stream ++ [.noteCopy e c (s.offerTone e).2]) := by
  have copy : (s.offerTone e).1.router.copy = s.router.copy := by
    cases e <;> simp only [State.offerTone] <;> (repeat' split) <;> rfl
  have stream : (s.offerTone e).1.panel = s.panel := by simp
  simp only [State.offerNote, copy]
  split
  next covered =>
    have room (few : s.panel.stream.length < 64) :=
      State.panelOffer_stream (.noteCopy e c (s.offerTone e).2) (s.offerTone e).1 (by rw [stream]; exact few)
    rw [stream] at room
    refine ⟨((s.offerTone e).1.panelOffer (.noteCopy e c (s.offerTone e).2)).panel, ?_, fun _ few => room few⟩
    refine Prod.ext ?_ rfl
    simp only [State.panelOffer]
    split <;> rfl
  next uncovered => exact ⟨_, rfl, fun covered => absurd covered uncovered⟩

/-- An offer that finds room is admitted: the Tone Queue and, by the copy, the Panel Stream change, and nothing else. -/
theorem State.offerNote_joins (joins : s.offerTone e = ({ s with tone := s.tone.enqueue e s.now }, .admitted)) :
    ∃ panel, s.offerNote e k c = ({ s with tone := s.tone.enqueue e s.now, panel := panel }, .admitted) ∧
      (s.router.copy.covers k = true → s.panel.stream.length < 64 → panel.stream = s.panel.stream ++ [.noteCopy e c .admitted]) := by
  obtain ⟨panel, copied, stream⟩ := s.offerNote_copies e k c
  rw [joins] at copied stream
  exact ⟨panel, copied, stream⟩

theorem State.offerNote_refused (refused : s.offerTone e = (s, .refused)) :
    ∃ panel, s.offerNote e k c = ({ s with panel := panel }, .refused) := by
  obtain ⟨panel, copied, _⟩ := s.offerNote_copies e k c
  rw [refused] at copied
  exact ⟨panel, copied⟩

theorem State.offerNote_overflow (overflows : s.offerTone e = (s.overflow, .discarded)) :
    ∃ panel, s.offerNote e k c = ({ s.overflow with panel := panel }, .discarded) := by
  obtain ⟨panel, copied, _⟩ := s.offerNote_copies e k c
  rw [overflows] at copied
  exact ⟨panel, copied⟩

end Note

/-- Of the Note Router an offer changes the announced marks alone (R57). -/
theorem State.offerTone_router (e : ToneEntry) (s : State) :
    (s.offerTone e).1.router = { s.router with table := (s.offerTone e).1.router.table } := by
  cases e <;> simp only [State.offerTone] <;> (repeat' split) <;> rfl

theorem State.offerNote_router (e : ToneEntry) (k : Nat) (c : Option Cause) (s : State) :
    (s.offerNote e k c).1.router = { s.router with table := (s.offerNote e k c).1.router.table } := by
  obtain ⟨panel, copied, _⟩ := s.offerNote_copies e k c
  rw [copied]
  exact s.offerTone_router e

/-! ### A restrike -/

section Restrike

variable {k v : Nat} {owner source : Source} {transit : Bool} {m : Time} {s : State}

/-- The state after the NOTE_OFF of a restrike, as the NOTE_ON finds it (R59, step 1). -/
theorem State.restrikeOff_cases (k : Nat) (owner : Source) (m : Time) (s : State) :
    ((s.sound k).announced = false → s.restrikeOff k owner m = s) ∧
    ((s.sound k).announced = true → s.tone.queue.length < 192 → ∃ panel, s.restrikeOff k owner m =
      { s with tone := s.tone.enqueue (.noteOff k 64 owner { restrike := true } m) s.now, panel := panel }) ∧
    ((s.sound k).announced = true → 192 ≤ s.tone.queue.length → ∃ panel, s.restrikeOff k owner m =
      { s.overflow with panel := panel }) := by
  have judged := State.offerTone_overflows (e := .noteOff k 64 owner { restrike := true } m) (s := s) trivial
  refine ⟨fun unannounced => by simp [State.restrikeOff, unannounced], fun announced room => ?_, fun announced full => ?_⟩
  · obtain ⟨panel, offered, _⟩ := State.offerNote_joins (k := k) (c := none) (judged.trans (if_pos room))
    exact ⟨panel, by simp [State.restrikeOff, announced, offered]⟩
  · obtain ⟨panel, offered⟩ := State.offerNote_overflow (k := k) (c := none) (judged.trans (if_neg (Nat.not_lt.mpr full)))
    exact ⟨panel, by simp [State.restrikeOff, announced, offered]⟩

/-- The NOTE_ON of a restrike over a queue `u` with room: the key sounds for the source (R59, step 2). -/
theorem State.onRestrike_admitted {u : State} (first : s.restrikeOff k owner m = u) (room : u.tone.queue.length < 168) :
    ∃ panel, s.onRestrike k v owner source transit m =
      State.setSound { u with tone := u.tone.enqueue (.noteOn k v source { restrike := true, transit := transit } m) u.now,
                              panel := panel } k (.sounded source v) := by
  obtain ⟨panel, offered, _⟩ := State.offerNote_joins (k := k) (c := none)
    ((State.offerTone_noteOn (e := .noteOn k v source { restrike := true, transit := transit } m) (s := u) rfl).trans (if_pos room))
  exact ⟨panel, by simp [State.onRestrike, first, offered]⟩

/-- The NOTE_ON of a restrike refused: the key is SILENT and out of the Sostenuto Set (R59, step 2). -/
theorem State.onRestrike_refused {u : State} (first : s.restrikeOff k owner m = u) (full : 168 ≤ u.tone.queue.length) :
    ∃ panel, s.onRestrike k v owner source transit m =
      ((State.silence k { u with panel := panel }).leaveSostenuto k).countDropped := by
  obtain ⟨panel, offered⟩ := State.offerNote_refused (k := k) (c := none)
    ((State.offerTone_noteOn (e := .noteOn k v source { restrike := true, transit := transit } m) (s := u) rfl).trans
      (if_neg (Nat.not_lt.mpr full)))
  exact ⟨panel, by simp [State.onRestrike, first, offered]⟩

theorem State.sound_own {s : State} (own : 1 ≤ k ∧ k ≤ 88) (x : SoundEntry) : (s.setSound k x).sound k = x := by
  simp [State.sound_setSound, own]

theorem State.sound_other {s : State} {j : Nat} (other : j ≠ k) (x : SoundEntry) : (s.setSound k x).sound j = s.sound j := by
  simp [State.sound_setSound, other]

end Restrike

/-! ### A key made SILENT -/

section Silence

variable {k v : Nat} {owner : Source} {flags : NoteFlags} {c : Option Cause} {m : Time} {s : State}

/-- A NOTE_OFF is offered for an announced key alone, with the key SILENT already (R57, R60, R61). -/
theorem State.silenceWith_cases (k v : Nat) (owner : Source) (flags : NoteFlags) (c : Option Cause) (m : Time) (s : State) :
    ((s.sound k).announced = false → s.silenceWith k v owner flags c m = s.silence k) ∧
    ((s.sound k).announced = true →
      s.silenceWith k v owner flags c m = ((s.silence k).offerNote (.noteOff k v owner flags m) k c).1) := by
  constructor <;> intro announced <;> simp [State.silenceWith, announced]

theorem State.silenceWith_joins (announced : (s.sound k).announced = true) (room : s.tone.queue.length < 192) :
    ∃ panel, s.silenceWith k v owner flags c m =
        { s.silence k with tone := s.tone.enqueue (.noteOff k v owner flags m) s.now, panel := panel } ∧
      (s.router.copy.covers k = true → s.panel.stream.length < 64 →
        panel.stream = s.panel.stream ++ [.noteCopy (.noteOff k v owner flags m) c .admitted]) := by
  obtain ⟨panel, offered, stream⟩ := State.offerNote_joins (k := k) (c := c)
    ((State.offerTone_overflows (e := .noteOff k v owner flags m) (s := s.silence k) trivial).trans (if_pos room))
  exact ⟨panel, by rw [(s.silenceWith_cases k v owner flags c m).2 announced, offered]; rfl, stream⟩

theorem State.silenceWith_overflows (announced : (s.sound k).announced = true) (full : 192 ≤ s.tone.queue.length) :
    ∃ panel, s.silenceWith k v owner flags c m = { (s.silence k).overflow with panel := panel } := by
  obtain ⟨panel, offered⟩ := State.offerNote_overflow (k := k) (c := c)
    ((State.offerTone_overflows (e := .noteOff k v owner flags m) (s := s.silence k) trivial).trans
      (if_neg (Nat.not_lt.mpr full)))
  exact ⟨panel, by rw [(s.silenceWith_cases k v owner flags c m).2 announced, offered]⟩

end Silence

/-! ### The restrike, as the statement tells it -/

section Restruck

variable (k velocity : Nat) (owner source : Source) (transit : Bool) (time : Time) (s : State)

/-- The NOTE_OFF ahead of a restrike, as it waits in the queue (R59). -/
def restrikeOffQueued : Queued := { entry := .noteOff k 64 owner { restrike := true } time, admitted := s.now }

/-- The NOTE_ON of a restrike, as it waits in the queue (R59). -/
def restrikeOnQueued : Queued :=
  { entry := .noteOn k velocity source { restrike := true, transit := transit } time, admitted := s.now }

/-- The key sounds for the source after a restrike, and keeps its membership (R59). -/
def State.restruck (u : State) : Prop :=
  u.sound k = { owner := some source, lastVelocity := some velocity, released := false, announced := true } ∧
    u.router.sostenutoSet = s.router.sostenutoSet ∧ u.router.droppedOn = s.router.droppedOn

variable {k velocity owner source transit time s}

theorem State.onRestrike_sounds (own : 1 ≤ k ∧ k ≤ 88)
    (room : s.tone.queue.length < if (s.sound k).announced then 167 else 168) :
    let u := s.onRestrike k velocity owner source transit time
    State.restruck k velocity source s u ∧
      u.tone.queue = s.tone.queue ++ ((if (s.sound k).announced then [restrikeOffQueued k owner time s] else []) ++
        [restrikeOnQueued k velocity source transit time s]) ∧
      (∀ j, j ≠ k → u.sound j = s.sound j) ∧ u.router = { s.router with table := u.router.table } := by
  obtain ⟨plain, joins, _⟩ := s.restrikeOff_cases k owner time
  cases announced : (s.sound k).announced
  · rw [announced] at room
    obtain ⟨panel, offered⟩ := State.onRestrike_admitted (v := velocity) (source := source) (transit := transit) (plain announced)
      (by simpa using room)
    rw [offered]
    exact ⟨⟨State.sound_own own _, rfl, rfl⟩, rfl, fun j other => State.sound_other other _, rfl⟩
  · rw [announced] at room
    have few : s.tone.queue.length < 167 := by simpa using room
    obtain ⟨_, first⟩ := joins announced (by omega)
    obtain ⟨panel, offered⟩ := State.onRestrike_admitted (v := velocity) (source := source) (transit := transit) first (by
      simp only [Tone.enqueue, List.length_append, List.length_cons, List.length_nil]
      omega)
    rw [offered]
    exact ⟨⟨State.sound_own own _, rfl, rfl⟩, List.append_assoc _ _ _, fun j other => State.sound_other other _, rfl⟩

theorem State.onRestrike_silences (own : 1 ≤ k ∧ k ≤ 88)
    (full : (if (s.sound k).announced then 167 else 168) ≤ s.tone.queue.length)
    (fits : (s.sound k).announced = true → s.tone.queue.length < 192) :
    let u := s.onRestrike k velocity owner source transit time
    u.sound k = (s.sound k).silenced ∧ u.router.sostenutoSet = removeNum k s.router.sostenutoSet ∧
      u.router.droppedOn = min (s.router.droppedOn + 1) 65535 ∧
      u.tone.queue = s.tone.queue ++ (if (s.sound k).announced then [restrikeOffQueued k owner time s] else []) ∧
      (∀ j, j ≠ k → u.sound j = s.sound j) ∧
      u.router.strayOff = s.router.strayOff ∧ u.router.foreignOff = s.router.foreignOff := by
  obtain ⟨plain, joins, _⟩ := s.restrikeOff_cases k owner time
  cases announced : (s.sound k).announced
  · rw [announced] at full
    obtain ⟨panel, offered⟩ := State.onRestrike_refused (v := velocity) (source := source) (transit := transit) (plain announced)
      (by simpa using full)
    rw [offered]
    exact ⟨State.sound_own own _, rfl, rfl, (List.append_nil _).symm, fun j other => State.sound_other other _, rfl, rfl⟩
  · rw [announced] at full
    have many : 167 ≤ s.tone.queue.length := by simpa using full
    obtain ⟨_, first⟩ := joins announced (fits announced)
    obtain ⟨panel, offered⟩ := State.onRestrike_refused (v := velocity) (source := source) (transit := transit) first (by
      simp only [Tone.enqueue, List.length_append, List.length_cons, List.length_nil]
      omega)
    rw [offered]
    exact ⟨State.sound_own own _, rfl, rfl, rfl, fun j other => State.sound_other other _, rfl, rfl⟩

theorem State.onRestrike_overflows (own : 1 ≤ k ∧ k ≤ 88) (announced : (s.sound k).announced = true)
    (full : 192 ≤ s.tone.queue.length) :
    let u := s.onRestrike k velocity owner source transit time
    State.restruck k velocity source s u ∧
      u.tone.queue = [{ entry := .resync s.now, admitted := s.now }, restrikeOnQueued k velocity source transit time s] ∧
      (∀ j, j ≠ k → u.sound j = { s.sound j with announced := false }) ∧ u.announces .queueResync ∧
      u.router = { s.router with table := u.router.table } := by
  obtain ⟨_, first⟩ := (s.restrikeOff_cases k owner time).2.2 announced full
  obtain ⟨panel, offered⟩ := State.onRestrike_admitted (v := velocity) (source := source) (transit := transit) first
    (by rw [State.overflow_tone]; simp [Tone.replaceWith])
  rw [offered]
  refine ⟨⟨State.sound_own own _, rfl, rfl⟩, rfl, fun j other => ?_, s.overflow_announces, rfl⟩
  exact (State.sound_other other _).trans (s.sound_overflow j)

/-- Whatever the queue, a restrike leaves the two counters of OFF intents. -/
theorem State.onRestrike_counters (own : 1 ≤ k ∧ k ≤ 88) (s : State) :
    (s.onRestrike k velocity owner source transit time).router.strayOff = s.router.strayOff ∧
      (s.onRestrike k velocity owner source transit time).router.foreignOff = s.router.foreignOff := by
  by_cases room : s.tone.queue.length < if (s.sound k).announced then 167 else 168
  · have router := (State.onRestrike_sounds (velocity := velocity) (owner := owner) (source := source) (transit := transit)
      (time := time) own room).2.2.2
    rw [router]
    exact ⟨rfl, rfl⟩
  · by_cases overflows : (s.sound k).announced = true ∧ 192 ≤ s.tone.queue.length
    · have router := (State.onRestrike_overflows (velocity := velocity) (owner := owner) (source := source) (transit := transit)
        (time := time) own overflows.1 overflows.2).2.2.2.2
      rw [router]
      exact ⟨rfl, rfl⟩
    · exact (State.onRestrike_silences (velocity := velocity) (owner := owner) (source := source) (transit := transit)
        (time := time) own (Nat.le_of_not_lt room)
        (fun announced => Nat.lt_of_not_le (fun full => overflows ⟨announced, full⟩))).2.2.2.2.2

end Restruck

/-! ### FORCE_OFF -/

section ForceOff

variable {k : Nat} {cause : Cause} {required : Option Source} {time : Time} {s : State} {owner : Source}

theorem State.forceOff_silent (silent : (s.sound k).owner = none) : s.forceOff cause required time k = s := by
  simp [State.forceOff, silent]

theorem State.forceOff_spared (sounding : (s.sound k).owner = some owner) (other : ¬(required = none ∨ required = some owner)) :
    s.forceOff cause required time k = s := by
  simp only [State.forceOff, sounding, if_neg other]

theorem State.forceOff_takes (sounding : (s.sound k).owner = some owner) (hit : required = none ∨ required = some owner) :
    s.forceOff cause required time k =
      (s.leaveSostenuto k).silenceWith k 64 owner { forced := true } (some cause) time := by
  simp only [State.forceOff, sounding, if_pos hit]

theorem State.sound_leaveSostenuto (j : Nat) : (s.leaveSostenuto k).sound j = s.sound j := rfl

theorem State.forceOff_router (cause : Cause) (required : Option Source) (time : Time) (s : State) (k : Nat) :
    (s.forceOff cause required time k).router =
      { s.router with table := (s.forceOff cause required time k).router.table,
                      sostenutoSet := (s.forceOff cause required time k).router.sostenutoSet } := by
  simp only [State.forceOff]
  split
  · rfl
  · split
    · simp only [State.silenceWith]
      split
      · exact State.offerNote_router _ _ _ _ ▸ rfl
      · rfl
    · rfl

theorem State.forceOff_run_router (cause : Cause) (required : Option Source) (time : Time) (keys : List Nat) (s : State) :
    (keys.foldl (State.forceOff cause required time) s).router =
      { s.router with table := (keys.foldl (State.forceOff cause required time) s).router.table,
                      sostenutoSet := (keys.foldl (State.forceOff cause required time) s).router.sostenutoSet } := by
  induction keys generalizing s with
  | nil => rfl
  | cons a rest ih =>
    rw [List.foldl_cons, ih, State.forceOff_router]

theorem State.forceOffAll_router (cause : Cause) (required : Option Source) (time : Time) (s : State) :
    (s.forceOffAll cause required time).router =
      { s.router with table := (s.forceOffAll cause required time).router.table,
                      sostenutoSet := (s.forceOffAll cause required time).router.sostenutoSet } := by
  have run := State.forceOff_run_router cause required time keyNumbers s
  rwa [← State.forceOffAll] at run

end ForceOff

/-- The key sounds, announced, for an owner that a FORCE_OFF meets (R61). -/
def State.forced (required : Option Source) (s : State) (k : Nat) : Bool :=
  (s.sound k).announced && (s.sound k).owner.any (fun x => decide (required = none ∨ required = some x))

/-- The NOTE_OFF of a forced key, as it waits in the queue (R61). -/
def State.forcedQueued (time : Time) (s : State) (k : Nat) : Queued :=
  { entry := .noteOff k 64 ((s.sound k).owner.getD .live) { forced := true } time, admitted := s.now }

theorem keyNumbers_nodup : keyNumbers.Nodup := by decide

section ForceOffAll

variable {cause : Cause} {required : Option Source} {time : Time}

/-- One FORCE_OFF of a run, while the queue has room for its NOTE_OFF. -/
theorem State.forceOff_queues {k : Nat} {s : State} (room : s.forced required k = true → s.tone.queue.length < 192) :
    (s.forceOff cause required time k).tone.queue =
        s.tone.queue ++ (if s.forced required k then [s.forcedQueued time k] else []) ∧
      ∀ j, j ≠ k → (s.forceOff cause required time k).sound j = s.sound j := by
  cases owner : (s.sound k).owner with
  | none => simp [State.forceOff_silent owner, State.forced, owner]
  | some x =>
    by_cases hit : required = none ∨ required = some x
    · rw [State.forceOff_takes owner hit]
      obtain ⟨quiet, _⟩ := (s.leaveSostenuto k).silenceWith_cases k 64 x { forced := true } (some cause) time
      cases announced : (s.sound k).announced
      · rw [quiet announced]
        refine ⟨?_, fun j other => State.sound_other other _⟩
        simp [State.forced, announced, State.silence, State.leaveSostenuto]
      · have meets : s.forced required k = true := by simp [State.forced, announced, owner, hit]
        obtain ⟨panel, joined, _⟩ := State.silenceWith_joins (v := 64) (owner := x) (flags := { forced := true })
          (c := some cause) (m := time) (s := s.leaveSostenuto k) announced (room meets)
        rw [joined, if_pos meets]
        refine ⟨?_, fun j other => State.sound_other other _⟩
        simp [Tone.enqueue, State.forcedQueued, owner, State.leaveSostenuto]
    · rw [State.forceOff_spared owner hit]
      simp [State.forced, owner, hit]

/-- With room for all their NOTE_OFFs, the forced keys of a run come in its order (R61). -/
theorem State.forceOff_run_queues (keys : List Nat) (s : State) (once : keys.Nodup)
    (room : s.tone.queue.length + (keys.filter (s.forced required)).length ≤ 192) :
    (keys.foldl (State.forceOff cause required time) s).tone.queue =
      s.tone.queue ++ (keys.filter (s.forced required)).map (s.forcedQueued time) := by
  induction keys generalizing s with
  | nil => simp
  | cons a rest ih =>
    obtain ⟨fresh, once⟩ := List.nodup_cons.mp once
    obtain ⟨queue, others⟩ := State.forceOff_queues (cause := cause) (required := required) (time := time) (k := a) (s := s)
      (fun meets => by
        rw [List.filter_cons, if_pos meets, List.length_cons] at room
        omega)
    have apart (j : Nat) (among : j ∈ rest) : (s.forceOff cause required time a).sound j = s.sound j :=
      others j (fun same => fresh (same ▸ among))
    have kept : rest.filter ((s.forceOff cause required time a).forced required) = rest.filter (s.forced required) :=
      List.filter_congr (fun j among => by simp only [State.forced, apart j among])
    have entries : (rest.filter (s.forced required)).map ((s.forceOff cause required time a).forcedQueued time) =
        (rest.filter (s.forced required)).map (s.forcedQueued time) :=
      List.map_congr_left (fun j among => by
        simp only [State.forcedQueued, apart j (List.mem_of_mem_filter among), State.forceOff_frame])
    have left : (s.forceOff cause required time a).tone.queue.length + (rest.filter (s.forced required)).length ≤ 192 := by
      rw [List.filter_cons] at room
      rw [queue, List.length_append]
      split at room
      next meets =>
        rw [if_pos meets]
        rw [List.length_cons] at room
        simp only [List.length_cons, List.length_nil]
        omega
      next spared =>
        rw [if_neg spared]
        exact room
    rw [List.foldl_cons, ih _ once (by rw [kept]; exact left), kept, entries, queue, List.append_assoc, List.filter_cons]
    split <;> rfl

/-- Of a run of FORCE_OFFs each key of the list loses an owner that is met, and the others keep theirs (R61). -/
theorem State.forceOff_run_owners (keys : List Nat) (s : State) (k : Nat) :
    ((keys.foldl (State.forceOff cause required time) s).sound k).owner =
      if k ∈ keys ∧ (required = none ∨ required = (s.sound k).owner) then none else (s.sound k).owner := by
  induction keys generalizing s with
  | nil => simp
  | cons a rest ih =>
    rw [List.foldl_cons, ih]
    cases owner : (s.sound a).owner with
    | none =>
      rw [State.forceOff_silent owner]
      by_cases here : k = a
      · subst here
        simp [owner]
      · simp [here]
    | some x =>
      by_cases hit : required = none ∨ required = some x
      · rcases s.forceOff_sounds cause required time a with ⟨_, spared⟩ | silent
        · obtain ⟨some, other⟩ := spared x owner
          exact absurd hit (not_or.mpr ⟨some, other⟩)
        · by_cases here : k = a
          · subst here
            simp [silent.owner, owner, hit]
          · rw [(silent.others k here).1]
            simp [here]
      · rw [State.forceOff_spared owner hit]
        by_cases here : k = a
        · subst here
          simp [owner, hit]
        · simp [here]

end ForceOffAll

/-- Settles O34: the three outcomes of a restrike, the four cases of an OFF intent, one FORCE_OFF, and a run of them. -/
theorem intentsOnSoundingKeys : Obligations.IntentsOnSoundingKeys := by
  refine ⟨fun k velocity owner source transit time s low high sounding => ?restrike, fun k velocity source time s low high => ?off,
    fun k cause required time s low high => ?force, fun cause required time s => ?all⟩
  case restrike =>
    have own : 1 ≤ k ∧ k ≤ 88 := ⟨low, high⟩
    have restrikes : s.onIntent k velocity source transit time = s.onRestrike k velocity owner source transit time := by
      simp only [State.onIntent, sounding]
    rw [restrikes]
    intro u queued off on announced room sounds
    obtain ⟨stray, foreign⟩ := State.onRestrike_counters (velocity := velocity) (owner := owner) (source := source)
      (transit := transit) (time := time) own s
    refine ⟨fun few => ?_, fun full fits => ?_, fun announced full => ?_, stray, foreign, by simp [u, ← restrikes],
      by simp [u, ← restrikes], by simp [u, ← restrikes], by simp [u, ← restrikes], by simp [u, ← restrikes]⟩
    · obtain ⟨struck, queue, others, _⟩ := State.onRestrike_sounds (velocity := velocity) (owner := owner) (source := source)
        (transit := transit) (time := time) own few
      exact ⟨struck, queue, others⟩
    · obtain ⟨sound, set, dropped, queue, others, _⟩ := State.onRestrike_silences (velocity := velocity) (owner := owner)
        (source := source) (transit := transit) (time := time) own full fits
      exact ⟨sound, fun j => by rw [set, mem_removeNum], dropped, queue, others⟩
    · obtain ⟨struck, queue, others, notice, _⟩ := State.onRestrike_overflows (velocity := velocity) (owner := owner)
        (source := source) (transit := transit) (time := time) own announced full
      exact ⟨struck, queue, others, notice⟩
  case off =>
    refine ⟨fun silent => ?_, fun other sounding foreign => ?_, fun sounding member effective => ?_, fun sounding free => ?_⟩
    · simp only [State.offIntent, silent]
      rfl
    · simp only [State.offIntent, sounding]
      exact if_pos foreign
    · simp [State.offIntent, sounding, member, effective]
    · have unheld : (s.router.sostenutoSet.contains k && s.pedals.sostenuto.effective) = false := by
        rcases free with out | off
        · simp [out]
        · simp [off]
      have silences : s.offIntent k velocity source time = s.silenceWith k velocity source {} none time := by
        simp only [State.offIntent, sounding]
        rw [if_neg (not_not.mpr rfl), unheld, if_neg (by simp)]
      obtain ⟨quiet, offers⟩ := s.silenceWith_cases k velocity source {} none time
      exact ⟨fun unannounced => silences.trans (quiet unannounced), fun announced => silences.trans (offers announced)⟩
  case force =>
    have own : 1 ≤ k ∧ k ≤ 88 := ⟨low, high⟩
    intro u entry
    refine ⟨fun silent => State.forceOff_silent silent, fun owner other sounding required' differs => ?_,
      fun owner sounding hit => ?_⟩
    · subst required'
      exact State.forceOff_spared sounding (by simpa using differs)
    · have taken : u = (s.leaveSostenuto k).silenceWith k 64 owner { forced := true } (some cause) time :=
        State.forceOff_takes sounding hit
      obtain ⟨quiet, _⟩ := (s.leaveSostenuto k).silenceWith_cases k 64 owner { forced := true } (some cause) time
      have joins (announced : (s.sound k).announced = true) (room : s.tone.queue.length < 192) :=
        State.silenceWith_joins (v := 64) (owner := owner) (flags := { forced := true }) (c := some cause) (m := time)
          (s := s.leaveSostenuto k) announced room
      have overflows (announced : (s.sound k).announced = true) (full : 192 ≤ s.tone.queue.length) :=
        State.silenceWith_overflows (v := 64) (owner := owner) (flags := { forced := true }) (c := some cause) (m := time)
          (s := s.leaveSostenuto k) announced full
      have silent := (s.leaveSostenuto k).silenceWith_soundsAs k 64 owner { forced := true } (some cause) time
      rw [← taken] at silent quiet joins overflows
      have router : u.sound k = (s.sound k).silenced ∧
          u.router = { s.router with table := u.router.table, sostenutoSet := u.router.sostenutoSet } := by
        cases announced : (s.sound k).announced
        · rw [quiet announced]
          exact ⟨State.sound_own own _, rfl⟩
        · by_cases room : s.tone.queue.length < 192
          · obtain ⟨panel, joined, _⟩ := joins announced room
            rw [joined]
            exact ⟨State.sound_own own _, rfl⟩
          · obtain ⟨panel, emptied⟩ := overflows announced (Nat.le_of_not_lt room)
            rw [emptied]
            refine ⟨((State.silence k (s.leaveSostenuto k)).sound_overflow k).trans ?_, rfl⟩
            rw [State.silence, State.sound_own own]
            rfl
      refine ⟨router.1, fun j => by rw [silent.set]; exact mem_removeNum j k _, router.2, silent.others, fun unannounced => ?_,
        fun announced room => ?_, fun announced full => ?_, by simp [u], by simp [u], by simp [u], by simp [u], by simp [u]⟩
      · rw [quiet unannounced]
        rfl
      · obtain ⟨panel, joined, stream⟩ := joins announced room
        rw [joined]
        exact ⟨rfl, fun j other => State.sound_other other _, fun all few => stream (by rw [State.leaveSostenuto, all]; rfl) few⟩
      · obtain ⟨panel, emptied⟩ := overflows announced full
        rw [emptied]
        exact ⟨rfl, State.overflow_announces _⟩
  case all =>
    have router := s.forceOffAll_router cause required time
    have owners (k : Nat) := State.forceOff_run_owners (cause := cause) (required := required) (time := time) keyNumbers s k
    have queues := State.forceOff_run_queues (cause := cause) (required := required) (time := time) keyNumbers s keyNumbers_nodup
    rw [← State.forceOffAll] at owners queues
    obtain ⟨_, _, scanner, _, pedals, _, _, store, transport, _⟩ := s.forceOffAll_frame cause required time
    generalize s.forceOffAll cause required time = u at *
    intro u' hit
    refine ⟨fun k low high => ?_, fun room => ?_, (congrArg Router.strayOff router).trans rfl, (congrArg Router.foreignOff router).trans rfl,
      (congrArg Router.droppedOn router).trans rfl, scanner, pedals, store, transport⟩
    · refine (owners k).trans ?_
      simp only [mem_keyNumbers, low, high, true_and]
    · have forced : hit = keyNumbers.filter (s.forced required) := List.filter_congr (fun _ _ => rfl)
      rw [forced] at room ⊢
      exact (queues room).trans (congrArg (s.tone.queue ++ ·) (List.map_congr_left (fun _ _ => rfl)))

end Sys2Proof.Machine
end

section
/-! PROOFS. NOTE_COPY and SOUNDING_REPORT, the Tone Stream's requests, and the drain (R66, R67, R75 to R82). -/

namespace Sys2Proof.Machine

open Sys2Proof

/-! ### Coded bytes and items (R202, R203) -/

theorem byte_eq_iff (b : Byte) (n : Nat) (small : n < 256) : b = BitVec.ofNat 8 n ↔ b.toNat = n := by
  constructor
  · rintro rfl
    rw [BitVec.toNat_ofNat]
    omega
  · intro same
    exact BitVec.eq_of_toNat_eq (by rw [BitVec.toNat_ofNat, same]; omega)

/-- A yes-or-no byte by its value. -/
theorem yesNo_byte (b : Byte) : yesNo b.toNat = if b = 0 then some false else if b = 1 then some true else none := by
  have zero := byte_eq_iff b 0 (by omega)
  have one := byte_eq_iff b 1 (by omega)
  simp only [yesNo, ← zero, ← one]
  rfl

section Items

variable {α : Type} {f : Nat → Option α} {o : Option Nat}

/-- An item that is read has a code. -/
theorem codedItem_some {x : Option α} (read : codedItem f o = some x) (c : Nat) (carried : o = some c) : (f c).isSome = true := by
  subst carried
  cases code : f c with
  | none => simp [codedItem, code] at read
  | some a => rfl

/-- A yes-or-no item with a code is read as its value. -/
theorem codedItem_yesNo (good : ∀ c, o = some c → c ≤ 1) : codedItem yesNo o = some (o.map (fun c => decide (c = 1))) := by
  cases o with
  | none => rfl
  | some c =>
    have small := good c rfl
    have code : yesNo c = some (decide (c = 1)) := by
      simp only [yesNo]
      split
      next zero => simp [zero]
      · split
        next one => simp [one]
        next => omega
    simp [codedItem, code]

theorem yesNo_isSome (c : Nat) : (yesNo c).isSome = true ↔ c ≤ 1 := by
  simp only [yesNo]
  split
  · simp; omega
  · split <;> simp <;> omega

theorem reservedBits_iff (bits count : Nat) : reservedBits bits count = false ↔ bits < 2 ^ count := by
  simp only [reservedBits, bne_eq_false_iff_eq, Nat.div_eq_zero_iff]
  have positive := Nat.two_pow_pos count
  omega

end Items

/-! ### NOTE_COPY and SOUNDING_REPORT -/

section Copy

variable {f : Frame} {setting lo hi clear : Byte} {rest : List Byte} {s u : State} {r : Reply}

theorem exec_noteCopy_of_judge (h : s.canTake f (setting :: lo :: hi :: rest))
    (hj : judgeNoteCopy (setting :: lo :: hi :: rest) (s.received f) = some (u, r)) : exec (.noteCopy f) s = answered f r u :=
  takeRequest_of_judge (kind := .noteCopy) h (Nat.le_add_left 3 rest.length) (by decide) hj

theorem exec_soundingReport_of_judge (h : s.canTake f (clear :: rest))
    (hj : judgeSoundingReport (clear :: rest) (s.received f) = some (u, r)) : exec (.soundingReport f) s = answered f r u :=
  takeRequest_of_judge (kind := .soundingReport) h (Nat.le_add_left 1 rest.length) (by decide) hj

theorem copySetting_byte (setting : Byte) (lo hi : Nat) :
    copySetting setting.toNat lo hi =
      if setting = 1 then some .off
      else if setting = 2 then some .all
      else if setting = 3 ∧ 1 ≤ lo ∧ lo ≤ hi ∧ hi ≤ 88 then some (.range lo hi)
      else none := by
  have one := byte_eq_iff setting 1 (by omega)
  have two := byte_eq_iff setting 2 (by omega)
  have three := byte_eq_iff setting 3 (by omega)
  have good : (keyOk lo && keyOk hi && decide (lo ≤ hi)) = true ↔ 1 ≤ lo ∧ lo ≤ hi ∧ hi ≤ 88 := by
    simp only [Bool.and_eq_true, keyOk_iff, decide_eq_true_eq]
    omega
  split_ifs with off all range
  · rw [one.mp off]
    rfl
  · rw [two.mp all]
    rfl
  · rw [three.mp range.1]
    exact if_pos (good.mpr range.2)
  · unfold copySetting
    split
    next first => exact absurd (one.mpr first) off
    next second => exact absurd (two.mpr second) all
    next third => exact if_neg (fun inRange => range ⟨three.mpr third, good.mp inRange⟩)
    · rfl

end Copy

section CopyJudged

variable {setting lo hi clear : Byte} (rest : List Byte) (s : State)

theorem judgeNoteCopy_sets {c : CopySetting} (code : copySetting setting.toNat lo.toNat hi.toNat = some c) :
    judgeNoteCopy (setting :: lo :: hi :: rest) s = okWith .none { s with router := { s.router with copy := c } } := by
  simp only [judgeNoteCopy, field_byte, field_cons, code]

theorem judgeNoteCopy_range (code : copySetting setting.toNat lo.toNat hi.toNat = none) :
    judgeNoteCopy (setting :: lo :: hi :: rest) s = refuse .range s := by
  simp only [judgeNoteCopy, field_byte, field_cons, code]

theorem judgeSoundingReport_reports {clears : Bool} (code : yesNo clear.toNat = some clears) :
    judgeSoundingReport (clear :: rest) s =
      okWith (.sounding s.soundingReport)
        (if clears then { s with router := { s.router with strayOff := 0, foreignOff := 0, droppedOn := 0 } } else s) := by
  simp only [judgeSoundingReport, field_byte, code]

theorem judgeSoundingReport_range (code : yesNo clear.toNat = none) :
    judgeSoundingReport (clear :: rest) s = refuse .range s := by
  simp only [judgeSoundingReport, field_byte, code]

theorem State.soundingReport_received (f : Frame) : (s.received f).soundingReport = s.soundingReport := by
  simp [State.soundingReport]

end CopyJudged

/-- Settles O32: the copy setting by its code, and the report with or without the clear. -/
theorem noteCopyAndSoundingReport : Obligations.NoteCopyAndSoundingReport := by
  refine ⟨fun f setting lo hi rest s h => ?copy, fun f clear rest s h => ?report⟩
  case copy =>
    have sets {c : CopySetting} (code : copySetting setting.toNat lo.toNat hi.toNat = some c) :
        exec (.noteCopy f) s = okFor f .none { s.received f with router := { s.router with copy := c } } := by
      have answers := exec_noteCopy_of_judge h (judgeNoteCopy_sets rest (s.received f) code)
      rwa [State.received_router] at answers
    have code := copySetting_byte setting lo.toNat hi.toNat
    split_ifs at code ⊢
    · exact sets code
    · exact sets code
    · exact sets code
    · exact exec_noteCopy_of_judge h (judgeNoteCopy_range rest (s.received f) code)
  case report =>
    intro report
    have reports {clears : Bool} (code : yesNo clear.toNat = some clears) :
        exec (.soundingReport f) s = okFor f (.sounding report)
          (if clears then { s.received f with router := { s.router with strayOff := 0, foreignOff := 0, droppedOn := 0 } }
          else s.received f) := by
      have answers := exec_soundingReport_of_judge h (judgeSoundingReport_reports rest (s.received f) code)
      rwa [State.soundingReport_received, State.received_router] at answers
    have code := yesNo_byte clear
    split_ifs at code ⊢
    · exact reports code
    · exact reports code
    · exact exec_soundingReport_of_judge h (judgeSoundingReport_range rest (s.received f) code)

/-! ### TONE_STREAM_SETUP and FLUSH_TONE -/

section Setup

variable {f : Frame} {p : List Byte} {s u : State} {r : Reply}

/-- The exchange of a frame leaves the tone record but for the drain exchange that it shuts (R192). -/
theorem State.received_tone (f : Frame) (s : State) : ∃ drain, (s.received f).tone = { s.tone with drain := drain } := by
  cases link : f.link
  · exact ⟨none, by simp [State.received, State.beginExchange, link]⟩
  · exact ⟨s.tone.drain, by simp [State.received, State.beginExchange, link]⟩

theorem exec_toneStreamSetup_of_judge {marks : Byte} (h : s.canTake f (marks :: p))
    (hj : judgeToneStreamSetup (marks :: p) (s.received f) = some (u, r)) : exec (.toneStreamSetup f) s = answered f r u :=
  takeRequest_of_judge (kind := .toneStreamSetup) h (Nat.le_add_left 1 p.length) (by decide) hj

theorem exec_flushTone_of_judge (h : s.canTake f p) (hj : judgeFlushTone (s.received f) = some (u, r)) :
    exec (.flushTone f) s = answered f r u :=
  takeRequest_of_judge (kind := .flushTone) h (Nat.zero_le p.length) (by decide) hj

/-- The items a TONE_STREAM_SETUP may carry (R81, R203). -/
def setupGood (marks : Nat) (l : List (Option Nat)) : Prop :=
  marks < 8 ∧ (∀ m, item l 0 = some m → m = 1 ∨ m = 2) ∧ (∀ n, item l 1 = some n → n = 1 ∨ n = 8 ∨ n = 32 ∨ n = 96) ∧
    (∀ c, item l 2 = some c → c ≤ 1)

theorem codedItem_ready {o : Option Nat} (good : ∀ m, o = some m → m = 1 ∨ m = 2) (standing : ReadyMode) :
    ∃ x, codedItem readyOfCode o = some x ∧
      x.getD standing = if o = some 1 then .single else if o = some 2 then .burst else standing := by
  cases o with
  | none => exact ⟨none, rfl, rfl⟩
  | some m =>
    rcases good m rfl with rfl | rfl
    · exact ⟨some .single, rfl, rfl⟩
    · exact ⟨some .burst, rfl, rfl⟩

theorem codedItem_trigger {o : Option Nat} (good : ∀ n, o = some n → n = 1 ∨ n = 8 ∨ n = 32 ∨ n = 96) :
    codedItem triggerOf o = some o := by
  cases o with
  | none => rfl
  | some n => simp [codedItem, triggerOf, good n rfl]

theorem judgeToneStreamSetup_range {marks : Byte} {l : List (Option Nat)} (items : readItems [1, 1, 1] marks.toNat p = some l)
    (bad : ¬setupGood marks.toNat l) (s : State) : judgeToneStreamSetup (marks :: p) s = refuse .range s := by
  have carried : optionalItems .toneStreamSetup (marks :: p) = some l := by
    simp only [optionalItems, itemLayout, if_true, field_byte]
    exact items
  simp only [judgeToneStreamSetup, carried, Option.bind_some, field_byte]
  split
  · rfl
  next few =>
    have marksOk : marks.toNat < 2 ^ 3 := (reservedBits_iff _ _).mp (by simpa using few)
    split
    next mode trigger clear readMode readTrigger readClear =>
      refine absurd ⟨marksOk, fun m carried => ?_, fun n carried => ?_, fun c carried => ?_⟩ bad
      · have code := codedItem_some readMode m carried
        unfold readyOfCode at code
        split at code
        exacts [.inl rfl, .inr rfl, nomatch code]
      · have code := codedItem_some readTrigger n carried
        unfold triggerOf at code
        split at code
        next level => exact level
        next => exact nomatch code
      · exact (yesNo_isSome c).mp (codedItem_some readClear c carried)
    · rfl

/-- The tone record a good TONE_STREAM_SETUP leaves, and its reply (R81). -/
theorem judgeToneStreamSetup_sets {marks : Byte} {l : List (Option Nat)} (items : readItems [1, 1, 1] marks.toNat p = some l)
    (good : setupGood marks.toNat l) (s : State) :
    ∃ mode, mode.getD s.tone.mode =
        (if item l 0 = some 1 then .single else if item l 0 = some 2 then .burst else s.tone.mode) ∧
      judgeToneStreamSetup (marks :: p) s =
        okWith (.toneSetup (s.setupTone mode (item l 1) (decide (item l 2 = some 1))).2)
          (s.setupTone mode (item l 1) (decide (item l 2 = some 1))).1 := by
  have carried : optionalItems .toneStreamSetup (marks :: p) = some l := by
    simp only [optionalItems, itemLayout, if_true, field_byte]
    exact items
  obtain ⟨marksOk, modeOk, triggerOk, clearOk⟩ := good
  obtain ⟨mode, readMode, stands⟩ := codedItem_ready modeOk s.tone.mode
  refine ⟨mode, stands, ?_⟩
  have clears : ((item l 2).map (fun c => decide (c = 1))).getD false = decide (item l 2 = some 1) := by
    cases item l 2 <;> simp
  simp only [judgeToneStreamSetup, carried, Option.bind_some, field_byte, (reservedBits_iff _ 3).mpr marksOk, readMode,
    codedItem_trigger triggerOk, codedItem_yesNo clearOk, clears, Bool.false_eq_true, if_false]

/-- READY_T as it is judged afresh: the latch alone may change (R81, step 2). -/
theorem Tone.judgeReady_latch (now : Time) (t : Tone) :
    ∃ latch, t.judgeReady now = { t with latch := latch } ∧ (t.mode = .single → latch = t.latch) ∧
      (t.mode = .burst → latch = (!t.queue.isEmpty &&
        (t.latch || decide (t.trigger ≤ t.queue.length) || t.headAged now || t.headMustNotWait))) := by
  obtain ⟨queue, mode, trigger, latch, resyncs, lastOverflow, drain⟩ := t
  cases mode
  · exact ⟨latch, rfl, fun _ => rfl, nofun⟩
  · cases queue
    · exact ⟨_, rfl, nofun, fun _ => rfl⟩
    · exact ⟨_, rfl, nofun, fun _ => rfl⟩

end Setup

/-- Settles O36: the refusal, READY_T judged afresh under the new settings, and the flush. -/
theorem toneStreamSetupAndFlush : Obligations.ToneStreamSetupAndFlush := by
  refine ⟨fun f marks p l s h items => ?setup, fun f p s h => ?flush⟩
  case setup =>
    intro good mode trigger
    obtain ⟨drain, tone⟩ := State.received_tone f s
    refine ⟨fun bad => exec_toneStreamSetup_of_judge h (judgeToneStreamSetup_range items bad _), fun sound => ?_⟩
    obtain ⟨read, stands, judged⟩ := judgeToneStreamSetup_sets items sound (s.received f)
    simp only [tone] at stands
    obtain ⟨latch, ready, single, burst⟩ :=
      Tone.judgeReady_latch f.now { s.tone with drain := drain, mode := mode, trigger := trigger }
    have result : (s.received f).setupTone read (item l 1) (decide (item l 2 = some 1)) =
        ({ s.received f with
            tone := if item l 2 = some 1 then
                { s.tone with drain := drain, mode := mode, trigger := trigger, latch := latch, resyncs := 0, lastOverflow := none }
              else { s.tone with drain := drain, mode := mode, trigger := trigger, latch := latch } },
          { mode := mode, trigger := trigger, occupancy := s.tone.queue.length, noteOns := s.tone.noteOns,
            resyncs := s.tone.resyncs, lastOverflow := s.tone.lastOverflow }) := by
      simp only [State.setupTone, tone, State.received_now, stands, decide_eq_true_eq]
      simp only [mode, trigger] at ready
      rw [ready]
      rfl
    rw [result] at judged
    refine ⟨_, exec_toneStreamSetup_of_judge h judged, rfl, ?_⟩
    dsimp only
    by_cases clears : item l 2 = some 1
    · simp only [clears, if_true]
      exact ⟨trivial, trivial, trivial, trivial, trivial, fun isSingle => ⟨by simp [Tone.ready, isSingle], single isSingle⟩,
        fun isBurst => Eq.trans (by simp [Tone.ready, isBurst]) (burst isBurst)⟩
    · simp only [clears, if_false]
      exact ⟨trivial, trivial, trivial, trivial, trivial, fun isSingle => ⟨by simp [Tone.ready, isSingle], single isSingle⟩,
        fun isBurst => Eq.trans (by simp [Tone.ready, isBurst]) (burst isBurst)⟩
  case flush =>
    obtain ⟨drain, tone⟩ := State.received_tone f s
    have judged : judgeFlushTone (s.received f) = okWith (.flushed s.tone.queue.length)
        (State.clearAnnounced { s.received f with tone := (s.received f).tone.replaceWith (.resync f.now) f.now }) := by
      simp [judgeFlushTone, Tone.occupancy]
    refine ⟨_, exec_flushTone_of_judge h judged, rfl, ?_, ?_, ?_, fun k => ?_, by simp [State.clearAnnounced], rfl, rfl, ?_, ?_⟩
    · simp only [State.clearAnnounced_frame, tone]
      cases mode : s.tone.mode <;> simp [Tone.ready, Tone.replaceWith]
    · simp [Tone.replaceWith, tone]
    · simp [Tone.replaceWith, tone]
    · refine (State.sound_clearAnnounced _ k).trans ?_
      rw [← State.received_sound f s k]
      rfl
    all_goals simp

/-! ### The drain -/

section Drain

variable {now : Time} {s : State}

theorem Tone.removeHead_queue (now : Time) (t : Tone) : (t.removeHead now).queue = t.queue.drop 1 := by
  simp only [Tone.removeHead]
  split <;> rfl

/-- The latch after a removal (R79, R80). -/
theorem Tone.removeHead_latch (now : Time) (t : Tone) :
    ((t.removeHead now).queue = [] → (t.removeHead now).latch = false) ∧
    (∀ q rest, (t.removeHead now).queue = q :: rest →
      ((t.removeHead now).latch = true ↔
        t.latch = true ∨ (t.mode = .burst ∧
          (2000 ≤ (now - q.admitted).toNat ∨ ∃ time, q.entry = .allOff time ∨ q.entry = .resync time)))) := by
  rw [Tone.removeHead_queue]
  refine ⟨fun empty => by simp [Tone.removeHead, empty], fun q rest head => ?_⟩
  have waits : q.entry.mustNotWait = true ↔ ∃ time, q.entry = .allOff time ∨ q.entry = .resync time := by
    cases q.entry <;> simp [ToneEntry.mustNotWait]
  simp only [Tone.removeHead, head, List.isEmpty_cons, Bool.false_eq_true, if_false, Tone.headAged, Tone.headMustNotWait,
    Bool.or_eq_true, Bool.and_eq_true, decide_eq_true_eq, waits]
  exact Iff.rfl

theorem Tone.removeHead_frame (now : Time) (t : Tone) :
    t.removeHead now = { t with queue := (t.removeHead now).queue, latch := (t.removeHead now).latch } := by
  simp only [Tone.removeHead]
  split <;> rfl

theorem exec_drain (on : s.system.mainOn = true) : exec (.drain now) s = .next (State.beginDrain { s with now := now }) :=
  exec_event on now

theorem exec_drainSlotStart (on : s.system.mainOn = true) :
    exec (.drainSlotStart now) s = .next (State.startSlot { s with now := now }) := exec_event on now

theorem exec_drainSlotComplete (on : s.system.mainOn = true) :
    exec (.drainSlotComplete now) s = .next (State.completeSlot { s with now := now }) := exec_event on now

theorem exec_ageCondition (on : s.system.mainOn = true) :
    exec (.ageCondition now) s = .next (State.onAge { s with now := now }) := exec_event on now

end Drain

/-- Settles O37: the exchange's beginning, a slot's start by the queue, its end by the copy, an abandoned slot, and the age condition. -/
theorem drainSlotsDeliverTheHead : Obligations.DrainSlotsDeliverTheHead := by
  intro now s on
  refine ⟨⟨_, exec_drain on, ?begins⟩, fun q rest idle head => ?latches, fun idle empty => ?filler, fun copy stale slot =>
    ⟨_, exec_drainSlotComplete on, ?completes⟩, fun idle => ?idle, exec_event on now, fun head rest queue => ?aged,
    fun empty => ?young⟩
  case begins =>
    refine ⟨rfl, ?_, rfl, rfl, rfl, rfl⟩
    show LinkOut.bytes ([] ++ byte1 s.tone.queue.length) = _
    simp [byte1, beBytes]
  case latches =>
    rw [exec_drainSlotStart on]
    simp only [State.startSlot, idle, head]
  case filler =>
    rw [exec_drainSlotStart on]
    simp only [State.startSlot, idle, empty]
    rfl
  case completes =>
    obtain ⟨emptied, heads⟩ := Tone.removeHead_latch now s.tone
    cases stale <;> simp only [State.completeSlot, slot, Bool.false_eq_true, if_false, if_true]
    · refine ⟨Tone.removeHead_queue now s.tone, rfl, nofun, fun _ => emptied, fun q rest head _ => heads q rest head, ?_, rfl, rfl, rfl⟩
      exact congrArg (fun t : Tone => { t with drain := some .idle }) (Tone.removeHead_frame now s.tone)
    · exact ⟨rfl, rfl, fun _ => rfl, nofun, fun _ _ _ => nofun, rfl, rfl, rfl, rfl⟩
  case idle =>
    rw [exec_drainSlotComplete on]
    simp only [State.completeSlot, idle]
  case aged =>
    rw [exec_ageCondition on]
    simp only [State.onAge, Tone.headAged, queue, decide_eq_true_eq]
    exact apply_ite Host.Outcome.next _ _ _
  case young =>
    rw [exec_ageCondition on]
    simp [State.onAge, Tone.headAged, empty]

end Sys2Proof.Machine
end

section
/-! PROOFS. The pedals: sensing, live values, entries, edges and records (R46 to R53, R63, R64). -/

namespace Sys2Proof.Machine

open Sys2Proof

/-! ### Live values and what follows from them -/

section Live

variable {s : State}

theorem PedalUnit.level_setLevel (u : PedalUnit) (p : LevelId) (x : LevelPedal) : (u.setLevel p x).level p = x := by
  cases p <;> rfl

theorem PedalUnit.setLevel_setLevel (u : PedalUnit) (p : LevelId) (x y : LevelPedal) :
    (u.setLevel p x).setLevel p y = u.setLevel p y := by cases p <;> rfl

theorem PedalUnit.setSense_level (u : PedalUnit) (p : LevelId) (x : PedalSense) :
    u.setSense p.pedal x = u.setLevel p { u.level p with sense := x } := by cases p <;> rfl

theorem PedalUnit.sense_level (u : PedalUnit) (p : LevelId) : u.sense p.pedal = (u.level p).sense := by cases p <;> rfl

theorem PedalUnit.setLevel_level (u : PedalUnit) (p : LevelId) : u.setLevel p (u.level p) = u := by cases p <;> rfl

/-- The recomputed level is held, and the pedal is otherwise as it was (R52). -/
theorem State.recomputeLevel_pedals (p : LevelId) (time : Time) (s : State) :
    (s.recomputeLevel p time).pedals =
      s.pedals.setLevel p { s.pedals.level p with effective := (s.pedals.level p).combined } := by
  simp only [State.recomputeLevel]
  split
  next same => rw [same, PedalUnit.setLevel_level]
  next differs => simp [State.modLevel]

/-- With room in the queue a recomputed level makes one PEDAL entry when it differs, and changes nothing else (R52, R71). -/
theorem State.recomputeLevel_joins (p : LevelId) (time : Time) (room : s.tone.queue.length < 192) :
    ∃ tone, s.recomputeLevel p time = { s with pedals := (s.recomputeLevel p time).pedals, tone := tone } ∧
      tone.queue = s.tone.queue ++
        (if (s.pedals.level p).combined = (s.pedals.level p).effective then []
        else [{ entry := .pedal p (s.pedals.level p).combined (s.pedals.level p).source time, admitted := s.now }]) := by
  simp only [State.recomputeLevel]
  split
  · exact ⟨s.tone, rfl, (List.append_nil _).symm⟩
  · rw [State.offerTone_overflows (by trivial), if_pos (show (State.modLevel p _ s).tone.queue.length < 192 from room)]
    exact ⟨_, rfl, rfl⟩

/-- A live pedal change reaches the recorder in RECORDING alone (R53, R154). -/
theorem State.livePedal_quiet {p : PedalId} {level : Nat} {time : Time} (quiet : s.transport.state ≠ .recording) :
    (s.livePedal p level time).store = s.store ∧ (s.livePedal p level time).transport = s.transport := by
  rw [State.livePedal, if_neg quiet]
  exact ⟨rfl, rfl⟩

/-- A recording that can take the record has it written, and goes on (R137, R154). -/
theorem State.livePedal_records {p : PedalId} {level : Nat} {time : Time} {c : RecordingContext} {e : Take} {u : State}
    (recording : u.transport.state = .recording) (store : u.store = s.store) (ready : s.records c e time) :
    (u.livePedal p level time).transport = u.transport ∧
      s.store.Records (u.livePedal p level time).store c e (.pedal p level) (c.positionAt time) (c.reckon time).2 := by
  obtain ⟨st, recorded, records⟩ := Store.record_records (p := .pedal p level) ready
  have goesOn : u.livePedal p level time = { u with store := st } := by
    simp only [State.livePedal, recording, if_true, State.recordWith, store, recorded, Bool.false_eq_true, if_false]
  rw [goesOn]
  exact ⟨rfl, records⟩

end Live

/-! ### A plausible sample of an ACTIVE pedal -/

section Active

variable {now : Time} {p : PedalId} {raw : Nat} {s : State}

theorem exec_pedalSample (on : s.system.mainOn = true) (range : raw ≤ 1023) :
    exec (.pedalSample now p raw) s = .next (State.samplePedal p raw { s with now := now }) := by
  show proceedIf _ _ = _
  rw [proceedIf, if_pos ((isRaw_iff raw).mpr range)]
  exact exec_event on now

theorem State.samplePedal_active (active : (s.pedals.sense p).state = .active) (good : plausible raw = true) :
    s.samplePedal p raw = s.activePedal p raw := by
  simp only [State.samplePedal, active, good, if_true]

theorem depthOf_le (raw restRaw bottomRaw : Nat) : depthOf raw restRaw bottomRaw ≤ 1000 := (clampInt_le 0 1000 (by omega) _).2

theorem levelReplaces_iff (computed reported : Nat) : levelReplaces computed reported = true ↔
    2 ≤ max computed reported - min computed reported ∨ ((computed = 0 ∨ computed = 127) ∧ computed ≠ reported) := by
  have distance : rawDistance computed reported = max computed reported - min computed reported := rfl
  simp [levelReplaces, distance]

end Active

/-! ### A live level -/

section Level

variable {p : LevelId} {v : Nat} {s : State}

theorem PedalUnit.setLevel_self (u : PedalUnit) (p : LevelId) (x : LevelPedal) (same : x = u.level p) : u.setLevel p x = u := by
  rw [same, PedalUnit.setLevel_level]

theorem State.setLive_eq (differs : (s.pedals.level p).live ≠ v) :
    s.setLive p v = ((s.modLevel p (fun x => { x with live := v })).recomputeLevel p s.now).livePedal p.pedal v s.now :=
  if_neg differs

theorem State.setLive_pedals (differs : (s.pedals.level p).live ≠ v) :
    (s.setLive p v).pedals =
      s.pedals.setLevel p { s.pedals.level p with live := v, effective := max v (s.pedals.level p).playback } := by
  rw [State.setLive_eq differs]
  simp only [State.livePedal_frame, State.recomputeLevel_pedals]
  simp only [State.modLevel, PedalUnit.setLevel_setLevel, PedalUnit.level_setLevel]
  rfl

/-- With room for its entry a live level leaves everything but the pedal, the queue and the recorder as it was (R52, R53). -/
theorem State.setLive_joins (differs : (s.pedals.level p).live ≠ v) (room : s.tone.queue.length < 192) :
    let x := s.pedals.level p
    ∃ tone, s.setLive p v = State.livePedal p.pedal v s.now
        { s with pedals := s.pedals.setLevel p { x with live := v, effective := max v x.playback }, tone := tone } ∧
      tone.queue = s.tone.queue ++
        (if max v x.playback = x.effective then []
        else [{ entry := .pedal p (max v x.playback) (if x.playback ≤ v then .live else .playback) s.now, admitted := s.now }]) := by
  intro x
  obtain ⟨tone, joined, queue⟩ :=
    State.recomputeLevel_joins p s.now (s := s.modLevel p (fun y => { y with live := v })) room
  rw [State.recomputeLevel_pedals] at joined
  simp only [State.modLevel, PedalUnit.setLevel_setLevel, PedalUnit.level_setLevel] at joined queue
  refine ⟨tone, ?_, queue⟩
  rw [State.setLive_eq differs]
  exact congrArg (State.livePedal p.pedal v s.now) joined

end Level

/-! ### The sostenuto switch -/

section Switch

variable (m : Time) (s : State)

/-- The switch on, live or by playback (R52). -/
def SwitchPedal.on (x : SwitchPedal) : Bool := x.live || x.playback

theorem State.recomputeSwitch_same (same : s.pedals.sostenuto.on = s.pedals.sostenuto.effective) : s.recomputeSwitch m = s := by
  simp only [State.recomputeSwitch]
  exact if_pos same

theorem State.recomputeSwitch_edge (differs : s.pedals.sostenuto.on ≠ s.pedals.sostenuto.effective) :
    s.recomputeSwitch m =
      if s.pedals.sostenuto.on then (s.modSwitch (fun y => { y with effective := s.pedals.sostenuto.on })).sostenutoOn
      else State.sostenutoOff m (s.modSwitch (fun y => { y with effective := s.pedals.sostenuto.on })) := by
  simp only [State.recomputeSwitch]
  exact if_neg differs

theorem State.recomputeSwitch_pedals :
    (s.recomputeSwitch m).pedals =
      { s.pedals with sostenuto := { s.pedals.sostenuto with effective := s.pedals.sostenuto.on } } := by
  by_cases same : s.pedals.sostenuto.on = s.pedals.sostenuto.effective
  · rw [State.recomputeSwitch_same m s same, same]
  · rw [State.recomputeSwitch_edge m s same]
    split <;> simp [State.modSwitch]

/-- An on edge: the Sostenuto Set becomes the set of SOUNDING keys (R63). -/
theorem State.recomputeSwitch_on (on : s.pedals.sostenuto.on = true) (off : s.pedals.sostenuto.effective = false) :
    (s.recomputeSwitch m).router = { s.router with sostenutoSet := s.soundingKeys } ∧ (s.recomputeSwitch m).tone = s.tone := by
  rw [State.recomputeSwitch_edge m s (by simp [on, off]), if_pos on]
  exact ⟨rfl, rfl⟩

/-- One member of an off edge loses its owner exactly when its mark is set (R64). -/
theorem State.sostenutoRelease_owner (k : Nat) :
    (((s.sostenutoRelease m k).sound k).owner = if (s.sound k).released then none else (s.sound k).owner) ∧
      ((s.sound k).released = false → s.sostenutoRelease m k = s) ∧
      ∀ j, j ≠ k → s.soundsSame (s.sostenutoRelease m k) j := by
  simp only [State.sostenutoRelease]
  split
  next silent => exact ⟨by simp [silent], fun _ => rfl, fun _ _ => ⟨rfl, rfl⟩⟩
  next owner sounding =>
    split
    next released =>
      have silent := s.silenceWith_soundsAs k 64 owner {} none m
      exact ⟨silent.owner, fun kept => absurd released (by simp [kept]), silent.others⟩
    next kept => exact ⟨rfl, fun _ => rfl, fun _ _ => ⟨rfl, rfl⟩⟩

theorem State.sostenutoRelease_run (l : List Nat) (k : Nat) :
    ((l.foldl (State.sostenutoRelease m) s).sound k).owner =
      if k ∈ l ∧ (s.sound k).released = true then none else (s.sound k).owner := by
  induction l generalizing s with
  | nil => simp
  | cons a rest ih =>
    obtain ⟨own, kept, others⟩ := s.sostenutoRelease_owner m a
    rw [List.foldl_cons, ih]
    by_cases here : k = a
    · subst here
      cases released : (s.sound k).released
      · simp [kept released, released]
      · simp [own, released]
    · rw [(others k here).1, (others k here).2]
      simp [here]

/-- An off edge: the released members become SILENT, and the set is emptied (R64). -/
theorem State.recomputeSwitch_off (off : s.pedals.sostenuto.on = false) (on : s.pedals.sostenuto.effective = true) :
    (s.recomputeSwitch m).router.sostenutoSet = [] ∧
      ∀ k, ((s.recomputeSwitch m).sound k).owner =
        if k ∈ s.router.sostenutoSet ∧ (s.sound k).released = true then none else (s.sound k).owner := by
  rw [State.recomputeSwitch_edge m s (by simp [on, off]), if_neg (by simp [off])]
  exact ⟨rfl, fun k => State.sostenutoRelease_run m _ s.router.sostenutoSet k⟩

theorem State.setLiveSwitch_eq {on : Bool} (differs : s.pedals.sostenuto.live ≠ on) :
    s.setLiveSwitch on = ((s.modSwitch (fun x => { x with live := on })).recomputeSwitch s.now).livePedal .sostenuto
      (if on then 127 else 0) s.now := if_neg differs

end Switch

/-- Settles O31: a depth that replaces the live value or not, for a level pedal and for the switch. -/
theorem pedalDepthsMoveLevelsAndSwitch : Obligations.PedalDepthsMoveLevelsAndSwitch := by
  refine ⟨fun now p raw s on low high room active => ?level, fun now raw s on low high active => ?switch⟩
  case level =>
    intro x computed replaces live level
    have sampled : exec (.pedalSample now p.pedal raw) s = .next
        (State.levelDepth p (depthOf raw x.sense.cal.restRaw x.sense.cal.fullRaw)
          (State.setSense p.pedal { x.sense with glitchRun := 0 } { s with now := now })) := by
      rw [exec_pedalSample on (by omega), State.samplePedal_active (by rw [PedalUnit.sense_level]; exact active)
        ((plausible_iff raw).mpr ⟨low, high⟩), State.activePedal, PedalUnit.sense_level]
      cases p <;> rfl
    have sensed : State.setSense p.pedal { x.sense with glitchRun := 0 } { s with now := now } =
        { s with now := now, pedals := s.pedals.setLevel p { x with sense := { x.sense with glitchRun := 0 } } } := by
      rw [State.setSense, PedalUnit.setSense_level]
    have judged : levelReplaces (computedLevel (depthOf raw x.sense.cal.restRaw x.sense.cal.fullRaw)) x.live = true ↔ replaces :=
      levelReplaces_iff computed x.live
    generalize fresh : ({ s with
      now := now, pedals := s.pedals.setLevel p { x with sense := { x.sense with glitchRun := 0 } } } : State) = u at sensed
    have stands : u.pedals.level p = { x with sense := { x.sense with glitchRun := 0 } } := by
      rw [← fresh, PedalUnit.level_setLevel]
    rw [sensed, State.levelDepth, stands] at sampled
    by_cases rep : replaces
    case neg =>
      have liveStays : live = x.live := if_neg rep
      have levelStays : level = x.effective := if_neg rep
      rw [if_neg (fun h => rep (judged.mp h)), ← fresh] at sampled
      rw [liveStays, levelStays]
      exact ⟨_, sampled, rfl, by simp, rfl, rfl, rfl, fun _ => ⟨rfl, rfl⟩, fun _ _ _ differs => absurd rfl differs⟩
    case pos =>
      have liveTakes : live = computed := if_pos rep
      have levelTakes : level = max computed x.playback := if_pos rep
      have differs : x.live ≠ computed := by
        rcases rep with far | ⟨_, other⟩
        · omega
        · exact fun same => other same.symm
      rw [if_pos (judged.mpr rep)] at sampled
      rw [liveTakes, levelTakes]
      obtain ⟨tone, joined, queue⟩ := State.setLive_joins (p := p) (v := computed) (s := u) (by rw [stands]; exact differs)
        (by rw [← fresh]; exact room)
      rw [stands, ← fresh] at joined queue
      simp only [PedalUnit.setLevel_setLevel] at joined queue
      rw [← fresh] at sampled
      refine ⟨_, sampled.trans (congrArg Host.Outcome.next joined), by simp, by simpa using queue, by simp, by simp, by simp,
        fun quiet => ?quiet, fun c e recording _ ready => ?written⟩
      case quiet =>
        have silent : s.transport.state ≠ .recording := quiet.resolve_right (fun same => differs same.symm)
        exact State.livePedal_quiet silent
      case written =>
        have small : computed < 256 := by
          have depth := depthOf_le raw x.sense.cal.restRaw x.sense.cal.fullRaw
          omega
        obtain ⟨goesOn, records⟩ := State.livePedal_records (s := s) (p := p.pedal) (level := computed) (u := { s with
          now := now, pedals := s.pedals.setLevel p { x with
            sense := { x.sense with glitchRun := 0 }, live := computed, effective := max computed x.playback }, tone := tone })
          recording rfl ready
        refine ⟨goesOn, records.writes ready.2.2.1 (beBytes_pair _ _ small) (fun j => ?_) ?_⟩
        · cases p <;> rfl
        · cases p <;> rfl
  case switch =>
    intro x depth live on'
    have sampled : exec (.pedalSample now .sostenuto raw) s = .next (State.switchDepth depth
        { s with now := now, pedals := { s.pedals with sostenuto := { x with sense := { x.sense with glitchRun := 0 } } } }) := by
      rw [exec_pedalSample on (by omega), State.samplePedal_active (s := { s with now := now }) (p := .sostenuto) active
        ((plausible_iff raw).mpr ⟨low, high⟩), State.activePedal]
      rfl
    generalize fresh : ({ s with now := now, pedals := { s.pedals with
      sostenuto := { x with sense := { x.sense with glitchRun := 0 } } } } : State) = u at sampled
    have stands : u.pedals.sostenuto = { x with sense := { x.sense with glitchRun := 0 } } := by rw [← fresh]
    have moved : State.switchDepth depth u = u.setLiveSwitch live := by
      simp only [State.switchDepth, live]
      split
      · rfl
      · split
        · rfl
        · exact (if_pos (by rw [stands])).symm
    rw [moved] at sampled
    by_cases same : live = x.live
    case pos =>
      have keeps : u.setLiveSwitch live = u := if_pos (by rw [stands]; exact same.symm)
      have onStays : on' = x.effective := if_pos same
      rw [keeps, ← fresh] at sampled
      rw [onStays, same]
      exact ⟨_, sampled, rfl, fun rises falls => absurd rises (by simp [falls]), fun falls rises => absurd rises (by simp [falls]),
        fun _ => ⟨rfl, rfl⟩, rfl, rfl, fun _ => ⟨rfl, rfl⟩, fun _ _ _ differs => absurd rfl differs⟩
    case neg =>
      have onTakes : on' = (live || x.playback) := if_neg same
      rw [State.setLiveSwitch_eq u (by rw [stands]; exact fun h => same h.symm)] at sampled
      generalize moved' : u.modSwitch (fun y => { y with live := live }) = w at sampled
      have switch : w.pedals.sostenuto = { x with sense := { x.sense with glitchRun := 0 }, live := live } := by
        rw [← moved', ← fresh]
        rfl
      have isOn : w.pedals.sostenuto.on = on' := by rw [switch, onTakes, SwitchPedal.on]
      have wasOn : w.pedals.sostenuto.effective = x.effective := by rw [switch]
      have router : w.router = s.router := by rw [← moved', ← fresh]; rfl
      have tone : w.tone = s.tone := by rw [← moved', ← fresh]; rfl
      have store : w.store = s.store := by rw [← moved', ← fresh]; rfl
      have transport : w.transport = s.transport := by rw [← moved', ← fresh]; rfl
      have stamp : u.now = now := by rw [← fresh]
      have pedals : { w.pedals with sostenuto := { w.pedals.sostenuto with effective := on' } } =
          { s.pedals with sostenuto := { x with sense := { x.sense with glitchRun := 0 }, live := live, effective := on' } } := by
        rw [switch, ← moved', ← fresh]
        rfl
      have sound (k : Nat) : w.sound k = s.sound k := State.sound_congr router k
      have storeStays : (w.recomputeSwitch now).store = s.store := by simpa using store
      have transportStays : (w.recomputeSwitch now).transport = s.transport := by simpa using transport
      rw [stamp] at sampled
      refine ⟨_, sampled, ?_, fun rises low => ?_, fun falls high => ?_, fun still => ?_, ?_, ?_, fun quiet => ?_,
        fun c e recording _ ready => ?_⟩
      · rw [← pedals, ← isOn, ← State.recomputeSwitch_pedals now w]
        simp
      · obtain ⟨set, queue⟩ := State.recomputeSwitch_on now w (isOn.trans rises) (wasOn.trans low)
        simp only [State.livePedal_frame]
        rw [set, queue, router, tone]
        refine ⟨?_, rfl⟩
        simp only [State.soundingKeys, sound]
      · obtain ⟨set, owners⟩ := State.recomputeSwitch_off now w (isOn.trans falls) (wasOn.trans high)
        refine ⟨by simpa using set, fun k => ?_⟩
        rw [State.sound_congr (s := w.recomputeSwitch now) (by simp) k, owners k, sound k, router]
      · rw [State.recomputeSwitch_same now w (by rw [isOn, wasOn, still])]
        simp only [State.livePedal_frame]
        exact ⟨router, tone⟩
      · simp [← moved', ← fresh, State.modSwitch]
      · simp [← moved', ← fresh, State.modSwitch]
      · have silent : (w.recomputeSwitch now).transport.state ≠ .recording := by
          rw [transportStays]
          exact quiet.resolve_right same
        obtain ⟨storeSame, transportSame⟩ := State.livePedal_quiet (p := .sostenuto) (level := if live then 127 else 0)
          (time := now) silent
        exact ⟨storeSame.trans storeStays, transportSame.trans transportStays⟩
      · obtain ⟨goesOn, records⟩ := State.livePedal_records (s := s) (p := .sostenuto) (level := if live then 127 else 0)
          (u := w.recomputeSwitch now) (by rw [transportStays]; exact recording) storeStays ready
        refine ⟨goesOn.trans transportStays, records.writes ready.2.2.1 ?_ (fun j => Iff.rfl) ?_⟩
        · cases live <;> rfl
        · cases live <;> rfl

end Sys2Proof.Machine
end

section
/-! SUPPORT. A notice that stands pending stays so over whatever the blocks do (R194). -/

namespace Sys2Proof.Machine

open Sys2Proof Relation.ReflTransGen

/-- A link with its mask as it was and no pending kind lost. -/
def LinkIf.grows (l m : LinkIf) : Prop := m.mask = l.mask ∧ ∀ k, hasKind l.board k = true → hasKind m.board k = true

/-- Neither link loses a pending kind. -/
def State.noticesStay (s t : State) : Prop := s.linkT.grows t.linkT ∧ s.linkP.grows t.linkP

theorem LinkIf.grows.refl (l : LinkIf) : l.grows l := ⟨rfl, fun _ => id⟩

theorem LinkIf.grows.trans {l m n : LinkIf} (h : l.grows m) (g : m.grows n) : l.grows n :=
  ⟨g.1.trans h.1, fun k pending => g.2 k (h.2 k pending)⟩

/-- Kinds that are not among more kinds are not among fewer. -/
theorem kinds_fewer (kinds more kind : BitVec 16) (none : (kinds ||| more) &&& kind = 0#16) : kinds &&& kind = 0#16 := by
  have split : (kinds ||| more) &&& kind = kinds &&& kind ||| more &&& kind := by
    ext i hi
    simp only [BitVec.getElem_and, BitVec.getElem_or, Bool.and_or_distrib_right]
  exact (BitVec.or_eq_zero_iff.mp (split ▸ none)).1

theorem LinkIf.post_grows (k : NoticeKind) (l : LinkIf) : l.grows (l.post k) := by
  refine ⟨rfl, fun j pending => ?_⟩
  simp only [hasKind, LinkIf.post, bne_iff_ne, ne_eq] at pending ⊢
  intro none
  exact pending (kinds_fewer _ _ _ none)

namespace State.noticesStay

variable {s t u : State}

theorem trans (h : s.noticesStay t) (g : t.noticesStay u) : s.noticesStay u := ⟨h.1.trans g.1, h.2.trans g.2⟩

theorem of_same (linkT : t.linkT = s.linkT) (linkP : t.linkP = s.linkP) : s.noticesStay t := by
  rw [State.noticesStay, linkT, linkP]
  exact ⟨.refl _, .refl _⟩

theorem refl (s : State) : s.noticesStay s := of_same rfl rfl

theorem post (k : NoticeKind) (s : State) : s.noticesStay (s.post k) := ⟨LinkIf.post_grows k _, LinkIf.post_grows k _⟩

theorem offerTone (e : ToneEntry) (s : State) : s.noticesStay (s.offerTone e).1 := by
  cases e <;> simp only [State.offerTone] <;> (repeat' split)
  case noteOff.isFalse | pedal.isFalse => exact ⟨LinkIf.post_grows _ _, LinkIf.post_grows _ _⟩
  all_goals exact of_same rfl rfl

theorem of_offering (h : Offering s t) : s.noticesStay t := by
  cases h with
  | offerTone e => exact offerTone e s
  | panelOffer e => exact of_same (by simp) (by simp)
  | setRouter => exact of_same rfl rfl
  | setPedals => exact of_same rfl rfl

theorem of_offerings (h : Offerings s t) : s.noticesStay t :=
  h.keeps (P := s.noticesStay) (fun move stayed => stayed.trans (of_offering move)) (refl s)

/-- A kind that stands pending on the boards that subscribe to it stands there still. -/
theorem announces {k : NoticeKind} (h : s.noticesStay t) (pending : s.announces k) : t.announces k := by
  obtain ⟨⟨maskT, boardT⟩, maskP, boardP⟩ := h
  obtain ⟨onT, onP⟩ := pending
  exact ⟨fun subscribed => boardT k (onT (maskT ▸ subscribed)), fun subscribed => boardP k (onP (maskP ▸ subscribed))⟩

end State.noticesStay

theorem Atom.noticesStay {s t : State} (h : Atom s t) : s.noticesStay t := by
  cases h
  case post k => exact .post k s
  case panelOffer e => exact .of_same (by simp) (by simp)
  case endStroke x c k scanner =>
    have discarded : s.noticesStay (s.discardStroke x k) := .of_same (by simp) (by simp)
    exact discarded.trans (.of_offerings (Offerings.forceOff c _ s.now k refl))
  case stroke k q inStroke =>
    have taken : s.noticesStay (s.takeStroke k q) := .of_same (by simp) (by simp)
    exact taken.trans (.of_offerings (Offerings.routeStroke k _ refl))
  case offerTone e => exact .offerTone e s
  case recomputeSwitch m => exact .of_offerings (Offerings.recomputeSwitch m refl)
  case onPlayback k v transit m => exact .of_offerings (Offerings.onIntent k v _ transit m refl)
  case offPlayback k v m => exact .of_offerings (Offerings.offIntent k v _ m refl)
  case forceOff c q m k => exact .of_offerings (Offerings.forceOff c q m k refl)
  case panic => exact .of_offerings (Offerings.panic refl)
  case shiftOut bytes => exact ⟨⟨rfl, fun _ => id⟩, .refl _⟩
  case clearCounters l =>
    cases l
    exacts [⟨⟨rfl, fun _ => id⟩, .refl _⟩, ⟨.refl _, ⟨rfl, fun _ => id⟩⟩]
  case flushTone => exact .of_same rfl rfl
  all_goals exact .of_same (by simp) (by simp)

theorem Leads.noticesStay {s t : State} (h : Leads s t) : s.noticesStay t :=
  h.keeps (P := s.noticesStay) (fun move stayed => stayed.trans move.noticesStay) (.refl s)

end Sys2Proof.Machine
end

section
/-! PROOFS. The sensing side of the pedals: faults, recoveries and record writes (R46 to R48). -/

namespace Sys2Proof.Machine

open Sys2Proof

/-! ### A notice posted first changes the links alone -/

/-- Two states that differ in the links at most: posted notices make no other difference (R194). -/
def State.likeBesideLinks (s t : State) : Prop := ∃ a b, t = { s with linkT := a, linkP := b }

section Beside

variable {s t : State}

theorem State.likeBesideLinks.refl (s : State) : s.likeBesideLinks s := ⟨s.linkT, s.linkP, rfl⟩

theorem State.likeBesideLinks.post (k : NoticeKind) (h : s.likeBesideLinks t) : (s.post k).likeBesideLinks (t.post k) := by
  obtain ⟨a, b, rfl⟩ := h
  exact ⟨_, _, rfl⟩

theorem State.likeBesideLinks.posted (k : NoticeKind) (s : State) : s.likeBesideLinks (s.post k) := ⟨_, _, rfl⟩

theorem State.likeBesideLinks.panelOffer (e : PanelEntry) (h : s.likeBesideLinks t) :
    (s.panelOffer e).likeBesideLinks (t.panelOffer e) := by
  obtain ⟨a, b, rfl⟩ := h
  by_cases room : s.panel.stream.length < Config.panelCapacity
  · simp only [State.panelOffer, room, if_true]
    exact ⟨_, _, rfl⟩
  · simp only [State.panelOffer, room, if_false]
    exact ⟨_, _, rfl⟩

/-- Two offers over states that differ in the links at most have one outcome. -/
theorem State.likeBesideLinks.offerTone (e : ToneEntry) (h : s.likeBesideLinks t) :
    (s.offerTone e).1.likeBesideLinks (t.offerTone e).1 ∧ (t.offerTone e).2 = (s.offerTone e).2 := by
  obtain ⟨a, b, rfl⟩ := h
  cases e <;> simp only [State.offerTone] <;> (repeat' split) <;> exact ⟨⟨_, _, rfl⟩, by trivial⟩

theorem State.likeBesideLinks.offerNote (e : ToneEntry) (k : Nat) (c : Option Cause) (h : s.likeBesideLinks t) :
    (s.offerNote e k c).1.likeBesideLinks (t.offerNote e k c).1 := by
  obtain ⟨like, same⟩ := h.offerTone e
  have router : (t.offerTone e).1.router = (s.offerTone e).1.router := by
    obtain ⟨a, b, eq⟩ := like
    rw [eq]
  simp only [State.offerNote, router, same]
  split
  exacts [like.panelOffer _, like]

theorem State.likeBesideLinks.silenceWith (k v : Nat) (o : Source) (f : NoteFlags) (c : Option Cause) (m : Time)
    (h : s.likeBesideLinks t) : (s.silenceWith k v o f c m).likeBesideLinks (t.silenceWith k v o f c m) := by
  have silent : (s.silence k).likeBesideLinks (t.silence k) := by
    obtain ⟨a, b, rfl⟩ := h
    exact ⟨_, _, rfl⟩
  have sound : t.sound k = s.sound k := by
    obtain ⟨a, b, rfl⟩ := h
    rfl
  simp only [State.silenceWith, sound]
  split
  exacts [silent.offerNote _ k c, silent]

theorem State.likeBesideLinks.sostenutoRelease (m : Time) (k : Nat) (h : s.likeBesideLinks t) :
    (s.sostenutoRelease m k).likeBesideLinks (t.sostenutoRelease m k) := by
  have sound : t.sound k = s.sound k := by
    obtain ⟨a, b, rfl⟩ := h
    rfl
  simp only [State.sostenutoRelease, sound]
  split
  · exact h
  · split
    exacts [h.silenceWith k 64 _ {} none m, h]

theorem State.likeBesideLinks.sostenutoRun (m : Time) (l : List Nat) (h : s.likeBesideLinks t) :
    (l.foldl (State.sostenutoRelease m) s).likeBesideLinks (l.foldl (State.sostenutoRelease m) t) := by
  induction l generalizing s t with
  | nil => exact h
  | cons k rest ih => exact ih (h.sostenutoRelease m k)

theorem State.likeBesideLinks.recomputeLevel (p : LevelId) (m : Time) (h : s.likeBesideLinks t) :
    (s.recomputeLevel p m).likeBesideLinks (t.recomputeLevel p m) := by
  have pedals : t.pedals = s.pedals := by
    obtain ⟨a, b, rfl⟩ := h
    rfl
  simp only [State.recomputeLevel, pedals]
  split
  · exact h
  · refine (State.likeBesideLinks.offerTone _ ?_).1
    obtain ⟨a, b, rfl⟩ := h
    exact ⟨_, _, rfl⟩

theorem State.likeBesideLinks.recomputeSwitch (m : Time) (h : s.likeBesideLinks t) :
    (s.recomputeSwitch m).likeBesideLinks (t.recomputeSwitch m) := by
  have pedals : t.pedals = s.pedals := by
    obtain ⟨a, b, rfl⟩ := h
    rfl
  have held (f : SwitchPedal → SwitchPedal) : (s.modSwitch f).likeBesideLinks (t.modSwitch f) := by
    obtain ⟨a, b, rfl⟩ := h
    exact ⟨_, _, rfl⟩
  have router (f : SwitchPedal → SwitchPedal) : (t.modSwitch f).router = (s.modSwitch f).router := by
    obtain ⟨a, b, rfl⟩ := h
    rfl
  simp only [State.recomputeSwitch, pedals]
  split
  · exact h
  · split
    · obtain ⟨a, b, rfl⟩ := h
      exact ⟨_, _, rfl⟩
    · simp only [State.sostenutoOff, router]
      obtain ⟨a, b, eq⟩ := (held _).sostenutoRun m _
      rw [eq]
      exact ⟨a, b, rfl⟩

theorem State.likeBesideLinks.audio (h : s.likeBesideLinks t) : t.audio = s.audio := by
  obtain ⟨a, b, rfl⟩ := h
  rfl

theorem State.likeBesideLinks.modAudio (f : Audio → Audio) (h : s.likeBesideLinks t) :
    (s.modAudio f).likeBesideLinks (t.modAudio f) := by
  obtain ⟨a, b, rfl⟩ := h
  exact ⟨_, _, rfl⟩

theorem State.likeBesideLinks.modTransport (f : Transport → Transport) (h : s.likeBesideLinks t) :
    (s.modTransport f).likeBesideLinks (t.modTransport f) := by
  obtain ⟨a, b, rfl⟩ := h
  exact ⟨_, _, rfl⟩

theorem State.likeBesideLinks.now (h : s.likeBesideLinks t) : t.now = s.now := by
  obtain ⟨a, b, rfl⟩ := h
  rfl

theorem State.likeBesideLinks.beat (pos : BeatPos) (h : s.likeBesideLinks t) : (s.beat pos).likeBesideLinks (t.beat pos) := by
  have struck := h.modAudio (fun a =>
    { a with counter := some pos, click := some { first := decide (pos.beat = 1), amplitude := none, index := 0 } })
  simp only [State.beat, struck.audio, struck.now]
  split
  exacts [struck.panelOffer _, struck]

theorem State.likeBesideLinks.enterMode (m : ClockMode) (h : s.likeBesideLinks t) :
    (s.enterMode m).likeBesideLinks (t.enterMode m) := by
  cases m <;> simp only [State.enterMode]
  case recording =>
    have started := (h.modAudio (fun a => { a with clock := .recording, entryTempo := a.metro.tempo, entryBeats := a.metro.beats })).beat
      { bar := 1, beat := 1 }
    rw [started.now]
    exact started.modAudio _
  case free =>
    have started := (h.modAudio (fun a => { a with clock := .free })).beat { bar := 1, beat := 1 }
    rw [started.now]
    exact started.modAudio _
  case following => exact h.modAudio _
  case stopped => exact h.modAudio _

theorem State.likeBesideLinks.recordClickEnd (h : s.likeBesideLinks t) : s.recordClickEnd.likeBesideLinks t.recordClickEnd := by
  have ended := h.modAudio (fun a => { a with recordClick := false })
  simp only [State.recordClickEnd, State.judgeMode, ended.audio]
  split
  exacts [ended, ended.enterMode _]

theorem State.likeBesideLinks.finishRecording (cause : EndCause) (h : s.likeBesideLinks t) :
    (s.finishRecording cause).likeBesideLinks (t.finishRecording cause) := by
  have transport : t.transport = s.transport := by
    obtain ⟨a, b, rfl⟩ := h
    rfl
  have store : t.store = s.store := by
    obtain ⟨a, b, rfl⟩ := h
    rfl
  simp only [State.finishRecording, transport, store]
  have closed := (h.modTransport (fun x => { x with lastClose := some (closeResult (s.transport.take.getD 0)
    (s.store.entry (s.transport.take.getD 0)) cause) })).post .takeClosed
  split
  exacts [(closed.recordClickEnd.modTransport _).post _, (closed.modTransport _).post _]

theorem State.likeBesideLinks.recordWith (f : Store → Store × Bool) (h : s.likeBesideLinks t) :
    (s.recordWith f).likeBesideLinks (t.recordWith f) := by
  have store : t.store = s.store := by
    obtain ⟨a, b, rfl⟩ := h
    rfl
  have written : State.likeBesideLinks { s with store := (f s.store).1 } { t with store := (f s.store).1 } := by
    obtain ⟨a, b, rfl⟩ := h
    exact ⟨_, _, rfl⟩
  simp only [State.recordWith, store]
  split
  exacts [written.finishRecording _, written]

theorem State.likeBesideLinks.livePedal (p : PedalId) (level : Nat) (m : Time) (h : s.likeBesideLinks t) :
    (s.livePedal p level m).likeBesideLinks (t.livePedal p level m) := by
  have transport : t.transport = s.transport := by
    obtain ⟨a, b, rfl⟩ := h
    rfl
  simp only [State.livePedal, transport]
  split
  exacts [h.recordWith _, h]

theorem State.likeBesideLinks.setLive (p : LevelId) (v : Nat) (h : s.likeBesideLinks t) :
    (s.setLive p v).likeBesideLinks (t.setLive p v) := by
  have pedals : t.pedals = s.pedals := by
    obtain ⟨a, b, rfl⟩ := h
    rfl
  have held : (s.modLevel p (fun x => { x with live := v })).likeBesideLinks (t.modLevel p (fun x => { x with live := v })) := by
    obtain ⟨a, b, rfl⟩ := h
    exact ⟨_, _, rfl⟩
  simp only [State.setLive, pedals, h.now]
  split
  exacts [h, (held.recomputeLevel p s.now).livePedal p.pedal v s.now]

theorem State.likeBesideLinks.setLiveSwitch (on : Bool) (h : s.likeBesideLinks t) :
    (s.setLiveSwitch on).likeBesideLinks (t.setLiveSwitch on) := by
  have pedals : t.pedals = s.pedals := by
    obtain ⟨a, b, rfl⟩ := h
    rfl
  have held : (s.modSwitch (fun x => { x with live := on })).likeBesideLinks (t.modSwitch (fun x => { x with live := on })) := by
    obtain ⟨a, b, rfl⟩ := h
    exact ⟨_, _, rfl⟩
  simp only [State.setLiveSwitch, pedals, h.now]
  split
  exacts [h, (held.recomputeSwitch s.now).livePedal .sostenuto _ s.now]

theorem State.likeBesideLinks.pedalDepth (p : PedalId) (depth : Nat) (h : s.likeBesideLinks t) :
    (s.pedalDepth p depth).likeBesideLinks (t.pedalDepth p depth) := by
  have pedals : t.pedals = s.pedals := by
    obtain ⟨a, b, rfl⟩ := h
    rfl
  have level (l : LevelId) : (s.levelDepth l depth).likeBesideLinks (t.levelDepth l depth) := by
    simp only [State.levelDepth, pedals]
    split
    exacts [h.setLive l _, h]
  cases p <;> simp only [State.pedalDepth]
  case damper => exact level .damper
  case soft => exact level .soft
  case sostenuto =>
    simp only [State.switchDepth]
    (repeat' split)
    exacts [h.setLiveSwitch true, h.setLiveSwitch false, h]

end Beside

/-! ### Sensing sides and reported values -/

section Sense

variable (u : PedalUnit) (p q : PedalId) (x y : PedalSense)

theorem PedalUnit.sense_setSense : (u.setSense p x).sense q = if q = p then x else u.sense q := by
  cases p <;> cases q <;> rfl

theorem PedalUnit.reported_setSense : (u.setSense p x).reported q = u.reported q := by
  cases p <;> cases q <;> rfl

theorem PedalUnit.setSense_setSense : (u.setSense p x).setSense p y = u.setSense p y := by cases p <;> rfl

end Sense

section Cleared

variable (p q : PedalId) (s : State)

/-- A live value set to 0 or off leaves the sensing sides and the other pedals' live values (R47, R48). -/
theorem State.clearLive_pedals :
    (s.clearLive p).pedals.sense q = s.pedals.sense q ∧
      (s.clearLive p).pedals.reported q = if q = p then 0 else s.pedals.reported q := by
  have level (l : LevelId) : (s.setLive l 0).pedals.sense q = s.pedals.sense q ∧
      (s.setLive l 0).pedals.reported q = if q = l.pedal then 0 else s.pedals.reported q := by
    by_cases same : (s.pedals.level l).live = 0
    · have keeps : s.setLive l 0 = s := if_pos same
      rw [keeps]
      refine ⟨rfl, ?_⟩
      split
      next own =>
        subst own
        cases l <;> exact same
      · rfl
    · rw [State.setLive_pedals same]
      cases l <;> cases q <;> exact ⟨rfl, rfl⟩
  cases p
  case damper => exact level .damper
  case soft => exact level .soft
  case sostenuto =>
    show (s.setLiveSwitch false).pedals.sense q = _ ∧ (s.setLiveSwitch false).pedals.reported q = _
    by_cases same : s.pedals.sostenuto.live = false
    · have keeps : s.setLiveSwitch false = s := if_pos same
      rw [keeps]
      refine ⟨rfl, ?_⟩
      split
      next own =>
        subst own
        simp [PedalUnit.reported, same]
      · rfl
    · have pedals : (s.setLiveSwitch false).pedals = { s.pedals with sostenuto := { s.pedals.sostenuto with
          live := false, effective := SwitchPedal.on { s.pedals.sostenuto with live := false } } } := by
        rw [State.setLiveSwitch_eq s same]
        simp only [State.livePedal_frame, State.recomputeSwitch_pedals]
        rfl
      rw [pedals]
      cases q <;> exact ⟨rfl, rfl⟩

end Cleared

/-- A pedal's own target byte (12.2). -/
theorem pedalTarget_own (p : PedalId) : pedalTarget (BitVec.ofNat 8 (128 + pedalCode p)).toNat = some p := by
  cases p <;> rfl

section WritePedal

variable {target r1 r0 b1 b0 trim enabled : Byte} {rest : List Byte} {s : State}

theorem judgeCalWrite_fields (bad : 1023 < num2 r1 r0 ∨ 1023 < num2 b1 b0 ∨ 1 < enabled.toNat) :
    judgeCalWrite (target :: r1 :: r0 :: b1 :: b0 :: trim :: enabled :: rest) s = refuse .range s := by
  simp only [judgeCalWrite, field_byte, field_cons, field_word]
  split
  · rfl
  next inRange =>
    have code : yesNo enabled.toNat = none := (yesNo_none enabled).mpr (by omega)
    rw [code]

theorem judgeCalWrite_noTarget (key : ¬(1 ≤ target.toNat ∧ target.toNat ≤ 88)) (pedal : pedalTarget target.toNat = none) :
    judgeCalWrite (target :: r1 :: r0 :: b1 :: b0 :: trim :: enabled :: rest) s = refuse .range s := by
  simp only [judgeCalWrite, field_byte, field_cons, field_word, pedal]
  split
  · rfl
  · split
    · rfl
    · rw [if_neg (fun h => key ((keyOk_iff _).mp h))]

theorem judgeCalWrite_pedal {p : PedalId} (key : ¬(1 ≤ target.toNat ∧ target.toNat ≤ 88)) (pedal : pedalTarget target.toNat = some p)
    (restRange : num2 r1 r0 ≤ 1023) (fullRange : num2 b1 b0 ≤ 1023) (code : enabled.toNat ≤ 1) :
    judgeCalWrite (target :: r1 :: r0 :: b1 :: b0 :: trim :: enabled :: rest) s =
      okWith .none (s.writePedal p
        { restRaw := num2 r1 r0, fullRaw := num2 b1 b0, enabled := decide (enabled.toNat = 1) }) := by
  have on := (yesNo_eq enabled _).mpr ⟨code, rfl⟩
  simp only [judgeCalWrite, field_byte, field_cons, field_word, pedal, on]
  rw [if_neg (by omega), if_neg (fun h => key ((keyOk_iff _).mp h))]

end WritePedal

section Faults

variable {p : PedalId} {raw : Nat} {s : State} {x : PedalSense}

theorem State.samplePedal_invalid (invalid : (s.pedals.sense p).state = .invalid) : s.samplePedal p raw = s := by
  simp only [State.samplePedal, invalid]

theorem State.samplePedal_glitch (active : (s.pedals.sense p).state = .active) (bad : plausible raw = false) :
    s.samplePedal p raw = s.glitchPedal p := by
  simp only [State.samplePedal, active, bad, Bool.false_eq_true, if_false]

theorem State.samplePedal_fault (fault : (s.pedals.sense p).state = .fault) : s.samplePedal p raw = s.faultPedal p raw := by
  simp only [State.samplePedal, fault]

theorem State.glitchPedal_eq (sense : s.pedals.sense p = x) :
    s.glitchPedal p =
      if x.glitchRun < 3 then s.setSense p { x with glitchRun := x.glitchRun + 1 }
      else (State.clearLive p (s.setSense p { x with glitchRun := 0, recoveryRun := 0, state := .fault })).post .keyFault := by
  have late : Config.faultEntry ≤ x.glitchRun + 1 ↔ ¬x.glitchRun < 3 := by
    show 4 ≤ x.glitchRun + 1 ↔ _
    omega
  simp only [State.glitchPedal, sense, late, ite_not]

theorem State.faultPedal_bad (sense : s.pedals.sense p = x) (bad : plausible raw = false) :
    s.faultPedal p raw = s.setSense p { x with recoveryRun := 0 } := by
  simp only [State.faultPedal, sense, bad, Bool.false_eq_true, if_false]

theorem State.faultPedal_good (sense : s.pedals.sense p = x) (good : plausible raw = true) :
    s.faultPedal p raw =
      if x.recoveryRun < 63 then s.setSense p { x with recoveryRun := x.recoveryRun + 1 }
      else ((s.setSense p { x with recoveryRun := 0, state := .active }).post .keyFault).activePedal p raw := by
  have late : Config.faultRecovery ≤ x.recoveryRun + 1 ↔ ¬x.recoveryRun < 63 := by
    show 64 ≤ x.recoveryRun + 1 ↔ _
    omega
  simp only [State.faultPedal, sense, good, late, ite_not, if_true]

theorem State.sense_setSense_own : (s.setSense p x).pedals.sense p = x := by
  rw [State.setSense, PedalUnit.sense_setSense, if_pos rfl]

theorem State.setSense_setSense (y : PedalSense) : (s.setSense p x).setSense p y = s.setSense p y := by
  simp only [State.setSense, PedalUnit.setSense_setSense]

end Faults

/-- A live value leaves the sensing sides (R46). -/
theorem State.pedalDepth_sense (p q : PedalId) (depth : Nat) (s : State) :
    (s.pedalDepth p depth).pedals.sense q = s.pedals.sense q := by
  have level (l : LevelId) : (s.levelDepth l depth).pedals.sense q = s.pedals.sense q := by
    simp only [State.levelDepth]
    split
    · by_cases same : (s.pedals.level l).live = computedLevel depth
      · rw [State.setLive, if_pos same]
      · rw [State.setLive_pedals same]
        cases l <;> cases q <;> rfl
    · rfl
  have switch (on : Bool) : (s.setLiveSwitch on).pedals.sense q = s.pedals.sense q := by
    by_cases same : s.pedals.sostenuto.live = on
    · rw [State.setLiveSwitch, if_pos same]
    · rw [State.setLiveSwitch_eq s same]
      simp only [State.livePedal_frame, State.recomputeSwitch_pedals]
      cases q <;> rfl
  cases p <;> simp only [State.pedalDepth]
  case damper => exact level .damper
  case soft => exact level .soft
  case sostenuto =>
    simp only [State.switchDepth]
    (repeat' split)
    exacts [switch true, switch false, rfl]

/-- Settles O30: each state's own rule, the recovery as an ACTIVE sample, and the record write. -/
theorem pedalSensing : Obligations.PedalSensing := by
  refine ⟨fun now p raw s on range => ?samples, fun f p r1 r0 b1 b0 trim enabled rest s h => ?write,
    fun f target r1 r0 b1 b0 trim enabled rest s h noKey noPedal => ?outside⟩
  case samples =>
    intro x
    have sampled := exec_pedalSample (now := now) (p := p) (s := s) on range
    generalize fresh : ({ s with now := now } : State) = u at sampled ⊢
    have sense : u.pedals.sense p = x := by rw [← fresh]
    refine ⟨fun invalid => ?_, fun active bad few => ?_, fun active bad many => ⟨_, sampled, ?_⟩, fun fault bad => ?_,
      fun fault low high few => ?_, fun fault low high many => ⟨_, sampled, ?_⟩⟩
    · rw [sampled, State.samplePedal_invalid (by rw [sense, invalid])]
    · rw [sampled, State.samplePedal_glitch (by rw [sense, active]) (not_plausible_of bad), State.glitchPedal_eq sense, if_pos few]
    · rw [State.samplePedal_glitch (by rw [sense, active]) (not_plausible_of bad), State.glitchPedal_eq sense,
        if_neg (Nat.not_lt.mpr many)]
      obtain ⟨senseStays, cleared⟩ := State.clearLive_pedals p p
        (u.setSense p { x with glitchRun := 0, recoveryRun := 0, state := .fault })
      refine ⟨senseStays.trans State.sense_setSense_own, cleared.trans (if_pos rfl), State.post_announces _ _, ?_, ?_⟩
      · simp [State.setSense, ← fresh]
      · simp [State.setSense, ← fresh]
    · rw [sampled, State.samplePedal_fault (by rw [sense, fault]), State.faultPedal_bad sense (not_plausible_of bad)]
    · rw [sampled, State.samplePedal_fault (by rw [sense, fault]),
        State.faultPedal_good sense ((plausible_iff raw).mpr ⟨low, high⟩), if_pos few]
    · rw [State.samplePedal_fault (by rw [sense, fault]), State.faultPedal_good sense ((plausible_iff raw).mpr ⟨low, high⟩),
        if_neg (Nat.not_lt.mpr many)]
      let y : PedalSense := { x with state := .active, glitchRun := 0, recoveryRun := 0 }
      let depth := depthOf raw x.cal.restRaw x.cal.fullRaw
      have recovered : ((u.setSense p { x with recoveryRun := 0, state := .active }).post .keyFault).activePedal p raw =
          ((u.setSense p y).post .keyFault).pedalDepth p depth := by
        have stands (z : PedalSense) : ((u.setSense p z).post .keyFault).pedals.sense p = z := State.sense_setSense_own
        have twice (z : PedalSense) : ((u.setSense p z).post .keyFault).setSense p y = (u.setSense p y).post .keyFault :=
          congrArg (State.post .keyFault) (State.setSense_setSense y)
        simp only [State.activePedal, stands]
        exact congrArg (State.pedalDepth p depth) (twice _)
      have sampledActive : exec (.pedalSample now p raw) (s.setSense p y) = .next ((u.setSense p y).pedalDepth p depth) := by
        have moved : ({ s.setSense p y with now := now } : State) = u.setSense p y := by rw [← fresh]; rfl
        rw [exec_pedalSample (by simpa [State.setSense] using on) range, moved,
          State.samplePedal_active (by rw [State.sense_setSense_own]) ((plausible_iff raw).mpr ⟨low, high⟩), State.activePedal,
          State.sense_setSense_own, State.setSense_setSense]
      obtain ⟨a, b, like⟩ := (State.likeBesideLinks.posted .keyFault (u.setSense p y)).pedalDepth p depth
      have stays : ((u.setSense p y).post .keyFault).noticesStay (((u.setSense p y).post .keyFault).pedalDepth p depth) :=
        (Leads.pedalDepth p depth .refl).noticesStay
      rw [recovered]
      refine ⟨?_, stays.announces (State.post_announces _ _), ?_, ?_, _, sampledActive, ?_⟩
      · rw [State.pedalDepth_sense]
        exact State.sense_setSense_own
      · simp [State.setSense, ← fresh]
      · simp [State.setSense, ← fresh]
      · rw [like]
        exact ⟨rfl, rfl, rfl, rfl, rfl⟩
  case write =>
    have key : ¬(1 ≤ (BitVec.ofNat 8 (128 + pedalCode p)).toNat ∧ (BitVec.ofNat 8 (128 + pedalCode p)).toNat ≤ 88) := by
      cases p <;> decide
    refine ⟨fun bad => takeRequest_of_judge (kind := .calWrite) h (by simp [reqMinLength]) (by decide) (judgeCalWrite_fields bad),
      fun restRange fullRange code => ?_⟩
    intro c
    refine ⟨_, exec_calWrite_of_judge h (judgeCalWrite_pedal key (pedalTarget_own p) restRange fullRange code), ?_⟩
    have sense (y : PedalSense) (q : PedalId) :
        ((s.received f).setSense p y).pedals.sense q = if q = p then y else s.pedals.sense q := by
      rw [State.setSense, PedalUnit.sense_setSense, State.received_pedals]
    have reported (y : PedalSense) (q : PedalId) : ((s.received f).setSense p y).pedals.reported q = s.pedals.reported q := by
      rw [State.setSense, PedalUnit.reported_setSense, State.received_pedals]
    cases valid : c.valid
    · have writes : (s.received f).writePedal p c =
          State.clearLive p ((s.received f).setSense p { cal := c, state := .invalid, glitchRun := 0, recoveryRun := 0 }) := by
        simp [State.writePedal, valid]
      rw [writes]
      refine ⟨?_, ?_, nofun, fun q other => ⟨?_, ?_⟩, ?_, ?_⟩
      · rw [(State.clearLive_pedals p p _).1, sense, if_pos rfl]
        rfl
      · rw [(State.clearLive_pedals p p _).2, if_pos rfl]
        rfl
      · rw [(State.clearLive_pedals p q _).1, sense, if_neg other]
      · rw [(State.clearLive_pedals p q _).2, if_neg other, reported]
      · simp [State.setSense]
      · simp [State.setSense]
    · have writes : (s.received f).writePedal p c =
          if (s.pedals.sense p).state = .fault then
            ((s.received f).setSense p { cal := c, state := .active, glitchRun := 0, recoveryRun := 0 }).post .keyFault
          else (s.received f).setSense p { cal := c, state := .active, glitchRun := 0, recoveryRun := 0 } := by
        simp [State.writePedal, valid]
      rw [writes]
      have pedals : (if (s.pedals.sense p).state = .fault then
            ((s.received f).setSense p { cal := c, state := .active, glitchRun := 0, recoveryRun := 0 }).post .keyFault
          else (s.received f).setSense p { cal := c, state := .active, glitchRun := 0, recoveryRun := 0 }).pedals =
          ((s.received f).setSense p { cal := c, state := .active, glitchRun := 0, recoveryRun := 0 }).pedals := by
        split <;> rfl
      rw [pedals]
      refine ⟨?_, ?_, fun _ fault => ?_, fun q other => ⟨?_, reported _ q⟩, ?_, ?_⟩
      · rw [sense, if_pos rfl]
        rfl
      · rw [reported]
        rfl
      · rw [if_pos fault]
        exact State.post_announces _ _
      · rw [sense, if_neg other]
      · split <;> simp [State.setSense]
      · split <;> simp [State.setSense]
  case outside =>
    refine exec_calWrite_of_judge h (judgeCalWrite_noTarget (by omega) ?_)
    simp only [pedalTarget]
    rw [if_neg (by omega), if_neg (by omega), if_neg (by omega)]

end Sys2Proof.Machine
end

section
/-! PROOFS. Jacks, AUDIO_MUTE, AUDIO_REPORT and AUDIO_SETUP (R112, R119, R120, R128). -/

namespace Sys2Proof.Machine

open Sys2Proof

/-! ### Optional items behind one presence byte -/

theorem optionalItems_of_layout {kind : ReqKind} {widths : List Nat} {marks : Byte} {p : List Byte} {l : List (Option Nat)}
    (layout : itemLayout kind = some (1, 0, widths)) (items : readItems widths marks.toNat p = some l) :
    optionalItems kind (marks :: p) = some l := by
  simp only [optionalItems, layout, field_byte]
  exact items

section Requests

variable {f : Frame} {b : Byte} {p : List Byte} {s u : State} {r : Reply}

theorem exec_audioMute_of_judge (h : s.canTake f (b :: p)) (hj : judgeAudioMute (b :: p) (s.received f) = some (u, r)) :
    exec (.audioMute f) s = answered f r u :=
  takeRequest_of_judge (kind := .audioMute) h (Nat.le_add_left 1 p.length) (by decide) hj

theorem exec_audioReport_of_judge (h : s.canTake f (b :: p)) (hj : judgeAudioReport (b :: p) (s.received f) = some (u, r)) :
    exec (.audioReport f) s = answered f r u :=
  takeRequest_of_judge (kind := .audioReport) h (Nat.le_add_left 1 p.length) (by decide) hj

theorem exec_audioSetup_of_judge (h : s.canTake f (b :: p)) (hj : judgeAudioSetup (b :: p) (s.received f) = some (u, r)) :
    exec (.audioSetup f) s = answered f r u :=
  takeRequest_of_judge (kind := .audioSetup) h (Nat.le_add_left 1 p.length) (by decide) hj

end Requests

section Judged

variable {b : Byte} (p : List Byte) (s : State)

theorem judgeAudioMute_sets {on : Bool} (code : yesNo b.toNat = some on) :
    judgeAudioMute (b :: p) s =
      okWith (.muteSet { s.audio.mute with panelMute := on })
        { s with audio := { s.audio with panelMute := on, mute := { s.audio.mute with panelMute := on } } } := by
  simp only [judgeAudioMute, field_byte, code]
  rfl

theorem judgeAudioMute_range (code : yesNo b.toNat = none) : judgeAudioMute (b :: p) s = refuse .range s := by
  simp only [judgeAudioMute, field_byte, code]

theorem judgeAudioReport_reports {clears : Bool} (code : yesNo b.toNat = some clears) :
    judgeAudioReport (b :: p) s =
      okWith (.audioReport s.audio.report)
        (if clears then { s with audio := { s.audio with underruns := 0, overruns := 0, clips := 0 } } else s) := by
  simp only [judgeAudioReport, field_byte, code]
  rfl

theorem judgeAudioReport_range (code : yesNo b.toNat = none) : judgeAudioReport (b :: p) s = refuse .range s := by
  simp only [judgeAudioReport, field_byte, code]

end Judged

/-! ### AUDIO_SETUP -/

/-- The items an AUDIO_SETUP may carry (R112, R203). -/
def audioGood (marks : Nat) (l : List (Option Nat)) : Prop :=
  marks < 32 ∧ (∀ r, item l 0 = some r → r = 1 ∨ r = 2) ∧ (∀ h, item l 4 = some h → h ≤ 1)

section Setup

variable {marks : Byte} {p : List Byte} {l : List (Option Nat)}

/-- A rate item with a code is read as the rate of the code. -/
theorem codedItem_rate {o : Option Nat} (good : ∀ r, o = some r → r = 1 ∨ r = 2) :
    codedItem rateOfCode o = some (o.map (fun r => if r = 1 then .hz44100 else .hz48000)) := by
  cases o with
  | none => rfl
  | some r => rcases good r rfl with rfl | rfl <;> rfl

theorem judgeAudioSetup_range (items : readItems [1, 1, 1, 1, 1] marks.toNat p = some l) (bad : ¬audioGood marks.toNat l)
    (s : State) : judgeAudioSetup (marks :: p) s = refuse .range s := by
  simp only [judgeAudioSetup, optionalItems_of_layout (kind := .audioSetup) rfl items, Option.bind_some, field_byte]
  split
  · rfl
  next few =>
    have marksOk : marks.toNat < 2 ^ 5 := (reservedBits_iff _ _).mp (by simpa using few)
    split
    next rate hp readRate readHp =>
      refine absurd ⟨marksOk, fun r carried => ?_, fun h carried => ?_⟩ bad
      · have code := codedItem_some readRate r carried
        unfold rateOfCode at code
        split at code
        exacts [.inl rfl, .inr rfl, nomatch code]
      · exact (yesNo_isSome h).mp (codedItem_some readHp h carried)
    · rfl

/-- The Audio Stage that the items of AUDIO_SETUP leave (R112). -/
def Audio.setupItems (l : List (Option Nat)) (a : Audio) : Audio :=
  a.setup ((item l 0).map (fun r => if r = 1 then .hz44100 else .hz48000)) (item l 1) (item l 2) (item l 3)
    ((item l 4).map (fun c => decide (c = 1)))

theorem judgeAudioSetup_sets (items : readItems [1, 1, 1, 1, 1] marks.toNat p = some l) (good : audioGood marks.toNat l)
    (s : State) :
    judgeAudioSetup (marks :: p) s =
      okWith (.audioSettings (s.audio.setupItems l).settings) { s with audio := s.audio.setupItems l } := by
  obtain ⟨marksOk, rateOk, hpOk⟩ := good
  simp only [judgeAudioSetup, optionalItems_of_layout (kind := .audioSetup) rfl items, Option.bind_some, field_byte,
    (reservedBits_iff _ 5).mpr marksOk, codedItem_rate rateOk, codedItem_yesNo hpOk, Bool.false_eq_true, if_false]
  rfl

/-- The items of AUDIO_SETUP other than the rate (R112, steps 1 to 4). -/
theorem Audio.setup_without_rate (volume refill ramp : Option Nat) (hp : Option Bool) (a : Audio) :
    a.setup none volume refill ramp hp =
      { a with
        volume := (volume.map (fun n => min n 63)).getD a.volume
        refill := (refill.map (fun n => max 8 (min n 56))).getD a.refill
        rampInterval := (ramp.map (fun n => max 1 (min n 64))).getD a.rampInterval
        ramp := if ramp.isSome = true then 0 else a.ramp
        hpInAcoustic := hp.getD a.hpInAcoustic
        inUnderrun :=
          if a.inUnderrun = true ∧ (refill.map (fun n => max 8 (min n 56))).getD a.refill ≤ a.fifo.length then false
          else a.inUnderrun
        mute := { a.mute with
          railNotEngaged := if hp.isSome = true then !a.engaged && !hp.getD a.hpInAcoustic else a.mute.railNotEngaged
          railMoving := if hp.isSome = true then a.moving else a.mute.railMoving
          underrun :=
            if a.inUnderrun = true ∧ (refill.map (fun n => max 8 (min n 56))).getD a.refill ≤ a.fifo.length then false
            else a.mute.underrun } } := by
  have levels : clamp 0 63 = fun n => min n 63 := funext fun n => Nat.zero_max _
  have fills : clamp 8 56 = fun n => max 8 (min n 56) := rfl
  have steps : clamp 1 64 = fun n => max 1 (min n 64) := rfl
  simp only [Audio.setup, levels, fills, steps]
  generalize (volume.map (fun n => min n 63)).getD a.volume = v
  generalize (refill.map (fun n => max 8 (min n 56))).getD a.refill = r
  by_cases ends : a.inUnderrun = true ∧ r ≤ a.fifo.length
  · cases ramp <;> cases hp <;> simp [Audio.judgeUnderrun, Audio.endUnderrun, Audio.judgeRail, ends]
  · cases ramp <;> cases hp <;> simp [Audio.judgeUnderrun, Audio.judgeRail, ends]

/-- A carried rate acts last (R112, step 5). -/
theorem Audio.setup_rate (r : Rate) (volume refill ramp : Option Nat) (hp : Option Bool) (a : Audio) :
    a.setup (some r) volume refill ramp hp = (a.setup none volume refill ramp hp).changeRate r := rfl

/-- The items of AUDIO_SETUP: the carried rate changes the Audio Stage that the other items leave. -/
theorem Audio.setupItems_eq (l : List (Option Nat)) (a : Audio) (carried : ∀ r, item l 0 = some r → r = 1 ∨ r = 2) :
    a.setupItems l =
      (a.setup none (item l 1) (item l 2) (item l 3) ((item l 4).map (fun c => decide (c = 1)))).changeRate
        (if item l 0 = some 1 then .hz44100 else if item l 0 = some 2 then .hz48000 else a.rate) := by
  have held : (a.setup none (item l 1) (item l 2) (item l 3) ((item l 4).map (fun c => decide (c = 1)))).rate = a.rate := by
    rw [Audio.setup_without_rate]
  cases which : item l 0 with
  | none => simp [Audio.setupItems, which, Audio.changeRate, held]
  | some r =>
    rcases carried r which with rfl | rfl
    · simp [Audio.setupItems, which, Audio.setup_rate]
    · simp [Audio.setupItems, which, Audio.setup_rate]

theorem Audio.changeRate_same {rate : Rate} {a : Audio} (same : rate = a.rate) : a.changeRate rate = a := if_pos same.symm

/-- A new rate empties the Audio FIFO, enters the underrun, and restarts ramp counter, click and alert (R112, step 5). -/
theorem Audio.changeRate_new {rate : Rate} {a : Audio} (differs : rate ≠ a.rate) :
    a.changeRate rate =
      { a with rate := rate, fifo := [], ramp := 0, click := none, alert := a.alert.map (fun _ => { high := false, index := 0 })
               inUnderrun := true, mute := { a.mute with underrun := true } } := if_neg differs.symm

end Setup

/-- A jack change that is taken judges JACK_OUT and posts JACK (R119). -/
theorem State.onJack_changes (now : Time) (jack : Jack) (inserted : Bool) (s : State)
    (differs : s.audio.jackLevel jack ≠ inserted) :
    State.onJack jack inserted { s with now := now } =
      State.post .jack
        { s with
          now := now
          audio := { s.audio with
            jack1 := if jack = .jack1 then inserted else s.audio.jack1
            jack2 := if jack = .jack2 then inserted else s.audio.jack2
            mute := { s.audio.mute with
              jackOut := !(if jack = .jack1 then inserted else s.audio.jack1) &&
                !(if jack = .jack2 then inserted else s.audio.jack2) } } } := by
  cases jack
  · exact if_neg differs
  · exact if_neg differs

/-- Settles O45: a taken jack change, the mute byte and the clear option by their codes, and the items of AUDIO_SETUP with a rate
that is held or new. -/
theorem jacksMuteAndSettings : Obligations.JacksMuteAndSettings := by
  refine ⟨fun now jack inserted s on => ?jacks, fun f b rest s h => ?bytes, fun f marks p l s h items => ?setup⟩
  case jacks =>
    intro a j1 j2
    have event : exec (.jackChange now jack inserted) s = .next (State.onJack jack inserted { s with now := now }) :=
      exec_event on now
    refine ⟨fun same => event.trans (congrArg _ (if_pos same)), fun differs => event.trans (congrArg _ ?_)⟩
    exact State.onJack_changes now jack inserted s differs
  case bytes =>
    intro muted
    have code := yesNo_byte b
    constructor
    · have sets {on : Bool} (code : yesNo b.toNat = some on) :
          exec (.audioMute f) s = okFor f (.muteSet (muted on).mute) { s.received f with audio := muted on } := by
        have answers := exec_audioMute_of_judge h (judgeAudioMute_sets rest (s.received f) code)
        rwa [State.received_audio] at answers
      split_ifs at code ⊢
      · exact sets code
      · exact sets code
      · exact exec_audioMute_of_judge h (judgeAudioMute_range rest (s.received f) code)
    · have reports {clears : Bool} (code : yesNo b.toNat = some clears) :
          exec (.audioReport f) s = okFor f (.audioReport s.audio.report)
            (if clears then { s.received f with audio := { s.audio with underruns := 0, overruns := 0, clips := 0 } }
            else s.received f) := by
        have answers := exec_audioReport_of_judge h (judgeAudioReport_reports rest (s.received f) code)
        rwa [State.received_audio] at answers
      split_ifs at code ⊢
      · exact reports code
      · exact reports code
      · exact exec_audioReport_of_judge h (judgeAudioReport_range rest (s.received f) code)
  case setup =>
    intro a good rate volume refill interval hp ends
    refine ⟨fun bad => exec_audioSetup_of_judge h (judgeAudioSetup_range items bad _), fun sound => ?_⟩
    have answers := exec_audioSetup_of_judge h (judgeAudioSetup_sets items sound (s.received f))
    rw [State.received_audio, Audio.setupItems_eq l s.audio sound.2.1, Audio.setup_without_rate] at answers
    have carries : ((item l 4).map (fun c => decide (c = 1))).isSome = (item l 4).isSome := Option.isSome_map
    rw [carries] at answers
    by_cases same : rate = a.rate
    · rw [Audio.changeRate_same] at answers
      swap
      · exact same
      clear_value rate
      subst same
      exact ⟨_, answers, rfl, rfl, rfl, rfl, rfl, rfl, rfl, rfl, rfl, fun _ => ⟨rfl, rfl, rfl, rfl, rfl, rfl⟩,
        fun new => absurd rfl new⟩
    · rw [Audio.changeRate_new] at answers
      swap
      · exact same
      exact ⟨_, answers, rfl, rfl, rfl, rfl, rfl, rfl, rfl, rfl, rfl, fun held => absurd held same,
        fun _ => ⟨rfl, rfl, rfl, rfl, rfl, rfl⟩⟩

end Sys2Proof.Machine
end

section
/-! PROOFS. Audio frames in and out, the click and the alert segment (R113 to R117, R121, R122). -/

namespace Sys2Proof.Machine

open Sys2Proof

/-! ### Frames in -/

section Frames

variable (a : Audio)

/-- A frame that joins may end the underrun (R113, R114). -/
theorem Audio.arrive_joins (f : StereoFrame) (room : a.fifo.length < 64) :
    a.arrive f =
      if a.inUnderrun = true ∧ a.refill ≤ a.fifo.length + 1 then
        { a with fifo := a.fifo ++ [f], inUnderrun := false, mute := { a.mute with underrun := false } }
      else { a with fifo := a.fifo ++ [f] } := by
  rw [Audio.arrive, if_pos (show a.fifo.length < Config.audioFifoFrames from room)]
  simp only [Audio.judgeUnderrun, Audio.endUnderrun, List.length_append, List.length_singleton]

theorem Audio.arrive_full (f : StereoFrame) (full : 64 ≤ a.fifo.length) :
    a.arrive f = { a with overruns := min (a.overruns + 1) 65535 } :=
  if_neg (show ¬a.fifo.length < Config.audioFifoFrames from Nat.not_lt.mpr full)

/-! ### Frames out -/

/-- An output frame finds no underrun and an empty Audio FIFO (R114). -/
abbrev Audio.entersUnderrun : Prop := a.inUnderrun = false ∧ a.fifo = []

/-- The ramp step, with the target index written out (R117). -/
theorem Audio.rampStep_eq :
    a.rampStep =
      { a with
        applied :=
          if a.rampInterval ≤ a.ramp + 1 then
            (if a.applied < a.targetIndex then a.applied + 1 else if a.targetIndex < a.applied then a.applied - 1
              else a.applied)
          else a.applied
        ramp := if a.rampInterval ≤ a.ramp + 1 then 0 else a.ramp + 1 } := by
  by_cases due : a.rampInterval ≤ a.ramp + 1
  · simp only [Audio.rampStep, stepToward, if_pos due]
  · simp only [Audio.rampStep, if_neg due]

/-- The tone frame of an output frame, and what taking it leaves (R114, R115). -/
theorem Audio.takeFrame_eq :
    a.takeFrame =
      ({ a with
          fifo := if a.inUnderrun = true then a.fifo else a.fifo.drop 1
          inUnderrun := a.inUnderrun || a.fifo.isEmpty
          underruns := if a.entersUnderrun then min (a.underruns + 1) 65535 else a.underruns
          mute := if a.entersUnderrun then { a.mute with underrun := true } else a.mute },
        if a.inUnderrun = true then { left := 0, right := 0 } else a.fifo.headD { left := 0, right := 0 },
        decide a.entersUnderrun) := by
  obtain ⟨fifo, inUnderrun⟩ := a
  cases inUnderrun with
  | true => simp [Audio.takeFrame, Audio.entersUnderrun]
  | false =>
    cases fifo with
    | nil => simp [Audio.takeFrame, Audio.entersUnderrun, Audio.enterUnderrun, satInc, Config.maxCount16]
    | cons f rest => simp [Audio.takeFrame, Audio.entersUnderrun]

end Frames

/-- What click and alert add to both channels of a frame (R121, R122). -/
def Audio.addedSample (a : Audio) : Int := a.armClick.clickSample + a.armClick.alertSample

section Sending

variable (a : Audio) (frame : StereoFrame)

/-- A channel of an output frame before saturation (R115). -/
def Audio.channel (x : Sample24) : Int := x.toInt * gain a.applied / 32768 + a.addedSample

/-- The frame sent, the clip counted, and the generators advanced (R115). -/
theorem Audio.sendFrame_eq :
    a.sendFrame frame =
      { a with
        sent := some
          { left := max (-8388607) (min (a.channel frame.left) 8388607)
            right := max (-8388607) (min (a.channel frame.right) 8388607) }
        clips :=
          if a.channel frame.left < -8388607 ∨ 8388607 < a.channel frame.left ∨ a.channel frame.right < -8388607 ∨
              8388607 < a.channel frame.right then min (a.clips + 1) 65535
          else a.clips
        click := a.click.map (fun c =>
          { c with amplitude := some (c.amplitude.getD (a.metro.clickLevel * 262144)),
                   index := if c.index < a.rate.clickFrames then c.index + 1 else c.index })
        alert := a.alert.map (fun x => { x with index := x.index + 1 }) } := by
  have clipped : (outOfRange (a.channel frame.left) || outOfRange (a.channel frame.right)) = true ↔
      (a.channel frame.left < -8388607 ∨ 8388607 < a.channel frame.left ∨ a.channel frame.right < -8388607 ∨
        8388607 < a.channel frame.right) := by
    simp only [outOfRange, Bool.or_eq_true, decide_eq_true_eq, or_assoc]
    rfl
  have advanced : (a.armClick.click.map fun c : Click => if c.index < a.rate.clickFrames then { c with index := c.index + 1 } else c) =
      a.click.map (fun c =>
        { c with amplitude := some (c.amplitude.getD (a.metro.clickLevel * 262144)),
                 index := if c.index < a.rate.clickFrames then c.index + 1 else c.index }) := by
    simp only [Audio.armClick, Option.map_map]
    refine congrArg (fun g => a.click.map g) (funext fun c => ?_)
    by_cases sounds : c.index < a.rate.clickFrames
    · simp [sounds, clickAmplitude, Config.levelStep]
    · simp [sounds, clickAmplitude, Config.levelStep]
  rw [← advanced, ← if_congr clipped rfl rfl]
  rfl

end Sending

section Samples

variable (a : Audio)

/-- The click sample, on the amplitude the click takes at its first frame (R121). -/
theorem Audio.clickSample_armed {c : Click} (click : a.click = some c) :
    a.armClick.clickSample =
      if a.mute.jackOut = true ∨ a.mute.panelMute = true ∨ a.rate.clickFrames ≤ c.index then 0
      else squareWave (if c.first then 1600 else 800) (c.amplitude.getD (a.metro.clickLevel * 262144)) a.rate.hertz c.index := by
  by_cases quiet : a.mute.jackOut = true ∨ a.mute.panelMute = true ∨ a.rate.clickFrames ≤ c.index
  · rw [if_pos quiet]
    simp only [Audio.clickSample, Audio.armClick, click, Option.map_some]
    split
    · rfl
    next loud =>
      simp only [Bool.or_eq_true, not_or] at loud
      have past : a.rate.clickFrames ≤ c.index := by simpa [loud] using quiet
      exact if_neg (Nat.not_lt.mpr past)
  · rw [if_neg quiet]
    have loud : ¬(a.mute.jackOut || a.mute.panelMute) = true := by
      simp only [Bool.or_eq_true]
      tauto
    have sounds : c.index < a.rate.clickFrames := Nat.not_le.mp fun past => quiet (.inr (.inr past))
    simp only [Audio.clickSample, Audio.armClick, click, Option.map_some]
    rw [if_neg loud, if_pos sounds]
    rfl

theorem Audio.clickSample_idle (click : a.click = none) : a.armClick.clickSample = 0 := by
  simp only [Audio.clickSample, Audio.armClick, click, Option.map_none]

end Samples

section Output

variable (a : Audio)

/-- The Audio Stage once an output frame has stepped the ramp and taken its tone frame (R115, steps 1 and 2). -/
def Audio.framed (a : Audio) : Audio := a.rampStep.takeFrame.1

theorem Audio.framed_eq :
    a.framed =
      { a with
        applied :=
          if a.rampInterval ≤ a.ramp + 1 then
            (if a.applied < a.targetIndex then a.applied + 1 else if a.targetIndex < a.applied then a.applied - 1
              else a.applied)
          else a.applied
        ramp := if a.rampInterval ≤ a.ramp + 1 then 0 else a.ramp + 1
        fifo := if a.inUnderrun = true then a.fifo else a.fifo.drop 1
        inUnderrun := a.inUnderrun || a.fifo.isEmpty
        underruns := if a.entersUnderrun then min (a.underruns + 1) 65535 else a.underruns
        mute := if a.entersUnderrun then { a.mute with underrun := true } else a.mute } := by
  rw [Audio.framed, Audio.takeFrame_eq, Audio.rampStep_eq]

/-- An underrun mutes by its own reason alone (R114, R118). -/
theorem Audio.framed_mute : a.framed.mute.jackOut = a.mute.jackOut ∧ a.framed.mute.panelMute = a.mute.panelMute := by
  rw [Audio.framed_eq]
  by_cases enters : a.entersUnderrun
  · simp only [if_pos enters, and_self]
  · simp only [if_neg enters, and_self]

/-- An output frame: the Audio Stage alone changes, and an underrun that is entered is posted (R114, R115). -/
theorem State.onOutputFrame_eq (s : State) :
    s.onOutputFrame =
      if s.audio.entersUnderrun then
        State.post .audioUnderrun { s with audio := s.audio.framed.sendFrame s.audio.rampStep.takeFrame.2.1 }
      else { s with audio := s.audio.framed.sendFrame s.audio.rampStep.takeFrame.2.1 } := by
  have mark : s.audio.rampStep.takeFrame.2.2 = decide s.audio.entersUnderrun := by
    rw [Audio.takeFrame_eq, Audio.rampStep_eq]
  simp only [State.onOutputFrame, mark, decide_eq_true_eq]
  rfl

theorem Audio.takeFrame_frame :
    a.rampStep.takeFrame.2.1 =
      if a.inUnderrun = true then { left := 0, right := 0 } else a.fifo.headD { left := 0, right := 0 } := by
  rw [Audio.takeFrame_eq, Audio.rampStep_eq]

end Output

/-- Settles O44: a frame that joins or is dropped; the ramp, the frame and the generators of an output frame, with or without the
underrun entered; and the ends of a click and of an alert segment. -/
theorem audioFramesFlow : Obligations.AudioFramesFlow := by
  intro now s on a
  refine ⟨fun left right => ⟨fun room => ?joins, fun full => ?full⟩, ?output, fun c click => ?clickEnd, fun x alert => ?segment⟩
  case joins =>
    exact (exec_event on now).trans (congrArg (fun b => Host.Outcome.next { s with now := now, audio := b }) (a.arrive_joins _ room))
  case full =>
    exact (exec_event on now).trans (congrArg (fun b => Host.Outcome.next { s with now := now, audio := b }) (a.arrive_full _ full))
  case output =>
    intro due applied enters frame frames hertz wave click alert left right clipped
    have audio : s.audio.framed.sendFrame s.audio.rampStep.takeFrame.2.1 = a.framed.sendFrame frame := by
      rw [Audio.takeFrame_frame]
    have clicks : a.framed.armClick.clickSample = click := by
      cases running : a.click with
      | none =>
        have idle : a.framed.click = none := by rw [Audio.framed_eq]; exact running
        simp only [click, running, a.framed.clickSample_idle idle]
      | some c =>
        have sounding : a.framed.click = some c := by rw [Audio.framed_eq]; exact running
        rw [a.framed.clickSample_armed sounding, a.framed_mute.1, a.framed_mute.2, Audio.framed_eq]
        simp only [click, running]
        rfl
    have alerts : a.framed.armClick.alertSample = alert := by
      have jack : a.framed.armClick.mute.jackOut = a.mute.jackOut := a.framed_mute.1
      have same : a.framed.armClick.alert = a.alert := by rw [Audio.framed_eq]; rfl
      have rate : a.framed.armClick.rate = a.rate := by rw [Audio.framed_eq]; rfl
      simp only [Audio.alertSample, jack, same, rate]
      rfl
    have added : a.framed.addedSample = click + alert := congrArg₂ (· + ·) clicks alerts
    have outcome := (exec_event (f := State.onOutputFrame) on now).trans
      (congrArg _ (State.onOutputFrame_eq { s with now := now }))
    rw [audio, Audio.sendFrame_eq] at outcome
    simp only [Audio.channel, added] at outcome
    rw [Audio.framed_eq] at outcome
    by_cases enter : enters
    · rw [if_pos enter] at outcome
      exact ⟨_, outcome, rfl, rfl, rfl, rfl, rfl, rfl, rfl, rfl, rfl, rfl, fun _ => State.post_announces _ _,
        fun none => absurd enter none, rfl, rfl, rfl, rfl, rfl, rfl⟩
    · rw [if_neg enter] at outcome
      exact ⟨_, outcome, rfl, rfl, rfl, rfl, rfl, rfl, rfl, rfl, rfl, rfl, fun now => absurd now enter, fun _ => rfl, rfl,
        rfl, rfl, rfl, rfl, rfl⟩
  case clickEnd =>
    have ends : a.endClick = if a.rate.clickFrames ≤ c.index then { a with click := none } else a := by
      simp only [Audio.endClick, click]
    refine (exec_event on now).trans ((congrArg (fun b => Host.Outcome.next { s with now := now, audio := b }) ends).trans ?_)
    split <;> rfl
  case segment =>
    have ends : a.nextSegment =
        if a.rate.alertFrames ≤ x.index then { a with alert := some { high := !x.high, index := 0 } } else a := by
      simp only [Audio.nextSegment, alert]
    refine (exec_event on now).trans ((congrArg (fun b => Host.Outcome.next { s with now := now, audio := b }) ends).trans ?_)
    split <;> rfl

end Sys2Proof.Machine
end

section
/-! PROOFS. METRO_SET, METRO_RUN and the beats of the beat clock (R123 to R127). -/

namespace Sys2Proof.Machine

open Sys2Proof

/-! ### A beat -/

section Beat

variable (s : State)

/-- An offer leaves an entry behind those that stand while fewer than 64 wait (R197). -/
theorem State.panelOffer_panel (e : PanelEntry) :
    (s.panelOffer e).panel.stream = s.panel.stream ++ (if s.panel.stream.length < 64 then [e] else []) := by
  by_cases room : s.panel.stream.length < 64
  · rw [if_pos room, State.panelOffer_stream e s room]
  · rw [if_neg room, List.append_nil, State.panelOffer, if_neg (show ¬s.panel.stream.length < Config.panelCapacity from room)]

theorem State.beat_audio (pos : BeatPos) :
    (s.beat pos).audio =
      { s.audio with counter := some pos, click := some { first := decide (pos.beat = 1), amplitude := none, index := 0 } } := by
  simp only [State.beat]
  split
  · simp [State.modAudio]
  · rfl

/-- A beat offers its entry while the beat copy is on (R125). -/
theorem State.beat_stream (pos : BeatPos) :
    (s.beat pos).panel.stream =
      s.panel.stream ++
        (if s.audio.metro.beatCopy = true ∧ s.panel.stream.length < 64 then [.beat pos s.now s.audio.clock] else []) := by
  simp only [State.beat]
  by_cases copy : s.audio.metro.beatCopy = true
  · rw [if_pos (by exact copy), State.panelOffer_panel]
    simp only [copy, true_and]
    rfl
  · rw [if_neg (by exact copy), if_neg (fun both => copy both.1), List.append_nil]
    rfl

end Beat

/-! ### METRO_SET and METRO_RUN -/

/-- The items a METRO_SET may carry (R126, R203). -/
def metroGood (marks : Nat) (l : List (Option Nat)) : Prop :=
  marks < 16 ∧ (∀ c, item l 3 = some c → c ≤ 1) ∧ (∀ b, item l 1 = some b → 1 ≤ b ∧ b ≤ 12)

section MetroSet

variable {f : Frame} {marks b : Byte} {p : List Byte} {l : List (Option Nat)} {s u : State} {r : Reply}

theorem exec_metroSet_of_judge (h : s.canTake f (b :: p)) (hj : judgeMetroSet (b :: p) (s.received f) = some (u, r)) :
    exec (.metroSet f) s = answered f r u :=
  takeRequest_of_judge (kind := .metroSet) h (Nat.le_add_left 1 p.length) (by decide) hj

theorem exec_metroRun_of_judge (h : s.canTake f (b :: p)) (hj : judgeMetroRun (b :: p) (s.received f) = some (u, r)) :
    exec (.metroRun f) s = answered f r u :=
  takeRequest_of_judge (kind := .metroRun) h (Nat.le_add_left 1 p.length) (by decide) hj

theorem beatsOutside_iff (o : Option Nat) :
    o.any (fun n => decide (n < 1) || decide (12 < n)) = false ↔ ∀ b, o = some b → 1 ≤ b ∧ b ≤ 12 := by
  cases o with
  | none => simp
  | some n =>
    simp
    omega

/-- METRO_SET of good items goes on to the three steps of R126. -/
theorem judgeMetroSet_good (items : readItems [2, 1, 1, 1] marks.toNat p = some l) (marksOk : marks.toNat < 16)
    (copyOk : ∀ c, item l 3 = some c → c ≤ 1) (s : State) :
    judgeMetroSet (marks :: p) s =
      setMetro (item l 0) (item l 1) (item l 2) ((item l 3).map (fun c => decide (c = 1))) s := by
  simp only [judgeMetroSet, optionalItems_of_layout (kind := .metroSet) rfl items, Option.bind_some, field_byte,
    (reservedBits_iff _ 4).mpr marksOk, codedItem_yesNo copyOk, Bool.false_eq_true, if_false]

theorem judgeMetroSet_range (items : readItems [2, 1, 1, 1] marks.toNat p = some l) (bad : ¬metroGood marks.toNat l)
    (s : State) : judgeMetroSet (marks :: p) s = answerMetro .range s := by
  by_cases read : marks.toNat < 16 ∧ ∀ c, item l 3 = some c → c ≤ 1
  · obtain ⟨marksOk, copyOk⟩ := read
    have beats : ¬∀ b, item l 1 = some b → 1 ≤ b ∧ b ≤ 12 := fun beatsOk => bad ⟨marksOk, copyOk, beatsOk⟩
    rw [judgeMetroSet_good items marksOk copyOk]
    exact if_pos (Bool.of_not_eq_false fun none => beats ((beatsOutside_iff _).mp none))
  · simp only [judgeMetroSet, optionalItems_of_layout (kind := .metroSet) rfl items, Option.bind_some, field_byte]
    split
    · rfl
    next few =>
      have marksOk : marks.toNat < 2 ^ 4 := (reservedBits_iff _ _).mp (by simpa using few)
      split
      next copy readCopy =>
        exact absurd ⟨marksOk, fun c carried => (yesNo_isSome c).mp (codedItem_some readCopy c carried)⟩ read
      · rfl

/-- The clamped settings of a METRO_SET (R126). -/
theorem setMetro_sets (tempo beats click copy : Option Nat) (s : State) (beatsOk : ∀ b, beats = some b → 1 ≤ b ∧ b ≤ 12) :
    setMetro tempo beats click (copy.map (fun c => decide (c = 1))) s =
      if s.audio.clock = .recording ∧ (tempo.isSome = true ∨ beats.isSome = true) then answerMetro .busy s
      else
        answerMetro .ok
          { s with audio := { s.audio with metro :=
            { tempo := (tempo.map (fun n => max 30 (min n 300))).getD s.audio.metro.tempo
              beats := beats.getD s.audio.metro.beats
              clickLevel := (click.map (fun n => min n 15)).getD s.audio.metro.clickLevel
              beatCopy := (copy.map (fun n => decide (n = 1))).getD s.audio.metro.beatCopy
              run := s.audio.metro.run } } } := by
  have levels : clamp 0 15 = fun n => min n 15 := funext fun n => Nat.zero_max _
  have tempos : clamp 30 300 = fun n => max 30 (min n 300) := rfl
  simp only [setMetro, levels, tempos, (beatsOutside_iff beats).mpr beatsOk, Bool.false_eq_true, if_false]
  rfl

end MetroSet

section MetroRun

/-- METRO_RUN set or clear, before the clock's mode is judged (R127). -/
def State.withRun (on : Bool) (s : State) : State := { s with audio := { s.audio with metro := { s.audio.metro with run := on } } }

variable {b : Byte} (p : List Byte) (s : State)

theorem judgeMetroRun_runs {on : Bool} (code : yesNo b.toNat = some on) :
    judgeMetroRun (b :: p) s =
      okWith (.metroRun (s.withRun on).judgeMode.audio.metro.run (s.withRun on).judgeMode.audio.clock)
        (s.withRun on).judgeMode := by
  simp only [judgeMetroRun, field_byte, code]
  rfl

theorem judgeMetroRun_range (code : yesNo b.toNat = none) : judgeMetroRun (b :: p) s = refuse .range s := by
  simp only [judgeMetroRun, field_byte, code]

end MetroRun

section Modes

variable (s : State)

theorem State.judgeMode_same {s : State} (same : s.audio.judgedMode = s.audio.clock) : s.judgeMode = s := if_pos same

theorem State.judgeMode_enters {s : State} {mode : ClockMode} (judged : s.audio.judgedMode = mode) (new : mode ≠ s.audio.clock) :
    s.judgeMode = s.enterMode mode := by
  rw [State.judgeMode, judged, if_neg new]

/-- FREE is entered with beat 1:1 at once (R123). -/
theorem State.enterMode_free :
    (s.enterMode .free).audio =
        { s.audio with
          clock := .free, counter := some { bar := 1, beat := 1 }, click := some { first := true, amplitude := none, index := 0 }
          nextBeat := some (s.now.after ({ s.audio with clock := .free } : Audio).beatInterval) } ∧
      (s.enterMode .free).panel.stream =
        s.panel.stream ++
          (if s.audio.metro.beatCopy = true ∧ s.panel.stream.length < 64 then [.beat { bar := 1, beat := 1 } s.now .free]
          else []) := by
  constructor
  · simp only [State.enterMode, State.modAudio, State.beat_audio, State.beat_frame]
    rfl
  · exact State.beat_stream { s with audio := { s.audio with clock := .free } } { bar := 1, beat := 1 }

/-- The clock's own beat (R124). -/
theorem State.clockBeat_audio (due : Time) (pos : BeatPos) :
    (s.clockBeat due pos).audio =
        { s.audio with
          counter := some (pos.next s.audio.beatsPerBar)
          click := some { first := decide ((pos.next s.audio.beatsPerBar).beat = 1), amplitude := none, index := 0 }
          nextBeat := some (due.after s.audio.beatInterval) } ∧
      (s.clockBeat due pos).panel.stream = (s.beat (pos.next s.audio.beatsPerBar)).panel.stream := by
  constructor
  · simp only [State.clockBeat, State.modAudio, State.beat_audio]
    rfl
  · rfl

theorem State.onBeatTime_due {due : Time} {pos : BeatPos} (next : s.audio.nextBeat = some due)
    (counter : s.audio.counter = some pos) (now : reached s.now due = true) :
    s.onBeatTime =
      if s.audio.clock = .recording then (s.clockBeat due pos).recordBeat (pos.next s.audio.beatsPerBar)
      else s.clockBeat due pos := by
  simp only [State.onBeatTime, next, counter, now, if_true]

/-- A BEAT record that meets no reserve line changes the store alone (R154). -/
theorem State.recordBeat_fits {pos : BeatPos} (recording : s.transport.state = .recording)
    (fits : (s.store.record (.beat pos.bar pos.beat) s.now).2 = false) :
    s.recordBeat pos = { s with store := (s.store.record (.beat pos.bar pos.beat) s.now).1 } := by
  simp only [State.recordBeat, recording, if_true, State.recordWith, fits, Bool.false_eq_true, if_false]

end Modes

/-- Settles O46: the three steps of METRO_SET, METRO_RUN by the mode it leaves standing or enters, and a beat of FREE and of
RECORDING. -/
theorem metronomeKeepsTheBeat : Obligations.MetronomeKeepsTheBeat := by
  refine ⟨fun f marks p l s h items => ?set, fun f b rest s h => ?run, fun now due pos s on nextBeat counter late => ?beat⟩
  case set =>
    intro a good busy m
    refine ⟨fun bad => ?_, fun sound isBusy => ?_, fun sound notBusy => ?_⟩
    · have answers := exec_metroSet_of_judge h (judgeMetroSet_range items bad (s.received f))
      rwa [State.received_audio] at answers
    all_goals
      obtain ⟨marksOk, copyOk, beatsOk⟩ := sound
      have judged := (judgeMetroSet_good items marksOk copyOk (s.received f)).trans
        (setMetro_sets (item l 0) (item l 1) (item l 2) (item l 3) (s.received f) beatsOk)
      rw [State.received_audio] at judged
    · have answers := exec_metroSet_of_judge h (judged.trans (if_pos isBusy))
      rwa [State.received_audio] at answers
    · exact exec_metroSet_of_judge h (judged.trans (if_neg notBusy))
  case run =>
    intro a on free interval
    refine ⟨fun large => ?_, fun small => ?_⟩
    · exact exec_metroRun_of_judge h (judgeMetroRun_range rest (s.received f) ((yesNo_none b).mpr large))
    · have code : yesNo b.toNat = some on :=
        (yesNo_eq b on).mpr ⟨small, decide_eq_decide.mpr (byte_eq_iff b 1 (by omega))⟩
      have answers := exec_metroRun_of_judge h (judgeMetroRun_runs rest (s.received f) code)
      have audio : ((s.received f).withRun on).audio = { a with metro := { a.metro with run := on } } := by
        simp only [State.withRun, State.received_audio]
        rfl
      have clock : ((s.received f).withRun on).audio.clock = a.clock := by rw [audio]
      have judgedMode : ((s.received f).withRun on).audio.judgedMode =
          if a.recordClick then .recording else if a.playClick then .following else if on then .free else .stopped := by
        rw [audio]
        rfl
      refine ⟨fun stays => ?_, fun isFree stopped turnsOn => ?_, fun isFree runs turnsOff => ?_⟩
      · rw [State.judgeMode_same, clock, audio] at answers
        · simp only [State.withRun, State.received_audio] at answers
          exact answers
        · rw [judgedMode, clock]
          rcases stays with ⟨clock, record⟩ | ⟨clock, record, play⟩ | ⟨⟨record, play⟩, clock⟩
          · simp [record, clock]
          · simp [record, play, clock]
          · simp [record, play, clock]
      · clear_value on
        subst turnsOn
        rw [isFree.1, isFree.2] at judgedMode
        have new : ClockMode.free ≠ ((s.received f).withRun true).audio.clock := by
          rw [clock, stopped]
          nofun
        rw [State.judgeMode_enters (mode := .free) judgedMode new] at answers
        obtain ⟨entered, stream⟩ := State.enterMode_free ((s.received f).withRun true)
        have now : ((s.received f).withRun true).now = f.now := State.received_now f s
        have before : ((s.received f).withRun true).panel.stream = s.panel.stream := State.received_stream f s
        rw [audio] at entered
        rw [entered] at answers
        rw [now] at entered
        rw [audio, now, before] at stream
        exact ⟨_, answers, entered, stream⟩
      · clear_value on
        subst turnsOff
        rw [isFree.1, isFree.2] at judgedMode
        have new : ClockMode.stopped ≠ ((s.received f).withRun false).audio.clock := by
          rw [clock, runs]
          nofun
        rw [State.judgeMode_enters (mode := .stopped) judgedMode new] at answers
        simp only [State.enterMode, State.modAudio, State.withRun, State.received_audio] at answers
        exact answers
  case beat =>
    intro a beats next click
    have event : exec (.nextBeatTime now) s = .next (State.onBeatTime { s with now := now }) := exec_event on now
    rw [State.onBeatTime_due { s with now := now } nextBeat counter late] at event
    obtain ⟨audio, stream⟩ := State.clockBeat_audio { s with now := now } due pos
    rw [State.beat_stream] at stream
    refine ⟨?_, fun recording transport fits => ?_⟩
    · intro free interval
      have notRecording : ¬({ s with now := now } : State).audio.clock = .recording := by
        rw [show ({ s with now := now } : State).audio.clock = .free from free]
        nofun
      rw [if_neg notRecording] at event
      have advances : pos.next s.audio.beatsPerBar = next := by
        simp only [next, beats, a, Audio.beatsPerBar, free, reduceCtorEq, if_false]
        rfl
      have between : s.audio.beatInterval = interval := by
        simp only [interval, Audio.beatInterval, free, a]
        rfl
      rw [advances, between] at audio
      rw [advances, free] at stream
      exact ⟨_, event, audio, stream, by simp, by simp, by simp, by simp⟩
    · rw [if_pos (show ({ s with now := now } : State).audio.clock = .recording from recording)] at event
      have advances : pos.next s.audio.beatsPerBar = next := by
        simp only [next, beats, a, Audio.beatsPerBar, recording, if_true]
        rfl
      have between : s.audio.beatInterval = 60000000 / a.entryTempo := by
        simp only [Audio.beatInterval, recording, a]
        rfl
      rw [advances, between] at audio
      have store : (({ s with now := now } : State).clockBeat due pos).store = s.store := by simp
      have nowOf : (({ s with now := now } : State).clockBeat due pos).now = now := by simp
      rw [advances, State.recordBeat_fits, store, nowOf] at event
      · exact ⟨_, event, audio, rfl, by simp, by simp⟩
      · simpa using transport
      · rw [store, nowOf]
        exact fits

end Sys2Proof.Machine
end

section
/-! PROOFS. RAIL_PROFILE, RAIL_STATUS, RAIL_ACK and RAIL_CLEAR_DISTURBED (R87, R106, R108, R109). -/

namespace Sys2Proof.Machine

open Sys2Proof

section Requests

variable {f : Frame} {a b c : Byte} {p : List Byte} {s u : State} {r : Reply}

theorem exec_railProfile_of_judge (h : s.canTake f (a :: b :: c :: p))
    (hj : judgeRailProfile (a :: b :: c :: p) (s.received f) = some (u, r)) : exec (.railProfile f) s = answered f r u :=
  takeRequest_of_judge (kind := .railProfile) h (Nat.le_add_left 3 p.length) (by decide) hj

theorem exec_railStatus_of_judge (h : s.canTake f (b :: p)) (hj : judgeRailStatus (b :: p) (s.received f) = some (u, r)) :
    exec (.railStatus f) s = answered f r u :=
  takeRequest_of_judge (kind := .railStatus) h (Nat.le_add_left 1 p.length) (by decide) hj

theorem exec_railAck_of_judge (h : s.canTake f p) (hj : judgeRailAck (s.received f) = some (u, r)) :
    exec (.railAck f) s = answered f r u :=
  takeRequest_of_judge (kind := .railAck) h (Nat.zero_le p.length) (by decide) hj

theorem exec_railClearDisturbed_of_judge (h : s.canTake f p) (hj : judgeRailClearDisturbed (s.received f) = some (u, r)) :
    exec (.railClearDisturbed f) s = answered f r u :=
  takeRequest_of_judge (kind := .railClearDisturbed) h (Nat.zero_le p.length) (by decide) hj

end Requests

/-! ### RAIL_PROFILE -/

/-- The items a RAIL_PROFILE may carry (R87, R203). -/
def profileGood (bits : Nat) (l : List (Option Nat)) : Prop :=
  bits < 65536 ∧ (∀ m, item l 14 = some m → 1 ≤ m ∧ m ≤ 3) ∧ (∀ m, item l 15 = some m → m ≤ 1)

section Profile

variable {a b c : Byte} {p : List Byte} {l : List (Option Nat)}

theorem profileItems (items : readItems profileWidths (num3 a b c) p = some l) :
    optionalItems .railProfile (a :: b :: c :: p) = some l := by
  simp only [optionalItems, itemLayout, reduceCtorEq, if_false, if_true, field_three]
  exact items

/-- An alert mode item with a code is read as the mode of the code, which replaces the mode held. -/
theorem codedItem_alertMode {o : Option Nat} (good : ∀ m, o = some m → 1 ≤ m ∧ m ≤ 3) (held : AlertMode) :
    ∃ mode, codedItem alertModeOfCode o = some mode ∧
      mode.getD held =
        if o = some 1 then .comparator else if o = some 2 then .oneShot else if o = some 3 then .twoWay else held := by
  cases o with
  | none => exact ⟨none, rfl, rfl⟩
  | some m =>
    obtain ⟨low, high⟩ := good m rfl
    interval_cases m
    · exact ⟨some .comparator, rfl, rfl⟩
    · exact ⟨some .oneShot, rfl, rfl⟩
    · exact ⟨some .twoWay, rfl, rfl⟩

theorem alertModeOfCode_isSome {m : Nat} (code : (alertModeOfCode m).isSome = true) : 1 ≤ m ∧ m ≤ 3 := by
  unfold alertModeOfCode at code
  split at code
  · omega
  · omega
  · omega
  · exact nomatch code

theorem judgeRailProfile_range (items : readItems profileWidths (num3 a b c) p = some l) (bad : ¬profileGood (num3 a b c) l)
    (s : State) : judgeRailProfile (a :: b :: c :: p) s = refuse .range s := by
  simp only [judgeRailProfile, profileItems items, Option.bind_some, field_three]
  split
  · rfl
  next few =>
    have bitsOk : num3 a b c < 2 ^ 16 := (reservedBits_iff _ _).mp (by simpa using few)
    split
    next mode park readMode readPark =>
      exact absurd ⟨bitsOk, fun m carried => alertModeOfCode_isSome (codedItem_some readMode m carried),
        fun m carried => (yesNo_isSome m).mp (codedItem_some readPark m carried)⟩ bad
    · rfl

theorem judgeRailProfile_sets (items : readItems profileWidths (num3 a b c) p = some l) (good : profileGood (num3 a b c) l)
    (s : State) :
    ∃ mode, mode.getD s.rail.profile.alertMode =
        (if item l 14 = some 1 then .comparator else if item l 14 = some 2 then .oneShot
          else if item l 14 = some 3 then .twoWay else s.rail.profile.alertMode) ∧
      judgeRailProfile (a :: b :: c :: p) s =
        okWith (.profile (s.rail.applyProfile l mode ((item l 15).map (fun n => decide (n = 1)))).profile)
          { s with rail := s.rail.applyProfile l mode ((item l 15).map (fun n => decide (n = 1))) } := by
  obtain ⟨bitsOk, modeOk, parkOk⟩ := good
  obtain ⟨mode, readMode, stands⟩ := codedItem_alertMode modeOk s.rail.profile.alertMode
  refine ⟨mode, stands, ?_⟩
  simp only [judgeRailProfile, profileItems items, Option.bind_some, field_three, (reservedBits_iff _ 16).mpr bitsOk, readMode,
    codedItem_yesNo parkOk, Bool.false_eq_true, if_false]
  rfl

/-- The two corrections of a profile (R87, steps 2 and 3). -/
theorem Profile.corrected_eq (p : Profile) :
    p.corrected =
      { p with hysteresis := if p.alertLimit ≤ p.hysteresis then p.alertLimit - 8 else p.hysteresis
               tripLimit := max p.tripLimit p.alertLimit } := by
  have trips : (if p.tripLimit < p.alertLimit then p.alertLimit else p.tripLimit) = max p.tripLimit p.alertLimit := by
    rw [max_def]
    split <;> split <;> omega
  by_cases low : p.alertLimit ≤ p.hysteresis
  · by_cases trip : p.tripLimit < p.alertLimit
    · simp [Profile.corrected, low, trip, ← trips]
    · simp [Profile.corrected, low, trip, ← trips]
  · by_cases trip : p.tripLimit < p.alertLimit
    · simp [Profile.corrected, low, trip, ← trips]
    · simp [Profile.corrected, low, trip, ← trips]

end Profile

section Judged

variable {b : Byte} (p : List Byte) (s : State)

theorem judgeRailStatus_reports {clears : Bool} (code : yesNo b.toNat = some clears) :
    judgeRailStatus (b :: p) s =
      okWith (.railStatus s.rail.report) (if clears then { s with rail := { s.rail with stalls := 0 } } else s) := by
  simp only [judgeRailStatus, field_byte, code]
  rfl

theorem judgeRailStatus_range (code : yesNo b.toNat = none) : judgeRailStatus (b :: p) s = refuse .range s := by
  simp only [judgeRailStatus, field_byte, code]

/-- Clearing the alert requested mark silences the alert generator (R106, R122). -/
theorem State.setAlertRequested_clear :
    (s.setAlertRequested false).audio.alertRequested = false ∧ (s.setAlertRequested false).audio.alert = none :=
  ⟨rfl, rfl⟩

end Judged

/-- Settles O42: the profile with its clamps and corrections, the report with or without the clear, the acknowledgement of an alert,
and the DISTURBED latch. -/
theorem railRequestsReportAndSet : Obligations.RailRequestsReportAndSet := by
  refine ⟨fun f a b c p l s h items => ?profile, fun f clear rest s h => ?status, fun f p s h => ?acks⟩
  case profile =>
    intro good held carried applied
    refine ⟨fun bad => exec_railProfile_of_judge h (judgeRailProfile_range items bad _), fun sound => ?_⟩
    obtain ⟨mode, stands, judged⟩ := judgeRailProfile_sets items sound (s.received f)
    rw [State.received_rail] at stands judged
    have mode_eq : mode.getD held.alertMode = carried.alertMode := stands
    have profile : (held.carried l mode ((item l 15).map (fun n => decide (n = 1)))).corrected = applied := by
      have half (hi : Nat) : clamp 0 hi = fun n => min n hi := funext fun n => Nat.zero_max _
      rw [Profile.corrected_eq]
      have same : held.carried l mode ((item l 15).map (fun n => decide (n = 1))) = carried := by
        simp only [Profile.carried, half, mode_eq]
        rfl
      rw [same]
    have rail : s.rail.applyProfile l mode ((item l 15).map (fun n => decide (n = 1))) =
        { s.rail with
          profile := applied, learned := if (item l 6).isSome = true then applied.programmedTravel else s.rail.learned } := by
      simp only [Rail.applyProfile]
      rw [profile]
    rw [rail] at judged
    exact exec_railProfile_of_judge h judged
  case status =>
    have reports {clears : Bool} (code : yesNo clear.toNat = some clears) :
        exec (.railStatus f) s = okFor f (.railStatus s.rail.report)
          (if clears then { s.received f with rail := { s.rail with stalls := 0 } } else s.received f) := by
      have answers := exec_railStatus_of_judge h (judgeRailStatus_reports rest (s.received f) code)
      rwa [State.received_rail] at answers
    have code := yesNo_byte clear
    split_ifs at code ⊢
    · exact reports code
    · exact reports code
    · exact exec_railStatus_of_judge h (judgeRailStatus_range rest (s.received f) code)
  case acks =>
    have answers {u : State} (judged : judgeRailAck (s.received f) = okWith .none u) : exec (.railAck f) s = okFor f .none u :=
      exec_railAck_of_judge h judged
    refine ⟨fun quiet => answers ?_, fun alert => ⟨(s.received f).setAlertRequested false, answers ?_, ?_, rfl, rfl, ?_⟩, ?_⟩
    · simp only [judgeRailAck, State.received_rail, quiet, Bool.false_eq_true, if_false]
    · simp only [judgeRailAck, State.received_rail, alert, if_true]
    · rw [← State.received_rail f s]
      rfl
    · simp
    · have judged := exec_railClearDisturbed_of_judge h rfl
      rwa [State.modRail, State.received_rail] at judged

end Sys2Proof.Machine
end

section
/-! PROOFS. Encoder pulses, current samples, and the timers of a run (R85, R89, R91, R93, R96 to R99, R101). -/

namespace Sys2Proof.Machine

open Sys2Proof

/-! ### A run that fails -/

/-- A failed run, on a state that differs from the one before the event in its time, count, run, arm and last current alone (R95). -/
theorem State.failRun_failsTo {s u : State} {now : Time} (cause : RailCause) (atTime : u.now = now)
    (target : u.rail.target = s.rail.target) (stalls : u.rail.stalls = s.rail.stalls) (learned : u.rail.learned = s.rail.learned)
    (profile : u.rail.profile = s.rail.profile) (known : u.rail.known = s.rail.known) (scanner : u.scanner = s.scanner)
    (router : u.router = s.router) (store : u.store = s.store) : s.failsTo (u.failRun cause) cause now := by
  refine ⟨rfl, rfl, rfl, rfl, rfl, ?_, rfl, ?_, rfl, ?_, State.post_announces _ _, learned, profile, known, scanner, router, store⟩
  · subst atTime
    rw [← target]
    rfl
  · rw [← stalls]
    rfl
  · exact (State.noticesStay.post _ _).announces (State.post_announces _ _)

/-- A failure of a run takes no pending notice away. -/
theorem State.failRun_noticesStay (cause : RailCause) (s : State) : s.noticesStay (s.failRun cause) :=
  (State.noticesStay.post .railState _).trans (State.noticesStay.post .railFault _)

/-! ### Encoder pulses -/

section Pulses

variable (d : Direction) (s : State)

theorem pulseServes_iff (target : Target) : pulseServes d target = true ↔ (d = .towardEngaged ↔ target = .engage) := by
  cases d <;> cases target <;> simp [pulseServes]

theorem State.railPulse_still (run : s.rail.run = none) : s.railPulse d = s.modRail (Rail.counted d) := by
  have same : (s.modRail (Rail.counted d)).rail.run = none := run
  simp only [State.railPulse, same]

/-- A pulse against the move's direction moves the count alone (R85). -/
theorem State.railPulse_against {x : Run} {target : Target} (run : s.rail.run = some x) (aim : s.rail.target = some target)
    (against : ¬(d = .towardEngaged ↔ target = .engage)) : s.railPulse d = s.modRail (Rail.counted d) := by
  have sameRun : (s.modRail (Rail.counted d)).rail.run = some x := run
  have sameAim : (s.modRail (Rail.counted d)).rail.target = some target := aim
  simp only [State.railPulse, sameRun, sameAim]
  exact if_neg (fun serves => against ((pulseServes_iff d target).mp serves))

/-- A pulse that serves the move, with the run as it reckons from then on, and the no-switch check (R85, R96). -/
theorem State.railPulse_serves {x : Run} {target : Target} (run : s.rail.run = some x) (aim : s.rail.target = some target)
    (serves : d = .towardEngaged ↔ target = .engage) :
    s.railPulse d =
      if (s.rail.counted d).pastSwitch (x.served s.now s.rail.learned) = true then
        State.failRun .noSwitch
          { s with rail := { s.rail.counted d with run := some (x.served s.now s.rail.learned) } }
      else { s with rail := { s.rail.counted d with run := some (x.served s.now s.rail.learned) } } := by
  have sameRun : (s.modRail (Rail.counted d)).rail.run = some x := run
  have sameAim : (s.modRail (Rail.counted d)).rail.target = some target := aim
  simp only [State.railPulse, sameRun, sameAim]
  rw [if_pos ((pulseServes_iff d target).mpr serves)]
  rfl

end Pulses

/-! ### Current samples -/

section Current

variable {now : Time} {mA : Nat} {s : State}

theorem exec_currentSample (on : s.system.mainOn = true) (range : mA ≤ 2040) (step : mA % 8 = 0) :
    exec (.currentSample now mA) s = .next (State.railCurrent mA { s with now := now }) := by
  have fits : isCurrent mA = true := by simp [isCurrent, range, step]
  show proceedIf (isCurrent mA) (s.event now (State.railCurrent mA)) = _
  rw [fits]
  exact exec_event on now

/-- A sample posts RAIL_LOAD, by the alert mode (R101). -/
def Rail.loadPosts (mA : Nat) (r : Rail) : Bool := (r.judgeLoad mA).2

/-- A sample judged by the current alert (R101). -/
def State.loadJudged (mA : Nat) (s : State) : State :=
  if s.rail.loadPosts mA then State.post .railLoad { s with rail := (s.rail.judgeLoad mA).1 }
  else { s with rail := (s.rail.judgeLoad mA).1 }

theorem State.loadJudged_rail (mA : Nat) (s : State) : (s.loadJudged mA).rail = (s.rail.judgeLoad mA).1 := by
  simp only [State.loadJudged]
  split <;> rfl

/-- A current sample in its order: the alert first, then the trip (R99). -/
theorem State.railCurrent_driven {s : State} (driven : s.rail.duty ≠ 0) :
    s.railCurrent mA =
      if s.rail.profile.tripLimit ≤ mA then (s.loadJudged mA).failRun .overcurrent else s.loadJudged mA := by
  have profile : (s.loadJudged mA).rail.profile = s.rail.profile := by
    rw [State.loadJudged_rail]
    rfl
  rw [← profile]
  exact if_neg driven

theorem State.railCurrent_undriven {s : State} (still : s.rail.duty = 0) : s.railCurrent mA = s := if_pos still

end Current

/-- Settles O40: pulses without a run, against the move, or serving it up to the no-switch check; samples at duty 0, below the trip
limit and at it. -/
theorem pulsesAndCurrentAreJudged : Obligations.PulsesAndCurrentAreJudged := by
  refine ⟨fun now d s on => ?pulses, fun now mA s on range step => ?current⟩
  case pulses =>
    intro count counted serves limit
    have event : exec (.encoderPulse now d) s = .next (State.railPulse d { s with now := now }) := exec_event on now
    have counts : State.modRail (Rail.counted d) { s with now := now } = counted := by
      cases d <;> rfl
    refine ⟨fun still => ?_, fun x target run aim against => ?_, fun x target run aim serve => ?_⟩
    · rw [event, State.railPulse_still d { s with now := now } still, counts]
    · rw [event, State.railPulse_against d { s with now := now } run aim against, counts]
    · intro past
      rw [State.railPulse_serves d { s with now := now } run aim serve] at event
      have judged : (({ s with now := now } : State).rail.counted d).pastSwitch (x.served now s.rail.learned) = true ↔ past := by
        have counting : (s.rail.counted d).count = count := by
          cases d <;> rfl
        have aimed : (s.rail.counted d).target = some target := aim
        simp only [Rail.pastSwitch, Run.served, past, aimed, counting]
        cases blind : x.blind with
        | true => exact decide_eq_true_iff
        | false =>
          cases target with
          | engage => exact decide_eq_true_iff
          | retract => exact decide_eq_true_iff
      have served : ({ s with now := now, rail := { s.rail.counted d with run := some (x.served now s.rail.learned) } } : State) =
          { counted with
            rail :=
              { counted.rail with
                run := some
                  { x with stallTimer := x.stallTimer.map (fun _ => now.after (x.profile.stallTime * 1000)),
                           travel := s.rail.learned, blindPulses := x.blindPulses + 1 } } } := by
        cases d <;> rfl
      refine ⟨fun within => ?_, fun beyond => ?_⟩
      · rw [if_neg (fun over_ => within (judged.mp over_))] at event
        exact event.trans (congrArg _ served)
      · rw [if_pos (judged.mpr beyond)] at event
        refine ⟨_, event, State.failRun_failsTo .noSwitch rfl rfl rfl rfl rfl rfl rfl rfl rfl, ?_⟩
        cases d <;> rfl
  case current =>
    intro p rises falls posts judged
    have event := exec_currentSample (now := now) on range step
    have posting : s.rail.loadPosts mA = true ↔ posts := by
      simp only [Rail.loadPosts, Rail.judgeLoad, posts, rises, falls, p]
      cases s.rail.profile.alertMode <;> simp
    have arms : (s.rail.judgeLoad mA).1 =
        { s.rail with lastCurrent := some mA, arm := if rises then .above else if falls then .below else s.rail.arm } := by
      simp only [Rail.judgeLoad, rises, falls, p, decide_eq_true_eq]
    have judging : ({ s with now := now, rail := (s.rail.judgeLoad mA).1 } : State) = judged := by rw [arms]
    have loads (post : posts) : State.loadJudged mA { s with now := now } = judged.post .railLoad :=
      (if_pos (posting.mpr post)).trans (congrArg (State.post .railLoad) judging)
    have quiet (none : ¬posts) : State.loadJudged mA { s with now := now } = judged :=
      (if_neg (fun post => none (posting.mp post))).trans judging
    refine ⟨fun still => ?_, fun driven below => ?_, fun driven trips => ?_⟩
    · rw [event, State.railCurrent_undriven (s := { s with now := now }) still]
    · rw [State.railCurrent_driven (s := { s with now := now }) driven, if_neg (Nat.not_le.mpr below)] at event
      exact ⟨fun post => event.trans (congrArg _ (loads post)), fun none => event.trans (congrArg _ (quiet none))⟩
    · rw [State.railCurrent_driven (s := { s with now := now }) driven, if_pos (show _ ≤ mA from trips)] at event
      refine ⟨_, event, ?_⟩
      by_cases post : posts
      · rw [loads post]
        exact ⟨State.failRun_failsTo .overcurrent rfl rfl rfl rfl rfl rfl rfl rfl rfl, rfl,
          fun _ => (State.failRun_noticesStay _ _).announces (State.post_announces _ _)⟩
      · rw [quiet post]
        exact ⟨State.failRun_failsTo .overcurrent rfl rfl rfl rfl rfl rfl rfl rfl rfl, rfl, fun posted => absurd posted post⟩

end Sys2Proof.Machine
end

section
/-! PROOFS. The timers of the rail (R89, R91, R93, R97, R98). -/

namespace Sys2Proof.Machine

open Sys2Proof

/-! ### The record of a run -/

section Runs

variable (now : Time) (x : Run) (r : Rail)

theorem Run.beginKick_kick (kicks : x.profile.kickTime ≠ 0) :
    x.beginKick now =
      { x with phase := .kick, phaseEnd := now.after (x.profile.kickTime * 1000), duty := x.profile.kickDuty, stallTimer := none } :=
  if_neg kicks

theorem Run.beginKick_ramp (none : x.profile.kickTime = 0) :
    x.beginKick now =
      { x with phase := .ramp, phaseEnd := now.after (x.profile.kickTime * 1000), duty := x.profile.kickDuty,
               nextStep := now.after (x.profile.stepTime * 1000),
               stallTimer := some (now.after (x.profile.stallTime * 1000)) } :=
  if_pos none

/-- What a kick sets whether or not it has a time, and what it leaves (R91). -/
theorem Run.beginKick_kept :
    (x.beginKick now).profile = x.profile ∧ (x.beginKick now).duty = x.profile.kickDuty ∧
      (x.beginKick now).travel = x.travel ∧ (x.beginKick now).retriesUsed = x.retriesUsed ∧
      (x.beginKick now).blind = x.blind ∧ (x.beginKick now).measured = x.measured ∧
      (x.beginKick now).moveTimer = x.moveTimer := by
  by_cases kicks : x.profile.kickTime = 0
  · rw [Run.beginKick_ramp now x kicks]
    exact ⟨rfl, rfl, rfl, rfl, rfl, rfl, rfl⟩
  · rw [Run.beginKick_kick now x kicks]
    exact ⟨rfl, rfl, rfl, rfl, rfl, rfl, rfl⟩

/-- A fresh run takes over the profile, the learned travel and the blind mark of its start (R90, R91). -/
theorem Rail.freshRun_kept (measured : Bool) :
    (r.freshRun measured now).profile = r.profile ∧ (r.freshRun measured now).duty = r.profile.kickDuty ∧
      (r.freshRun measured now).travel = r.learned ∧ (r.freshRun measured now).retriesUsed = 0 ∧
      (r.freshRun measured now).blind = !r.known ∧ (r.freshRun measured now).measured = measured ∧
      (r.freshRun measured now).moveTimer = now.after (r.profile.moveTimeout * 1000) :=
  Run.beginKick_kept now _

/-- The phase target, by the blind mark and the approach zone (R91). -/
theorem Rail.phaseTarget_eq :
    r.phaseTarget x =
      if x.blind = false ∧ (x.profile.approachZone : Int) < r.remaining x then x.profile.cruiseDuty
      else x.profile.approachDuty := by
  cases blind : x.blind with
  | true => simp [Rail.phaseTarget, blind]
  | false => simp [Rail.phaseTarget, blind]

theorem Run.stallAfterStep_driven {duty : Nat} (driven : duty ≠ 0) :
    x.stallAfterStep now duty = some (x.stallTimer.getD (now.after (x.profile.stallTime * 1000))) := by
  simp only [Run.stallAfterStep, if_neg driven]
  cases x.stallTimer <;> rfl

theorem Run.stallAfterStep_stops (driven : x.duty ≠ 0) : x.stallAfterStep now 0 = none := by
  simp only [Run.stallAfterStep, if_true, if_neg driven]

theorem Run.phaseOver_iff (phase : Phase) : x.phaseOver phase now = true ↔ x.phase = phase ∧ reached now x.phaseEnd = true := by
  simp [Run.phaseOver]

end Runs

/-! ### The timers -/

section Timers

variable {s : State} {x : Run}

theorem State.onQuietWait_due {due : Time} (timer : s.rail.quietTimer = some due) (now : reached s.now due = true) :
    s.onQuietWait = s.abandonWait := by
  simp only [State.onQuietWait, timer, now, if_true]

/-- A wait that ends returns to its prior state (R88, R89). -/
theorem State.abandonWait_rail {prior : RailState} (wait : s.rail.prior = some prior) :
    s.abandonWait.rail =
      { s.rail with
        state := prior, resting := restingAfter prior s.rail.resting, target := none, prior := none, quietTimer := none
        lastMove := some .abandoned } := by
  have entered : s.abandonWait.rail =
      Rail.enter (s.rail.prior.getD .unknown)
        { s.rail with target := none, prior := none, quietTimer := none, lastMove := some .abandoned } := rfl
  rw [entered, wait]
  rfl

theorem State.onKickEnd_due (run : s.rail.run = some x) (phase : x.phase = .kick) (now : reached s.now x.phaseEnd = true) :
    s.onKickEnd = s.setRun (x.beginRamp s.now) := by
  simp only [State.onKickEnd, run]
  exact if_pos ((x.phaseOver_iff s.now .kick).mpr ⟨phase, now⟩)

theorem State.onDutyStep_due (run : s.rail.run = some x) (phase : x.phase = .ramp) (now : reached s.now x.nextStep = true) :
    s.onDutyStep = { s with rail := s.rail.dutyStep s.now x } := by
  simp only [State.onDutyStep, run]
  exact if_pos ⟨phase, now⟩

theorem State.onStallTimer_due {due : Time} (run : s.rail.run = some x) (timer : x.stallTimer = some due)
    (now : reached s.now due = true) : s.onStallTimer = s.stallExpired x := by
  simp only [State.onStallTimer, run, timer, Option.any_some, now, if_true]

theorem State.onRetryDwell_due (run : s.rail.run = some x) (phase : x.phase = .retryDwell)
    (now : reached s.now x.phaseEnd = true) : s.onRetryDwell = s.setRun (x.beginKick s.now) := by
  simp only [State.onRetryDwell, run]
  exact if_pos ((x.phaseOver_iff s.now .retryDwell).mpr ⟨phase, now⟩)

theorem State.onMoveTimer_due (run : s.rail.run = some x) (now : reached s.now x.moveTimer = true) :
    s.onMoveTimer = s.failRun .timeout := by
  simp only [State.onMoveTimer, run, now, if_true]

/-- A run leaves the end switches. -/
theorem Rail.switchOf_run (r : Rail) (run : Option Run) (target : Target) :
    ({ r with run := run } : Rail).switchOf target = r.switchOf target := by
  cases target <;> rfl

/-- The reversal dwell ends: a fresh run that keeps the move timer, or an arrival at an active switch (R90, R92, R93). -/
theorem State.onReversalDwell_due {target : Target} (run : s.rail.run = some x) (aim : s.rail.target = some target)
    (phase : x.phase = .reversalDwell) (now : reached s.now x.phaseEnd = true) :
    s.onReversalDwell =
      if s.rail.switchOf target = true then
        State.railArrive target
          { s with rail := { s.rail with run := some { s.rail.freshRun false s.now with moveTimer := x.moveTimer } } }
      else { s with rail := { s.rail with run := some { s.rail.freshRun false s.now with moveTimer := x.moveTimer } } } := by
  simp only [State.onReversalDwell, run, aim]
  rw [if_pos ((x.phaseOver_iff s.now .reversalDwell).mpr ⟨phase, now⟩)]
  simp only [State.modRail, Rail.freshAfterReversal, run, Option.map_some, Rail.switchOf_run]
  simp only [aim]

/-- An arrival (R92). -/
theorem State.railArrive_rail (target : Target) (s : State) :
    (s.railArrive target).rail = s.rail.arrive target ∧ (s.railArrive target).announces .railState :=
  ⟨rfl, State.post_announces _ _⟩

end Timers

/-- Settles O39: the quiet wait, and each timer of a run at its time. -/
theorem railTimersAct : Obligations.RailTimersAct := by
  refine ⟨fun now due prior s on timer late wait may => ?quiet, fun now x s on run => ?runs⟩
  case quiet =>
    have event : exec (.quietWaitExpiry now) s = .next (State.onQuietWait { s with now := now }) := exec_event on now
    rw [State.onQuietWait_due (s := { s with now := now }) timer late] at event
    refine ⟨_, event, ?_, State.post_announces _ _, by simp, by simp, by simp⟩
    rw [State.abandonWait_rail (s := { s with now := now }) wait]
  case runs =>
    intro with_ remaining goal duty
    have kept : ({ s with now := now } : State).rail.run = some x := run
    refine ⟨fun phase late => ?_, fun phase late => ?_, fun due timer late left => ?_, fun due timer late used => ?_,
      fun phase late kicks => ?_, fun phase late none => ?_, fun late => ?_,
      fun target phase late aim => ⟨fun off => ?_, fun shut => ?_⟩⟩
    · exact (exec_event on now).trans (congrArg _ (State.onKickEnd_due kept phase late))
    · refine ⟨x.stallAfterStep now duty, ?_, fun driven => x.stallAfterStep_driven now driven, fun stops driven => ?_⟩
      · have stepped : s.rail.dutyStep now x =
            { s.rail with
              run := some
                { x with duty := duty, nextStep := x.nextStep.after (x.profile.stepTime * 1000),
                         stallTimer := x.stallAfterStep now duty } } := by
          simp only [Rail.dutyStep, Rail.phaseTarget_eq]
          rfl
        refine (exec_event on now).trans (congrArg _ ((State.onDutyStep_due kept phase late).trans ?_))
        exact congrArg (fun r => ({ s with now := now, rail := r } : State)) stepped
      · rw [stops]
        exact x.stallAfterStep_stops now driven
    · refine (exec_event on now).trans (congrArg _ ((State.onStallTimer_due kept timer late).trans ?_))
      exact if_pos left
    · have failed : State.stallExpired x { s with now := now } = State.failRun .stall { s with now := now } :=
        if_neg (Nat.not_lt.mpr used)
      exact ⟨_, (exec_event on now).trans (congrArg _ ((State.onStallTimer_due kept timer late).trans failed)),
        State.failRun_failsTo .stall rfl rfl rfl rfl rfl rfl rfl rfl rfl⟩
    · refine (exec_event on now).trans (congrArg _ ((State.onRetryDwell_due kept phase late).trans ?_))
      rw [Run.beginKick_kick _ x kicks]
      rfl
    · refine ⟨now.after (x.profile.kickTime * 1000),
        (exec_event on now).trans (congrArg _ ((State.onRetryDwell_due kept phase late).trans ?_))⟩
      rw [Run.beginKick_ramp _ x none]
      rfl
    · exact ⟨_, (exec_event on now).trans (congrArg _ (State.onMoveTimer_due kept late)),
        State.failRun_failsTo .timeout rfl rfl rfl rfl rfl rfl rfl rfl rfl⟩
    · obtain ⟨profile, duty, travel, retries, blind, measured, _⟩ := s.rail.freshRun_kept now false
      refine ⟨{ s.rail.freshRun false now with moveTimer := x.moveTimer },
        (exec_event on now).trans (congrArg _ ((State.onReversalDwell_due kept aim phase late).trans ?_)), profile, duty, travel,
        retries, blind, measured, rfl⟩
      exact if_neg (ne_true_of_eq_false off)
    · refine ⟨_, (exec_event on now).trans
        (congrArg _ ((State.onReversalDwell_due kept aim phase late).trans (if_pos shut))), ?_⟩
      exact ⟨rfl, rfl, rfl, rfl, State.post_announces _ _⟩

end Sys2Proof.Machine
end

section
/-! PROOFS. The move requests, by the rail's state (R88 to R90, R92, R93). -/

namespace Sys2Proof.Machine

open Sys2Proof

/-! ### A run begins -/

section Phases

variable (measured : Bool) (now : Time) (r : Rail)

theorem Rail.freshRun_kick (kicks : r.profile.kickTime ≠ 0) :
    (r.freshRun measured now).phase = .kick ∧ (r.freshRun measured now).phaseEnd = now.after (r.profile.kickTime * 1000) ∧
      (r.freshRun measured now).stallTimer = none := by
  rw [Rail.freshRun, Run.beginKick_kick _ _ kicks]
  exact ⟨rfl, rfl, rfl⟩

theorem Rail.freshRun_ramp (none : r.profile.kickTime = 0) :
    (r.freshRun measured now).phase = .ramp ∧
      (r.freshRun measured now).stallTimer = some (now.after (r.profile.stallTime * 1000)) := by
  rw [Rail.freshRun, Run.beginKick_ramp _ _ none]
  exact ⟨rfl, rfl⟩

end Phases

section Begins

variable (target : Target) (s : State)

/-- The run begins from WAIT_QUIET, before the target end's switch is looked at (R90). -/
def State.runBegun (target : Target) (s : State) : State :=
  State.railChanged
    { s with
      rail := { s.rail with
        state := target.movingState, resting := .unknown, target := some target, prior := none, quietTimer := none, arm := .below
        run := some
          (s.rail.freshRun (decide (s.rail.prior = some .retracted) && decide (target = .engage) && s.rail.known) s.now) } }

theorem State.runBegun_rail :
    (s.runBegun target).rail =
      { s.rail with
        state := target.movingState, resting := .unknown, target := some target, prior := none, quietTimer := none, arm := .below
        run := some
          (s.rail.freshRun (decide (s.rail.prior = some .retracted) && decide (target = .engage) && s.rail.known) s.now) } := rfl

theorem State.startRun_eq :
    s.startRun target = if s.rail.switchOf target = true then (s.runBegun target).railArrive target else s.runBegun target := by
  cases target <;> rfl

/-- With the target end's switch inactive the run goes on (R90). -/
theorem State.startRun_off (off : s.rail.switchOf target = false) : s.startRun target = s.runBegun target := by
  rw [State.startRun_eq, off]
  rfl

/-- With the target end's switch active the run ends at once (R92). -/
theorem State.startRun_on (active : s.rail.switchOf target = true) :
    s.startRun target = (s.runBegun target).railArrive target := by
  rw [State.startRun_eq, active]
  rfl

theorem State.startRun_announces : (s.startRun target).announces .railState := by
  rw [State.startRun_eq]
  split
  · exact State.post_announces _ _
  · exact State.post_announces _ _

/-- A wait ends in the run toward its target, or in the arrival at its end (R89, R90, R92). -/
theorem State.startRun_leavesWait : s.rail.leavesWait (s.startRun target).rail target s.now := by
  refine ⟨fun off => ?_, fun active => ?_⟩
  · rw [State.startRun_off target s off]
    exact ⟨_, rfl, rfl, s.rail.freshRun_kept s.now _⟩
  · rw [State.startRun_on target s active]
    cases target
    · exact ⟨rfl, rfl, rfl, rfl, rfl, rfl, rfl⟩
    · exact ⟨rfl, rfl, rfl, rfl, rfl, rfl, rfl⟩

theorem State.startRun_alert : (s.startRun target).rail.alertRequested = s.rail.alertRequested := by
  rw [State.startRun_eq]
  split
  · rfl
  · rfl

end Begins

/-! ### A wait is entered -/

section Waits

variable (target : Target) (prior : RailState) (s : State)

/-- WAIT_QUIET, before a quiet keyboard begins the run within the same event (R89). -/
def State.waitEntered (target : Target) (prior : RailState) (s : State) : State :=
  State.railChanged
    { s with
      rail := { s.rail with
        state := .waitQuiet, target := some target, prior := some prior
        quietTimer := some (s.now.after (s.rail.profile.quietWait * 1000)) } }

theorem State.enterWaitQuiet_busy (busy : s.quiet = false) : s.enterWaitQuiet target prior = s.waitEntered target prior :=
  if_neg (ne_true_of_eq_false (show (s.waitEntered target prior).quiet = false from busy))

theorem State.enterWaitQuiet_quiet (quiet : s.quiet = true) :
    s.enterWaitQuiet target prior = (s.waitEntered target prior).startRun target :=
  if_pos (show (s.waitEntered target prior).quiet = true from quiet)

end Waits

/-! ### The table of R88 -/

section Table

variable {target : Target} {s : State}

theorem State.moveRequest_there (there : s.rail.state = target.endState) : s.moveRequest target = (s, .ok, true) := by
  cases target with
  | engage => simp only [State.moveRequest, show s.rail.state = .engaged from there, if_true]
  | retract => simp only [State.moveRequest, show s.rail.state = .retracted from there, if_true]

theorem State.moveRequest_underWay
    (same : s.rail.state = target.movingState ∨ (s.rail.state = .waitQuiet ∧ s.rail.target = some target)) :
    s.moveRequest target = (s, .ok, false) := by
  rcases same with moving | ⟨waits, aim⟩
  · cases target with
    | engage => simp only [State.moveRequest, show s.rail.state = .engaging from moving, if_true]
    | retract => simp only [State.moveRequest, show s.rail.state = .retracting from moving, if_true]
  · simp only [State.moveRequest, waits, aim, if_true]

theorem State.moveRequest_faulty (fault : s.rail.state = .switchFault) : s.moveRequest target = (s, .state, false) := by
  simp only [State.moveRequest, fault]

theorem State.moveRequest_returns (waits : s.rail.state = .waitQuiet) (other : s.rail.target ≠ some target)
    (home : s.rail.prior = some target.endState) : s.moveRequest target = (s.abandonWait, .ok, true) := by
  simp only [State.moveRequest, waits, home, if_neg other, if_true]

theorem State.moveRequest_turns (waits : s.rail.state = .waitQuiet) (other : s.rail.target ≠ some target)
    (away : s.rail.prior ≠ some target.endState) :
    s.moveRequest target =
      ({ s with rail := { s.rail with target := some target
                                      quietTimer := some (s.now.after (s.rail.profile.quietWait * 1000)) } },
        .accepted, false) := by
  conv_lhs => simp only [State.moveRequest, waits, if_neg other, if_neg away]
  rfl

theorem State.moveRequest_reverses {other : Target} (moves : s.rail.state = other.movingState) (differs : other ≠ target) :
    s.moveRequest target = (s.reverse target, .accepted, false) := by
  cases target with
  | engage =>
    cases other with
    | engage => exact absurd rfl differs
    | retract => simp only [State.moveRequest, show s.rail.state = .retracting from moves, reduceCtorEq, if_false]
  | retract =>
    cases other with
    | engage => simp only [State.moveRequest, show s.rail.state = .engaging from moves, reduceCtorEq, if_false]
    | retract => exact absurd rfl differs

/-- A STALLED rail's alert is acknowledged with the move request (R88). -/
def State.alertAnswered (s : State) : State :=
  if s.rail.state = .stalled then { s with rail := { s.rail with alertRequested := false } } else s

theorem State.alertAnswered_rail :
    s.alertAnswered.rail =
      { s.rail with alertRequested := if s.rail.state = .stalled then false else s.rail.alertRequested } := by
  simp only [State.alertAnswered]
  split
  · rfl
  · rfl

theorem State.alertAnswered_frame : s.alertAnswered.now = s.now ∧ s.alertAnswered.quiet = s.quiet := by
  simp only [State.alertAnswered]
  split
  · exact ⟨rfl, rfl⟩
  · exact ⟨rfl, rfl⟩

theorem State.alertAnswered_other (other : s.rail.state ≠ .stalled) : s.alertAnswered = s := if_neg other

/-- A rail at rest away from the target's end enters the wait (R88). -/
theorem State.moveRequest_leaves
    (leaves : s.rail.state = .unknown ∨ s.rail.state = .stalled ∨
      ∃ other : Target, other ≠ target ∧ s.rail.state = other.endState) :
    s.moveRequest target = (s.alertAnswered.enterWaitQuiet target s.rail.state, .accepted, false) := by
  rcases leaves with state | state | ⟨other, differs, state⟩
  · rw [State.alertAnswered_other (by rw [state]; nofun)]
    simp only [State.moveRequest, state]
  · have answered : s.alertAnswered = { s with rail := { s.rail with alertRequested := false } } := if_pos state
    simp only [State.moveRequest, state, answered]
    rfl
  · cases other with
    | engage =>
      cases target with
      | engage => exact absurd rfl differs
      | retract =>
        have state : s.rail.state = .engaged := state
        rw [State.alertAnswered_other (by rw [state]; nofun)]
        simp only [State.moveRequest, state, reduceCtorEq, if_false]
    | retract =>
      cases target with
      | engage =>
        have state : s.rail.state = .retracted := state
        rw [State.alertAnswered_other (by rw [state]; nofun)]
        simp only [State.moveRequest, state, reduceCtorEq, if_false]
      | retract => exact absurd rfl differs

/-- A reversal (R93). -/
theorem State.reverse_rail {x : Run} (target : Target) (run : s.rail.run = some x) :
    (s.reverse target).rail =
        { s.rail with
          state := target.movingState
          resting := .unknown
          target := some target
          lastMove := some .reversed
          arm := .below
          run := some
            { x with phase := .reversalDwell, phaseEnd := s.now.after 50000, duty := 0, retriesUsed := 0
                     moveTimer := s.now.after (s.rail.profile.moveTimeout * 1000), stallTimer := none, blindPulses := 0 } } ∧
      (s.reverse target).announces .railState := by
  refine ⟨?_, State.post_announces _ _⟩
  have entered : (s.reverse target).rail =
      Rail.enter target.movingState
        { s.rail with
          target := some target
          lastMove := some .reversed
          arm := .below
          run := s.rail.run.map (fun x =>
            { x with phase := .reversalDwell, phaseEnd := s.now.after 50000, duty := 0, retriesUsed := 0
                     moveTimer := s.now.after (s.rail.profile.moveTimeout * 1000), stallTimer := none, blindPulses := 0 }) } := rfl
  rw [entered, run]
  cases target <;> rfl

end Table

/-- A move request is answered by the table of R88. -/
theorem exec_move {target : Target} {c : Instr} {f : Frame} {p : List Byte} {s u : State} {status : Status} {there : Bool}
    (h : s.canTake f p)
    (request : c = (match target with
      | .engage => .railEngage f
      | .retract => .railRetract f))
    (judged : (s.received f).moveRequest target = (u, status, there)) :
    exec c s = answered f { status := status, data := .railMove there u.rail.state u.rail.target } u := by
  have judges : judgeMove target (s.received f) =
      some (u, { status := status, data := .railMove there u.rail.state u.rail.target }) := by
    simp only [judgeMove, judged]
    rfl
  subst request
  cases target with
  | engage => exact takeRequest_of_judge (kind := .railEngage) h (Nat.zero_le p.length) (by decide) judges
  | retract => exact takeRequest_of_judge (kind := .railRetract) h (Nat.zero_le p.length) (by decide) judges

/-- Settles O38: the table of R88, row by row. -/
theorem moveRequestsFollowTheRailState : Obligations.MoveRequestsFollowTheRailState := by
  intro target c f p s h request r alert mayLeave
  have rail : (s.received f).rail = r := State.received_rail f s
  have answers {u : State} {status : Status} {there : Bool} (judged : (s.received f).moveRequest target = (u, status, there)) :
      exec c s = answered f { status := status, data := .railMove there u.rail.state u.rail.target } u :=
    exec_move h request judged
  refine ⟨?frame, fun there => ?there, fun same => ?same, fun fault => ?fault, fun waits other home => ?returns,
    fun waits other away => ?turns, fun x other moves differs run => ?reverses, fun leaves busy => ?waits,
    fun leaves quiet off => ?runs, fun leaves quiet active => ?arrives⟩
  case frame =>
    refine ⟨_, answers (u := ((s.received f).moveRequest target).1) rfl, ?_⟩
    simp
  case there =>
    rw [answers (State.moveRequest_there (s := s.received f) (by rw [rail]; exact there)), rail]
    rfl
  case same =>
    rw [answers (State.moveRequest_underWay (s := s.received f) (by rw [rail]; exact same)), rail]
    rfl
  case fault =>
    rw [answers (State.moveRequest_faulty (s := s.received f) (by rw [rail]; exact fault)), rail, fault]
  case returns =>
    have back := State.abandonWait_rail (s := s.received f) (prior := target.endState) (by rw [rail]; exact home)
    have judged := answers (State.moveRequest_returns (s := s.received f) (by rw [rail]; exact waits) (by rw [rail]; exact other)
      (by rw [rail]; exact home))
    rw [back] at judged
    refine ⟨_, judged, ?_, State.post_announces _ _⟩
    rw [back, rail]
    cases target <;> rfl
  case turns =>
    have judged := answers (State.moveRequest_turns (s := s.received f) (by rw [rail]; exact waits) (by rw [rail]; exact other)
      (by rw [rail]; exact away))
    rw [rail] at judged
    rw [← show r.state = .waitQuiet from waits, ← State.received_now f s]
    exact judged
  case reverses =>
    obtain ⟨reversed, announced⟩ := State.reverse_rail (s := s.received f) target (by rw [rail]; exact run)
    have judged := answers (State.moveRequest_reverses (s := s.received f) (by rw [rail]; exact moves) differs)
    rw [reversed] at judged
    refine ⟨_, judged, ?_, announced⟩
    rw [reversed, rail, State.received_now]
  all_goals
    have judged := answers (State.moveRequest_leaves (s := s.received f) (by rw [rail]; exact leaves))
    obtain ⟨now, quietness⟩ := State.alertAnswered_frame (s := s.received f)
    have answered := State.alertAnswered_rail (s := s.received f)
    rw [State.received_now] at now
    rw [State.received_quiet] at quietness
    rw [rail] at judged answered
    have switches : (s.received f).alertAnswered.rail.switchOf target = r.switchOf target := by
      rw [answered]
      cases target <;> rfl
    have entered : (State.waitEntered target r.state (s.received f).alertAnswered).rail =
        { r with state := .waitQuiet, target := some target, prior := some r.state, alertRequested := alert,
                 quietTimer := some (f.now.after (r.profile.quietWait * 1000)) } := by
      show ({ (s.received f).alertAnswered.rail with state := _, target := _, prior := _, quietTimer := _ } : Rail) = _
      rw [answered, now]
  case waits =>
    rw [State.enterWaitQuiet_busy _ _ _ (quietness.trans busy)] at judged
    exact ⟨_, judged, entered, State.post_announces _ _⟩
  case runs =>
    rw [State.enterWaitQuiet_quiet _ _ _ (quietness.trans quiet)] at judged
    have announced := State.startRun_announces target (State.waitEntered target r.state (s.received f).alertAnswered)
    have offEnd : (State.waitEntered target r.state (s.received f).alertAnswered).rail.switchOf target = false := by
      rw [entered, ← off]
      cases target <;> rfl
    rw [State.startRun_off _ _ offEnd] at judged announced
    have atNow : (State.waitEntered target r.state (s.received f).alertAnswered).now = f.now := now
    have begun := State.runBegun_rail target (State.waitEntered target r.state (s.received f).alertAnswered)
    have mark : decide (some r.state = some RailState.retracted) = decide (r.state = .retracted) :=
      decide_eq_decide.mpr Option.some_inj
    rw [entered, atNow, mark] at begun
    rw [begun] at judged
    obtain ⟨profile, duty, travel, retries, blind, measured, moveTimer⟩ :=
      Rail.freshRun_kept f.now
        { r with state := .waitQuiet, target := some target, prior := some r.state, alertRequested := alert,
                 quietTimer := some (f.now.after (r.profile.quietWait * 1000)) }
        (decide (r.state = .retracted) && decide (target = .engage) && r.known)
    exact ⟨_, judged, _, congrArg Rail.run begun, begun, profile, duty, travel, retries, blind, measured, moveTimer,
      Rail.freshRun_kick _ _ _, Rail.freshRun_ramp _ _ _, announced⟩
  case arrives =>
    rw [State.enterWaitQuiet_quiet _ _ _ (quietness.trans quiet)] at judged
    have announced := State.startRun_announces target (State.waitEntered target r.state (s.received f).alertAnswered)
    have alerts := State.startRun_alert target (State.waitEntered target r.state (s.received f).alertAnswered)
    have ends := State.startRun_leavesWait target (State.waitEntered target r.state (s.received f).alertAnswered)
    rw [entered] at ends alerts
    obtain ⟨state, resting, run, aim, -, -, last⟩ := ends.2 (by rw [← active]; cases target <;> rfl)
    rw [state, aim] at judged
    exact ⟨_, judged, state, resting, run, aim, last, alerts, announced⟩

end Sys2Proof.Machine
end

section
/-! PROOFS. The end switches of the rail (R86, R92, R100). -/

namespace Sys2Proof.Machine

open Sys2Proof

/-! ### The level taken and the count placed -/

section Taken

variable (w : EndSwitch) (active : Bool) (r : Rail)

/-- The rail record with a changed level taken and the count placed by it (R86). -/
def Rail.taken : Rail := if active then (r.setSwitch w active).located w else r.setSwitch w active

/-- The level of the other end's switch. -/
def Rail.otherLevel (w : EndSwitch) (r : Rail) : Bool :=
  match w with
  | .retractEnd => r.engageEnd
  | .engageEnd => r.retractEnd

/-- The count at a switch becoming active (R86). -/
def Rail.placedCount : Int :=
  if active = true then
    (match w with
      | .retractEnd => 0
      | .engageEnd => if r.known = true then r.count else r.learned)
  else r.count

/-- What a taken level changes: the level, the count and position known, and nothing else. -/
theorem Rail.taken_eq :
    r.taken w active =
      { r with
        retractEnd := if w = .retractEnd then active else r.retractEnd
        engageEnd := if w = .engageEnd then active else r.engageEnd
        count := r.placedCount w active
        known := r.known || active } := by
  obtain ⟨state, target, prior, timer, count, known⟩ := r
  cases w
  · cases active <;> cases known <;> rfl
  · cases active <;> cases known <;> rfl

theorem Rail.taken_both :
    ((r.taken w active).retractEnd = true ∧ (r.taken w active).engageEnd = true) ↔
      (active = true ∧ r.otherLevel w = true) := by
  rw [Rail.taken_eq]
  cases w
  · simp [Rail.otherLevel]
  · simp [Rail.otherLevel, and_comm]

theorem Rail.taken_switchLevel : (r.taken w active).switchLevel w = active := by
  rw [Rail.taken_eq]
  cases w <;> rfl

end Taken

section Switch

variable {w : EndSwitch} {active : Bool} {s : State}

theorem State.railSwitch_same (same : s.rail.switchLevel w = active) : s.railSwitch w active = s := if_pos same

/-- A taken change: both switches active, or what the rail's state makes of it (R86, R100). -/
theorem State.railSwitch_changed (changed : s.rail.switchLevel w ≠ active) :
    s.railSwitch w active =
      if active = true ∧ s.rail.otherLevel w = true then
        State.switchFault { s with rail := s.rail.taken w active }
      else State.switchHandled w active { s with rail := s.rail.taken w active } := by
  rw [← if_congr (Rail.taken_both w active s.rail) rfl rfl, State.railSwitch, if_neg changed]
  cases active <;> rfl

end Switch

/-! ### By the rail's state -/

/-- The prior state of a wait after a change of a switch (R86). -/
theorem restAfterSwitch_prior (w : EndSwitch) (active : Bool) (prior : Option RailState) :
    prior.map (restAfterSwitch w active) =
      if active = true ∧ prior = some .unknown then some (switchTarget w).endState
      else if active = false ∧ prior = some (switchTarget w).endState then some .unknown
      else prior := by
  cases prior with
  | none => simp
  | some x =>
    cases active with
    | true => by_cases unknown : x = .unknown <;> simp [restAfterSwitch, unknown]
    | false => by_cases ends : x = (switchTarget w).endState <;> simp [restAfterSwitch, ends]

/-- Position known in a wait after a change of a switch (R86). -/
theorem knownAfterSwitch_prior (w : EndSwitch) (active : Bool) (prior : Option RailState) (known : Bool) :
    knownAfterSwitch w active (prior.getD .stalled) (known || active) =
      if active = true then true else if prior = some (switchTarget w).endState then false else known := by
  cases active with
  | true => simp [knownAfterSwitch]
  | false =>
    cases prior with
    | none => cases w <;> simp [knownAfterSwitch, switchTarget, Target.endState]
    | some x => by_cases ends : x = (switchTarget w).endState <;> simp [knownAfterSwitch, ends]


section Handled

variable {w : EndSwitch} {active : Bool} {s : State}

/-- A state at rest that the change leaves: only position known is judged (R86). -/
theorem State.switchAtRest_stays (stays : restAfterSwitch w active s.rail.state = s.rail.state) :
    s.switchAtRest w active =
      { s with rail := { s.rail with known := knownAfterSwitch w active s.rail.state s.rail.known } } :=
  if_pos stays

/-- A state at rest that the change ends (R86). -/
theorem State.switchAtRest_moves {x : RailState} (after : restAfterSwitch w active s.rail.state = x) (moves : x ≠ s.rail.state) :
    (s.switchAtRest w active).rail =
        { s.rail with
          state := x, resting := restingAfter x s.rail.resting
          known := knownAfterSwitch w active s.rail.state s.rail.known } ∧
      (s.switchAtRest w active).announces .railState := by
  subst after
  have taken : s.switchAtRest w active =
      (State.modRail (Rail.enter (restAfterSwitch w active s.rail.state))
        { s with rail := { s.rail with known := knownAfterSwitch w active s.rail.state s.rail.known } }).railChanged :=
    if_neg moves
  rw [taken]
  exact ⟨rfl, State.post_announces _ _⟩

theorem restingAfter_endState (target : Target) (resting : RailState) :
    restingAfter target.endState resting = target.endState := by
  cases target <;> rfl

theorem State.switchHandled_atRest (rest : s.rail.state = .retracted ∨ s.rail.state = .engaged ∨ s.rail.state = .unknown) :
    s.switchHandled w active = s.switchAtRest w active := by
  rcases rest with state | state | state
  · simp only [State.switchHandled, state]
  · simp only [State.switchHandled, state]
  · simp only [State.switchHandled, state]

/-- The switch of the move's own end ends the run (R92). -/
theorem State.switchHandled_arrives (moves : s.rail.state = (switchTarget w).movingState) :
    s.switchHandled w true = s.railArrive (switchTarget w) := by
  cases w
  · simp only [State.switchHandled, show s.rail.state = .retracting from moves, true_and, if_true, switchTarget]
  · simp only [State.switchHandled, show s.rail.state = .engaging from moves, true_and, if_true, switchTarget]

/-- Any other change leaves a run going (R86). -/
theorem State.switchHandled_moving (moving : s.rail.state.moving = true)
    (other : active = false ∨ s.rail.state ≠ (switchTarget w).movingState) : s.switchHandled w active = s := by
  cases state : s.rail.state with
  | engaging =>
    have notOwn : ¬(active = true ∧ w = .engageEnd) := by
      rintro ⟨rfl, rfl⟩
      exact other.elim nofun (fun differs => differs state)
    simp only [State.switchHandled, state]
    exact if_neg notOwn
  | retracting =>
    have notOwn : ¬(active = true ∧ w = .retractEnd) := by
      rintro ⟨rfl, rfl⟩
      exact other.elim nofun (fun differs => differs state)
    simp only [State.switchHandled, state]
    exact if_neg notOwn
  | unknown => simp [state, RailState.moving] at moving
  | retracted => simp [state, RailState.moving] at moving
  | engaged => simp [state, RailState.moving] at moving
  | waitQuiet => simp [state, RailState.moving] at moving
  | stalled => simp [state, RailState.moving] at moving
  | switchFault => simp [state, RailState.moving] at moving

theorem State.switchHandled_stalled (stalled : s.rail.state = .stalled) : s.switchHandled w active = s := by
  simp only [State.switchHandled, stalled]

/-- In a wait the prior state and position known change as they would at rest (R86, assumption 47). -/
theorem State.switchHandled_waits (waits : s.rail.state = .waitQuiet) :
    s.switchHandled w active =
      { s with rail := { s.rail with
        known := knownAfterSwitch w active (s.rail.prior.getD .stalled) s.rail.known
        prior := s.rail.prior.map (restAfterSwitch w active) } } := by
  conv_lhs => simp only [State.switchHandled, waits]
  rfl

/-- The switch that remains decides the state after a SWITCH_FAULT (R100). -/
theorem State.switchHandled_recovers {v : EndSwitch} (fault : s.rail.state = .switchFault)
    (remains : s.rail.retractEnd = decide (v = .retractEnd)) (active_ : s.rail.engageEnd = decide (v = .engageEnd)) :
    (s.switchHandled w active).rail =
        Rail.enter (switchTarget v).endState { s.rail.located v with alertRequested := false } ∧
      (s.switchHandled w active).announces .railState := by
  have leaves : s.switchHandled w active =
      (s.modRail (fun r => Rail.enter (switchTarget v).endState { r.located v with alertRequested := false })).railChanged := by
    cases v
    · simp only [State.switchHandled, fault, State.leaveSwitchFault, remains]
      rfl
    · simp only [State.switchHandled, fault, State.leaveSwitchFault, remains, active_]
      rfl
  rw [leaves]
  exact ⟨rfl, State.post_announces _ _⟩

/-- What a state makes of a change leaves the levels of the switches. -/
theorem State.switchHandled_levels :
    (s.switchHandled w active).rail.retractEnd = s.rail.retractEnd ∧
      (s.switchHandled w active).rail.engageEnd = s.rail.engageEnd := by
  have atRest : (s.switchAtRest w active).rail.retractEnd = s.rail.retractEnd ∧
      (s.switchAtRest w active).rail.engageEnd = s.rail.engageEnd := by
    simp only [State.switchAtRest]
    split
    · exact ⟨rfl, rfl⟩
    · exact ⟨rfl, rfl⟩
  cases state : s.rail.state with
  | retracted => simpa only [State.switchHandled, state] using atRest
  | engaged => simpa only [State.switchHandled, state] using atRest
  | unknown => simpa only [State.switchHandled, state] using atRest
  | waitQuiet =>
    rw [State.switchHandled_waits state]
    exact ⟨rfl, rfl⟩
  | stalled =>
    rw [State.switchHandled_stalled state]
    exact ⟨rfl, rfl⟩
  | engaging =>
    simp only [State.switchHandled, state]
    split
    · exact ⟨rfl, rfl⟩
    · exact ⟨rfl, rfl⟩
  | retracting =>
    simp only [State.switchHandled, state]
    split
    · exact ⟨rfl, rfl⟩
    · exact ⟨rfl, rfl⟩
  | switchFault =>
    simp only [State.switchHandled, state, State.leaveSwitchFault]
    split
    · exact ⟨rfl, rfl⟩
    · split
      · exact ⟨rfl, rfl⟩
      · exact ⟨rfl, rfl⟩

end Handled

/-- Settles O41: both switches active, and one change in every state of the rail. -/
theorem endSwitchesPlaceTheRail : Obligations.EndSwitchesPlaceTheRail := by
  intro now w active s on r own other count
  have event : exec (.endSwitchChange now w active) s = .next (State.railSwitch w active { s with now := now }) :=
    exec_event on now
  have otherLevel : r.otherLevel w = other := by cases w <;> rfl
  have placed : r.placedCount w active = count := by cases w <;> rfl
  have taken := Rail.taken_eq w active r
  rw [placed] at taken
  refine ⟨fun same => event.trans (congrArg _ (State.railSwitch_same same)),
    fun changed => ⟨_, event, ?level, ?_, ?_, ?_, ?_, ?both, ?one⟩⟩
  case level =>
    rw [State.railSwitch_changed (s := { s with now := now }) changed]
    split
    · exact r.taken_switchLevel w active
    · obtain ⟨retracts, engages⟩ := State.switchHandled_levels (w := w) (active := active)
        (s := { s with now := now, rail := r.taken w active })
      have level := r.taken_switchLevel w active
      cases w
      · exact retracts.trans level
      · exact engages.trans level
  case both =>
    intro bothActive
    rw [State.railSwitch_changed (s := { s with now := now }) changed,
      if_pos (show active = true ∧ r.otherLevel w = true by rw [otherLevel]; exact bothActive), taken]
    exact ⟨rfl, rfl, rfl, rfl, rfl, rfl, rfl, rfl, rfl, rfl, rfl, rfl,
      (State.noticesStay.post _ _).announces (State.post_announces _ _), State.post_announces _ _⟩
  case one =>
    intro notBoth
    rw [State.railSwitch_changed (s := { s with now := now }) changed,
      if_neg (show ¬(active = true ∧ r.otherLevel w = true) by rw [otherLevel]; exact notBoth), taken]
    generalize fresh : ({ s with now := now, rail := _ } : State) = u
    have rail : u.rail = { r with
        retractEnd := if w = .retractEnd then active else r.retractEnd
        engageEnd := if w = .engageEnd then active else r.engageEnd, count := count, known := r.known || active } := by
      rw [← fresh]
    have state : u.rail.state = r.state := by rw [rail]
    refine ⟨fun unknown active => ?placed, fun atEnd inactive => ?released, fun rest stays => ?stays,
      fun unknown inactive => ?unplaced, fun moves active => ?arrives, fun moving elsewhere => ?moving, fun stalled => ?stalled,
      fun waits => ?waits, fun fault inactive remains => ?recovers⟩
    case placed =>
      subst active
      rw [unknown] at state
      have moves : own.endState ≠ u.rail.state := by
        rw [state]
        cases w <;> nofun
      obtain ⟨moved, announced⟩ := State.switchAtRest_moves (w := w) (active := true) (s := u) (x := own.endState)
        (by rw [state]; rfl) moves
      rw [State.switchHandled_atRest (.inr (.inr state)), moved]
      exact ⟨rfl, restingAfter_endState own _, by rw [rail]; simp [knownAfterSwitch], by rw [rail], announced⟩
    case released =>
      subst inactive
      rw [atEnd] at state
      have moves : RailState.unknown ≠ u.rail.state := by
        rw [state]
        cases w <;> nofun
      obtain ⟨moved, announced⟩ := State.switchAtRest_moves (w := w) (active := false) (s := u) (x := .unknown)
        (by rw [state]; exact if_pos rfl) moves
      have rest : u.rail.state = .retracted ∨ u.rail.state = .engaged ∨ u.rail.state = .unknown := by
        rw [state]
        cases w
        · exact .inl rfl
        · exact .inr (.inl rfl)
      rw [State.switchHandled_atRest rest, moved]
      refine ⟨rfl, ?_, by rw [rail]; rfl, announced⟩
      rw [state]
      simp [knownAfterSwitch, own]
    case stays =>
      have atRest : u.rail.state = .retracted ∨ u.rail.state = .engaged ∨ u.rail.state = .unknown := by
        rw [state]
        exact rest.imp id .inl
      have same : restAfterSwitch w active u.rail.state = u.rail.state := by
        rw [state]
        cases active with
        | true =>
          rcases rest with retracted | engaged
          · rw [retracted]
            rfl
          · rw [engaged]
            rfl
        | false => exact if_neg (stays.resolve_left nofun)
      have known : knownAfterSwitch w active u.rail.state u.rail.known = (r.known || active) := by
        rw [state, rail]
        cases active with
        | true => rfl
        | false => simp [knownAfterSwitch, show r.state ≠ (switchTarget w).endState from stays.resolve_left nofun]
      rw [State.switchHandled_atRest atRest, State.switchAtRest_stays same, known]
      rw [← fresh]
      exact ⟨rfl, rfl, rfl, rfl, rfl, rfl⟩
    case unplaced =>
      subst inactive
      rw [unknown] at state
      have same : restAfterSwitch w false u.rail.state = u.rail.state := by
        rw [state]
        cases w <;> rfl
      have known : knownAfterSwitch w false u.rail.state u.rail.known = r.known := by
        rw [state, rail]
        cases w <;> simp [knownAfterSwitch, switchTarget, Target.endState]
      rw [State.switchHandled_atRest (.inr (.inr state)), State.switchAtRest_stays same, known]
      exact ⟨state, by rw [rail]; rfl, rfl⟩
    case arrives =>
      subst active
      rw [State.switchHandled_arrives (by rw [state]; exact moves)]
      refine ⟨by cases w <;> rfl, by cases w <;> rfl, rfl, rfl, rfl, rfl, ?_, ?_, fun x run => ?_, State.post_announces _ _⟩
      · show u.rail.known = true
        rw [rail]
        simp
      · cases w
        · rfl
        · exact (show u.rail.count = _ by rw [rail])
      · cases w
        · exact (show u.rail.learned = _ by rw [rail]; rfl)
        · show u.rail.measuredTravel = _
          rw [rail]
          simp only [Rail.measuredTravel, run]
          cases measured : x.measured with
          | true => rfl
          | false => rfl
    case moving =>
      rw [State.switchHandled_moving (by rw [state]; exact moving) (by rw [state]; exact elsewhere), rail]
      exact ⟨rfl, rfl, rfl⟩
    case stalled =>
      rw [State.switchHandled_stalled (by rw [state]; exact stalled), rail]
      exact ⟨stalled, rfl, rfl⟩
    case waits =>
      rw [State.switchHandled_waits (by rw [state]; exact waits)]
      refine ⟨state.trans waits, (show u.rail.target = _ by rw [rail]), (show u.rail.count = _ by rw [rail]), ?_, ?_⟩
      · show knownAfterSwitch w active (u.rail.prior.getD .stalled) u.rail.known = _
        rw [rail]
        exact knownAfterSwitch_prior w active r.prior r.known
      · show u.rail.prior.map (restAfterSwitch w active) = _
        rw [rail]
        exact restAfterSwitch_prior w active r.prior
    case recovers =>
      subst inactive
      rw [fault] at state
      cases w with
      | retractEnd =>
        obtain ⟨left, announced⟩ := State.switchHandled_recovers (w := .retractEnd) (active := false) (v := .engageEnd) state
          (by rw [rail]; rfl) (by rw [rail]; exact remains)
        rw [left, rail]
        refine ⟨rfl, rfl, rfl, ?_, announced⟩
        show (if (r.known || false) = true then count else (r.learned : Int)) = _
        rw [Bool.or_false]
        rfl
      | engageEnd =>
        obtain ⟨left, announced⟩ := State.switchHandled_recovers (w := .engageEnd) (active := false) (v := .retractEnd) state
          (by rw [rail]; exact remains) (by rw [rail]; rfl)
        rw [left, rail]
        exact ⟨rfl, rfl, rfl, rfl, announced⟩
  all_goals simp

end Sys2Proof.Machine
end

section
/-! PROOFS. The waits of a playback, PRACTICE_SET, WAIT_REPORT and the waiting count (R158, R170, R176 to R179). -/

namespace Sys2Proof.Machine

open Sys2Proof

/-! ### Waits -/

section Waits

variable (s : State) (t : Transport)

/-- A wait that is computed runs from the cursor time at the speed that stands, and nothing but carry and wait changes (R158). -/
theorem Transport.computeWait_eq (time : Nat) (now : Time) :
    ∃ carry, t.computeWait time now =
      { t with
        carry := carry
        wait := some
          { target := (t.waitTarget time).1, towardB := (t.waitTarget time).2, fromTime := t.cursorTime, began := now
            length := (((t.waitTarget time).1 - t.cursorTime) * 100 + t.carry) / t.speed, speed := t.speed } } :=
  ⟨_, rfl⟩

/-- The waiting count joins WAIT_TIME (R176, R177). -/
theorem Transport.bankWaiting_eq :
    ∃ time, t.bankWaiting = { t with waitTime := time, waitingCount := none } ∧
      ∀ c, t.waitingCount = some c → time = min (t.waitTime + c) 4294967295 := by
  cases count : t.waitingCount with
  | none =>
    refine ⟨t.waitTime, ?_, nofun⟩
    simp only [Transport.bankWaiting, count]
    rw [← count]
  | some c =>
    refine ⟨min (t.waitTime + c) 4294967295, ?_, ?_⟩
    · simp only [Transport.bankWaiting, count]
      rfl
    · rintro _ ⟨⟩
      rfl

/-- WAITING is left for PLAYING, with the wait for the record at the cursor (R176). -/
theorem State.leaveWaiting_transport :
    ∃ carry w, s.leaveWaiting.transport =
        { s.transport with
          waitingCount := none, state := .playing, carry := carry
          cursorTime := (s.transport.mark.map GatherMark.time).getD s.transport.cursorTime, wait := some w } ∧
      w.fromTime = (s.transport.mark.map GatherMark.time).getD s.transport.cursorTime ∧ w.began = s.now :=
  ⟨_, _, rfl, rfl, rfl⟩

theorem State.leaveWaiting_announces : s.leaveWaiting.announces .transport := State.post_announces _ _

end Waits

/-! ### PRACTICE_SET -/

section Practice

variable {f : Frame} {marks b : Byte} {p : List Byte} {l : List (Option Nat)} {s u : State} {r : Reply}

theorem exec_practiceSet_of_judge (h : s.canTake f (b :: p)) (hj : judgePracticeSet (b :: p) (s.received f) = some (u, r)) :
    exec (.practiceSet f) s = answered f r u :=
  takeRequest_of_judge (kind := .practiceSet) h (Nat.le_add_left 1 p.length) (by decide) hj

theorem exec_waitReport_of_judge (h : s.canTake f (b :: p)) (hj : judgeWaitReport (b :: p) (s.received f) = some (u, r)) :
    exec (.waitReport f) s = answered f r u :=
  takeRequest_of_judge (kind := .waitReport) h (Nat.le_add_left 1 p.length) (by decide) hj

/-- The items a PRACTICE_SET may carry (R178, R203). -/
def practiceGood (marks : Nat) (l : List (Option Nat)) : Prop :=
  marks < 16 ∧ (∀ m, item l 0 = some m → m < 4) ∧ (∀ w, item l 1 = some w → w ≤ 1)

/-- A part mask by its bits (R150, R157). -/
def partsOf (m : Nat) : Parts := { low := decide (m % 2 = 1), high := decide (2 ≤ m) }

theorem codedItem_parts {o : Option Nat} (good : ∀ m, o = some m → m < 4) : codedItem partsOfCode o = some (o.map partsOf) := by
  cases o with
  | none => rfl
  | some m => simp [codedItem, partsOfCode, good m rfl, partsOf]

theorem partsOfCode_isSome {m : Nat} (code : (partsOfCode m).isSome = true) : m < 4 := by
  unfold partsOfCode at code
  split at code
  next small => exact small
  · exact nomatch code

theorem judgePracticeSet_range (items : readItems [1, 1, 1, 1] marks.toNat p = some l) (bad : ¬practiceGood marks.toNat l)
    (s : State) : judgePracticeSet (marks :: p) s = refuse .range s := by
  simp only [judgePracticeSet, optionalItems_of_layout (kind := .practiceSet) rfl items, Option.bind_some, field_byte]
  split
  · rfl
  next few =>
    have marksOk : marks.toNat < 2 ^ 4 := (reservedBits_iff _ _).mp (by simpa using few)
    split
    next parts wait readParts readWait =>
      exact absurd ⟨marksOk, fun m carried => partsOfCode_isSome (codedItem_some readParts m carried),
        fun w carried => (yesNo_isSome w).mp (codedItem_some readWait w carried)⟩ bad
    · rfl

/-- PRACTICE_SET of good items, from the test of the state on (R178). -/
theorem judgePracticeSet_good (items : readItems [1, 1, 1, 1] marks.toNat p = some l) (good : practiceGood marks.toNat l)
    (s : State) :
    judgePracticeSet (marks :: p) s =
      if ((item l 0).isSome || (item l 1).isSome) && !s.transport.state.plays then refuse .state s
      else
        okWith
          (.practice
            (s.practice ((item l 0).map partsOf) ((item l 1).map (fun w => decide (w = 1))) (item l 2)
              (item l 3)).transport.settings)
          (s.practice ((item l 0).map partsOf) ((item l 1).map (fun w => decide (w = 1))) (item l 2) (item l 3)) := by
  obtain ⟨marksOk, partsOk, waitOk⟩ := good
  simp only [judgePracticeSet, optionalItems_of_layout (kind := .practiceSet) rfl items, Option.bind_some, field_byte,
    (reservedBits_iff _ 4).mpr marksOk, codedItem_parts partsOk, codedItem_yesNo waitOk, Bool.false_eq_true, if_false,
    Option.isSome_map]

/-- Wait mode is turned off by the code 0 alone (R178). -/
theorem turnsOff_iff {o : Option Nat} (good : ∀ w, o = some w → w ≤ 1) :
    o.map (fun w => decide (w = 1)) = some false ↔ o = some 0 := by
  cases o with
  | none => simp
  | some w =>
    have small := good w rfl
    simp
    omega

/-- The Transport with the carried settings (R178). -/
def Transport.practiced (l : List (Option Nat)) (t : Transport) : Transport :=
  { t with
    parts := ((item l 0).map partsOf).getD t.parts
    waitMode := ((item l 1).map (fun w => decide (w = 1))).getD t.waitMode
    chordWindow := ((item l 2).map (fun n => min n 100)).getD t.chordWindow
    leadWindow := ((item l 3).map (fun n => min n 200)).getD t.leadWindow }

/-- The carried settings act, and wait mode turned off ends WAITING (R177, R178). -/
theorem State.practice_eq (l : List (Option Nat)) (s : State) :
    s.practice ((item l 0).map partsOf) ((item l 1).map (fun w => decide (w = 1))) (item l 2) (item l 3) =
      if s.transport.state = .waiting ∧ (item l 1).map (fun w => decide (w = 1)) = some false then
        State.endWaitMode { s with transport := s.transport.practiced l }
      else { s with transport := s.transport.practiced l } := by
  have half (hi : Nat) : clamp 0 hi = fun n => min n hi := funext fun n => Nat.zero_max _
  simp only [State.practice, half, Bool.and_eq_true, decide_eq_true_eq]
  rfl

end Practice

section Judged

variable {b : Byte} (p : List Byte) (s : State)

theorem judgeWaitReport_reports {clears : Bool} (code : yesNo b.toNat = some clears) :
    judgeWaitReport (b :: p) s =
      okWith (.waitReport s.transport.waitReport)
        (if clears then
          { s with transport :=
            { s.transport with hits := 0, misses := 0, chords := 0, expectOverflow := 0, waitTime := 0 } }
        else s) := by
  simp only [judgeWaitReport, field_byte, code]
  rfl

theorem judgeWaitReport_range (code : yesNo b.toNat = none) : judgeWaitReport (b :: p) s = refuse .range s := by
  simp only [judgeWaitReport, field_byte, code]

/-- Wait mode turned off in WAITING (R177). -/
theorem State.endWaitMode_transport :
    ∃ carry w time, s.endWaitMode.transport =
        { s.transport with
          waitTime := time, expected := [], waitingCount := none, state := .playing, carry := carry
          cursorTime := (s.transport.mark.map GatherMark.time).getD s.transport.cursorTime, wait := some w } ∧
      w.fromTime = (s.transport.mark.map GatherMark.time).getD s.transport.cursorTime ∧ w.began = s.now ∧
      (∀ c, s.transport.waitingCount = some c → time = min (s.transport.waitTime + c) 4294967295) := by
  obtain ⟨time, banked, total⟩ := s.transport.bankWaiting_eq
  obtain ⟨carry, w, left, begins, began⟩ :=
    State.leaveWaiting_transport { s with transport := { s.transport with waitTime := time, waitingCount := none, expected := [] } }
  refine ⟨carry, w, time, ?_, begins, began, total⟩
  simp only [State.endWaitMode, State.modTransport, banked]
  exact left

end Judged

/-- Settles O54: the items of PRACTICE_SET with WAITING kept or ended, the report with or without the clear, and the waiting count. -/
theorem practiceSettingsAndScore : Obligations.PracticeSettingsAndScore := by
  refine ⟨fun f marks p l s h items => ?practice, fun f b rest s h => ?report, fun now s on => ?count⟩
  case practice =>
    intro t plays good turnedAway ends after settings
    have transport : (s.received f).transport = t := State.received_transport f s
    have practiced : t.practiced l = after := rfl
    refine ⟨fun bad => exec_practiceSet_of_judge h (judgePracticeSet_range items bad _), fun sound away => ?away,
      fun sound stays goesOn => ?goesOn, fun sound off => ?ends⟩
    case away =>
      refine exec_practiceSet_of_judge h ((judgePracticeSet_good items sound _).trans (if_pos ?_))
      rw [transport]
      simpa [turnedAway, plays, and_comm] using away
    case goesOn =>
      have judged := (judgePracticeSet_good items sound (s.received f)).trans
        (if_neg (by rw [transport]; simpa [turnedAway, plays, and_comm] using stays))
      rw [State.practice_eq, if_neg (by rw [transport, turnsOff_iff sound.2.2]; exact goesOn), transport] at judged
      exact exec_practiceSet_of_judge h judged
    case ends =>
      have playing : plays = true := by
        simp only [plays, off.1]
        rfl
      have judged := (judgePracticeSet_good items sound (s.received f)).trans
        (if_neg (by rw [transport]; simp [show t.state.plays = true from playing]))
      rw [State.practice_eq, if_pos (by rw [transport, turnsOff_iff sound.2.2]; exact off), transport] at judged
      have answers := exec_practiceSet_of_judge h judged
      obtain ⟨carry, w, time, left, begins, began, total⟩ :=
        State.endWaitMode_transport { s.received f with transport := after }
      have standing : (State.endWaitMode { s.received f with transport := after }).transport.settings = settings := by
        rw [left]
        simp only [settings, playing]
        rfl
      have turned : after.waitMode = false := by
        simp only [after, off.2]
        rfl
      simp only [practiced] at answers
      rw [standing] at answers
      refine ⟨_, answers, ?_⟩
      rw [left]
      refine ⟨rfl, rfl, rfl, rfl, rfl, rfl, turned, total, ⟨w, rfl, began.trans (State.received_now f s), fun m mark => ?_⟩,
        State.leaveWaiting_announces _, ?_, ?_, ?_⟩
      · rw [begins]
        simp only [after, mark]
        rfl
      all_goals simp
  case report =>
    have reports {clears : Bool} (code : yesNo b.toNat = some clears) :
        exec (.waitReport f) s = okFor f (.waitReport s.transport.waitReport)
          (if clears then
            { s.received f with transport :=
              { s.transport with hits := 0, misses := 0, chords := 0, expectOverflow := 0, waitTime := 0 } }
          else s.received f) := by
      have answers := exec_waitReport_of_judge h (judgeWaitReport_reports rest (s.received f) code)
      rwa [State.received_transport] at answers
    have code := yesNo_byte b
    split_ifs at code ⊢
    · exact reports code
    · exact reports code
    · exact exec_waitReport_of_judge h (judgeWaitReport_range rest (s.received f) code)
  case count =>
    refine (exec_event on now).trans ?_
    by_cases waiting : s.transport.state = .waiting
    · rw [if_pos waiting]
      exact congrArg _ (if_pos waiting)
    · rw [if_neg waiting]
      exact congrArg _ (if_neg waiting)

end Sys2Proof.Machine
end

section
/-! SUPPORT. What a playback that pauses, stops or jumps leaves of its notes and pedals (R51, R61, R161, R163, R167). -/

namespace Sys2Proof.Machine

open Sys2Proof

/-! ### Keys fall silent -/

/-- No key changes its owner but to none. -/
def State.quietens (s t : State) : Prop := ∀ k, (t.sound k).owner = (s.sound k).owner ∨ (t.sound k).owner = none

/-- No key sounds for the playback. -/
def State.unplayed (s : State) : Prop := ∀ k, (s.sound k).owner ≠ some .playback

section Quietens

variable {s t u : State}

theorem State.quietens.of_same (same : s.sameSounding t) : s.quietens t := fun k => .inl (same.2 k).1

theorem State.quietens.trans (h : s.quietens t) (g : t.quietens u) : s.quietens u := fun k =>
  (g k).elim (fun same => (h k).imp same.trans same.trans) .inr

theorem State.quietens.unplayed (h : s.quietens t) (none : s.unplayed) : t.unplayed := fun k played =>
  (h k).elim (fun same => none k (same ▸ played)) (fun silent => nomatch silent.symm.trans played)

theorem State.unplayed_congr (same : t.router = s.router) (h : s.unplayed) : t.unplayed := fun k =>
  (State.sameSounding_of_router same).2 k |>.1 ▸ h k

theorem State.recomputeLevel_quietens (p : LevelId) (m : Time) (s : State) : s.quietens (s.recomputeLevel p m) := by
  simp only [State.recomputeLevel]
  split
  · exact fun _ => .inl rfl
  · exact (State.quietens.of_same (State.sameSounding_of_router rfl)).trans (.of_same (State.sameSounding_offerTone _ _))

theorem State.recomputeSwitch_quietens (m : Time) (s : State) : s.quietens (s.recomputeSwitch m) := by
  by_cases same : s.pedals.sostenuto.on = s.pedals.sostenuto.effective
  · rw [State.recomputeSwitch_same m s same]
    exact fun _ => .inl rfl
  · cases on : s.pedals.sostenuto.on with
    | true =>
      rw [State.recomputeSwitch_edge m s same, if_pos on]
      exact fun _ => .inl rfl
    | false =>
      obtain ⟨_, owners⟩ := State.recomputeSwitch_off m s on
        (by cases effective : s.pedals.sostenuto.effective; exacts [absurd (on.trans effective.symm) same, rfl])
      intro k
      rw [owners k]
      split
      · exact .inr rfl
      · exact .inl rfl

theorem State.playbackClear_quietens (s : State) : s.quietens s.playbackClear := by
  simp only [State.playbackClear]
  generalize fresh : State.modSwitch _ _ = u
  have zeroed : s.quietens u := fresh ▸ .of_same (State.sameSounding_of_router rfl)
  exact ((zeroed.trans (State.recomputeLevel_quietens .damper _ u)).trans (State.recomputeLevel_quietens .soft _ _)).trans
    (State.recomputeSwitch_quietens _ _)

/-- The playback's keys are forced off (R61). -/
theorem State.forceOffAll_unplayed (cause : Cause) (m : Time) (s : State) : (s.forceOffAll cause (some .playback) m).unplayed := by
  intro k played
  have owners := State.forceOff_run_owners (cause := cause) (required := some .playback) (time := m) keyNumbers s k
  rw [← State.forceOffAll, played] at owners
  by_cases met : k ∈ keyNumbers ∧ ((some Source.playback) = none ∨ some .playback = (s.sound k).owner)
  · exact nomatch owners.trans (if_pos met)
  · have sounding := owners.trans (if_neg met)
    refine met ⟨?_, .inr sounding⟩
    have sounds : k ∈ s.soundingKeys := (State.mem_soundingKeys k s).mpr (by rw [← sounding]; rfl)
    exact List.mem_of_mem_filter sounds

end Quietens

/-! ### The playback values of the pedals -/

/-- The playback values are cleared (R51). -/
def State.cleared (s : State) : Prop :=
  s.pedals.damper.playback = 0 ∧ s.pedals.soft.playback = 0 ∧ s.pedals.sostenuto.playback = false

theorem State.playbackClear_cleared (s : State) : s.playbackClear.cleared := by
  simp only [State.cleared, State.playbackClear, State.recomputeSwitch_pedals, State.recomputeLevel_pedals]
  exact ⟨rfl, rfl, rfl⟩

/-! ### A playback halts -/

section Halts

variable (s : State)

/-- The playback's keys forced off and its pedals cleared (R161, R163, R167). -/
def State.hushed (cause : Cause) (s : State) : State := (s.forceOffAll cause (some .playback) s.now).playbackClear

theorem State.hushed_unplayed (cause : Cause) : (s.hushed cause).unplayed :=
  (State.playbackClear_quietens _).unplayed (State.forceOffAll_unplayed cause s.now s)

theorem State.hushed_cleared (cause : Cause) : (s.hushed cause).cleared := State.playbackClear_cleared _

/-- What hushing leaves: all but the Note Router, the pedals, the Tone Queue, the boards and the Panel Stream. -/
theorem State.hushed_frame (cause : Cause) :
    (s.hushed cause).now = s.now ∧ (s.hushed cause).system = s.system ∧ (s.hushed cause).scanner = s.scanner ∧
      (s.hushed cause).strokes = s.strokes ∧ (s.hushed cause).rail = s.rail ∧ (s.hushed cause).audio = s.audio ∧
      (s.hushed cause).store = s.store ∧ (s.hushed cause).transport = s.transport := by
  simp [State.hushed]

end Halts

/-! ### The pedals restated -/

theorem State.playbackPedal_quietens (p : PedalId) (level : Nat) (s : State) : s.quietens (s.playbackPedal p level) := by
  cases p with
  | damper =>
    exact (State.quietens.of_same (State.sameSounding_of_router rfl)).trans (State.recomputeLevel_quietens .damper _ _)
  | soft => exact (State.quietens.of_same (State.sameSounding_of_router rfl)).trans (State.recomputeLevel_quietens .soft _ _)
  | sostenuto => exact (State.quietens.of_same (State.sameSounding_of_router rfl)).trans (State.recomputeSwitch_quietens _ _)

theorem State.restatePedals_quietens (s : State) : s.quietens s.restatePedals := by
  simp only [State.restatePedals]
  generalize s.transport.levels = levels
  generalize pedalOrder = order
  induction order generalizing s with
  | nil => exact fun _ => .inl rfl
  | cons p rest ih =>
    rw [List.foldl_cons]
    refine State.quietens.trans ?_ (ih _)
    split
    · exact fun _ => .inl rfl
    · exact State.playbackPedal_quietens p _ s

end Sys2Proof.Machine
end

section
/-! PROOFS. LOOP_SET, LOOP_CLEAR, TRANSPORT_REPORT and the loop jump (R151, R165 to R168). -/

namespace Sys2Proof.Machine

open Sys2Proof

/-! ### Requests -/

section Requests

variable {f : Frame} {p : List Byte} {s u : State} {r : Reply}

theorem exec_loopSet_of_judge (h : s.canTake f p) (long : 9 ≤ p.length) (hj : judgeLoopSet p (s.received f) = some (u, r)) :
    exec (.loopSet f) s = answered f r u :=
  takeRequest_of_judge (kind := .loopSet) h long (by decide) hj

theorem exec_loopClear_of_judge (h : s.canTake f p) (hj : judgeLoopClear (s.received f) = some (u, r)) :
    exec (.loopClear f) s = answered f r u :=
  takeRequest_of_judge (kind := .loopClear) h (Nat.zero_le p.length) (by decide) hj

theorem exec_transportReport_of_judge (h : s.canTake f p) (hj : judgeTransportReport (s.received f) = some (u, r)) :
    exec (.transportReport f) s = answered f r u :=
  takeRequest_of_judge (kind := .transportReport) h (Nat.zero_le p.length) (by decide) hj

theorem State.received_takeTimes (f : Frame) (s : State) : (s.received f).takeTimes = s.takeTimes := by
  simp [State.takeTimes, State.takeRecords]

theorem State.received_takeDuration (f : Frame) (s : State) : (s.received f).takeDuration = s.takeDuration := by
  simp [State.takeDuration]

end Requests

/-! ### The wait recomputed -/

section Recomputed

variable (s : State) (t : Transport)

/-- The anchor test sets the anchor or nothing (R166). -/
theorem Transport.anchorTest_eq (times : List Nat) : ∃ anchor, t.anchorTest times = { t with anchor := anchor } := by
  simp only [Transport.anchorTest]
  split
  · split
    · exact ⟨_, rfl⟩
    · exact ⟨t.anchor, rfl⟩
  · exact ⟨t.anchor, rfl⟩

/-- The wait for the record at the cursor (R158). -/
theorem State.computeWait_transport :
    ∃ carry w, s.computeWait.transport = { s.transport with carry := carry, wait := some w } ∧
      w.fromTime = s.transport.cursorTime ∧ w.began = s.now ∧ w.speed = s.transport.speed ∧
      w.length = ((w.target - s.transport.cursorTime) * 100 + s.transport.carry) / s.transport.speed ∧
      (w.towardB = false → w.target = s.takeTimes.getD s.transport.cursor s.transport.cursorTime) := by
  refine ⟨_, _, rfl, rfl, rfl, rfl, rfl, fun record => ?_⟩
  simp only [Transport.waitTarget] at record ⊢
  split
  next loop =>
    rw [loop] at record
    dsimp only at record
    split
    next goes =>
      rw [if_pos goes] at record
      exact nomatch record
    · rfl
  · rfl

/-- A recomputed wait runs from the take position, toward what the loop makes of the next record's time (R165). -/
theorem State.recomputeWait_eq {time : Nat} {g : Nat × Bool}
    (next : s.takeTimes.getD s.transport.cursor (s.transport.position s.now) = time)
    (goal : ({ s.transport with cursorTime := s.transport.position s.now, carry := 0 } : Transport).waitTarget time = g) :
    ∃ carry, s.recomputeWait =
      { s with transport :=
        { s.transport with
          cursorTime := s.transport.position s.now, carry := carry
          wait := some
            { target := g.1, towardB := g.2, fromTime := s.transport.position s.now, began := s.now
              length := (g.1 - s.transport.position s.now) * 100 / s.transport.speed, speed := s.transport.speed } } } := by
  subst next goal
  exact ⟨_, rfl⟩

end Recomputed

/-! ### LOOP_SET -/

section Set

variable (a b repeats : Nat) (s : State)

/-- The loop of a LOOP_SET stands, with the anchor its test leaves, before a wait is recomputed (R165, R166). -/
def State.looped (a b repeats : Nat) (anchor : Option Anchor) (s : State) : State :=
  { s with transport :=
    { s.transport with loop := some { a := a, b := b, repeats := repeats, left := repeats }, anchor := anchor } }

theorem State.setLoop_eq :
    ∃ anchor, s.setLoop a b repeats =
      if s.transport.loopRecomputes s.now b = true then (s.looped a b repeats anchor).recomputeWait
      else s.looped a b repeats anchor := by
  obtain ⟨anchor, tested⟩ := Transport.anchorTest_eq
    { s.transport with loop := some { a := a, b := b, repeats := repeats, left := repeats }, anchor := none } s.takeTimes
  have looped : State.anchorTest (s.modTransport (fun t =>
      { t with loop := some { a := a, b := b, repeats := repeats, left := repeats }, anchor := none })) =
      s.looped a b repeats anchor :=
    congrArg (fun t => ({ s with transport := t } : State)) tested
  exact ⟨anchor, by rw [State.setLoop, looped]⟩

/-- What LOOP_SET leaves of the Transport beside the loop, its anchor and the wait (R165). -/
theorem State.setLoop_kept :
    (s.setLoop a b repeats).transport.loop = some { a := a, b := b, repeats := repeats, left := repeats } ∧
      (s.setLoop a b repeats).transport.state = s.transport.state ∧
      (s.setLoop a b repeats).transport.cursor = s.transport.cursor ∧
      (s.setLoop a b repeats).transport.delivered = s.transport.delivered ∧
      s.setLoop a b repeats = { s with transport := (s.setLoop a b repeats).transport } := by
  obtain ⟨anchor, set⟩ := s.setLoop_eq a b repeats
  rw [set]
  split
  · exact ⟨rfl, rfl, rfl, rfl, rfl⟩
  · exact ⟨rfl, rfl, rfl, rfl, rfl⟩

/-- Outside PLAYING no wait is recomputed (R165). -/
theorem State.setLoop_still (still : s.transport.state ≠ .playing) :
    (s.setLoop a b repeats).transport.cursorTime = s.transport.cursorTime ∧
      (s.setLoop a b repeats).transport.wait = s.transport.wait := by
  obtain ⟨anchor, set⟩ := s.setLoop_eq a b repeats
  have none : s.transport.loopRecomputes s.now b = false := by
    simp only [Transport.loopRecomputes]
    split
    next playing _ => exact absurd playing still
    · rfl
  rw [set, none]
  exact ⟨rfl, rfl⟩

/-- A wait that passes the new B is recomputed from the take position toward B (R158, R165). -/
theorem State.setLoop_toward {w : Wait} {time : Nat} (playing : s.transport.state = .playing) (wait : s.transport.wait = some w)
    (before : s.transport.position s.now < b) (reaches : b ≤ w.target) (record : s.takeTimes[s.transport.cursor]? = some time)
    (target : w.target ≤ time) :
    (s.setLoop a b repeats).transport.cursorTime = s.transport.position s.now ∧
      (s.setLoop a b repeats).transport.wait.map Wait.target = some b ∧
      (s.setLoop a b repeats).transport.wait.map Wait.towardB = some true := by
  obtain ⟨anchor, set⟩ := s.setLoop_eq a b repeats
  have again : s.transport.loopRecomputes s.now b = true := by
    simp [Transport.loopRecomputes, playing, wait, before, reaches]
  rw [set, if_pos again]
  have armed : ({ a := a, b := b, repeats := repeats, left := repeats } : Loop).armed = true := by
    simp only [Loop.armed, Bool.or_eq_true, decide_eq_true_eq]
    omega
  have next : s.takeTimes.getD s.transport.cursor (s.transport.position s.now) = time := by
    rw [List.getD_eq_getElem?_getD, record]
    rfl
  obtain ⟨carry, recomputed⟩ := State.recomputeWait_eq (s.looped a b repeats anchor) (g := (b, true)) next
    (if_pos ⟨armed, before, reaches.trans target⟩)
  rw [recomputed]
  exact ⟨rfl, rfl, rfl⟩

end Set

/-! ### LOOP_CLEAR -/

section Clear

variable (s : State)

theorem State.clearLoop_kept :
    s.clearLoop.transport.loop = none ∧ s.clearLoop.transport.anchor = none ∧
      s.clearLoop.transport.state = s.transport.state ∧ s.clearLoop.transport.cursor = s.transport.cursor ∧
      s.clearLoop = { s with transport := s.clearLoop.transport } := by
  simp only [State.clearLoop]
  split
  · exact ⟨rfl, rfl, rfl, rfl, rfl⟩
  · exact ⟨rfl, rfl, rfl, rfl, rfl⟩

/-- A wait toward a record stays (R165). -/
theorem State.clearLoop_stays {w : Wait} (wait : s.transport.wait = some w)
    (still : w.towardB = false ∨ s.transport.state ≠ .playing) :
    s.clearLoop.transport.wait = some w ∧ s.clearLoop.transport.cursorTime = s.transport.cursorTime := by
  have stays : ¬(s.transport.wait.any Wait.towardB && decide (s.transport.state = .playing)) = true := by
    rcases still with record | state
    · simp [wait, record]
    · simp [state]
  simp only [State.clearLoop, if_neg stays]
  exact ⟨wait, rfl⟩

/-- A wait toward B is recomputed toward the record at the cursor (R165). -/
theorem State.clearLoop_recomputes {w : Wait} (playing : s.transport.state = .playing) (wait : s.transport.wait = some w)
    (toward : w.towardB = true) :
    s.clearLoop.transport.cursorTime = s.transport.position s.now ∧
      s.clearLoop.transport.wait =
        some
          { target := s.takeTimes.getD s.transport.cursor (s.transport.position s.now), towardB := false
            fromTime := s.transport.position s.now, began := s.now
            length := (s.takeTimes.getD s.transport.cursor (s.transport.position s.now) - s.transport.position s.now) * 100 /
              s.transport.speed
            speed := s.transport.speed } := by
  have again : (s.transport.wait.any Wait.towardB && decide (s.transport.state = .playing)) = true := by
    simp [playing, wait, toward]
  obtain ⟨carry, recomputed⟩ := State.recomputeWait_eq
    ({ s with transport := { s.transport with loop := none, anchor := none } } : State)
    (g := (s.takeTimes.getD s.transport.cursor (s.transport.position s.now), false)) rfl rfl
  simp only [State.clearLoop, if_pos again, State.modTransport]
  rw [recomputed]
  exact ⟨rfl, rfl⟩

end Clear

/-! ### The loop jump -/

section Jump

variable (l : Loop) (s : State)

/-- A pass of the loop ends: the playback hushed, and the repeats left counted (R167). -/
theorem State.endPass_eq :
    s.endPass l =
      { s.hushed .loopJump with
        transport :=
          { s.transport with
            delivered := [], expected := [], mark := none, wait := none
            cursorTime := (s.transport.wait.map Wait.target).getD s.transport.cursorTime
            loop := some { l with left := if l.repeats = 0 then l.left else l.left - 1 } } } := by
  obtain ⟨_, _, _, _, _, _, _, transport⟩ := s.hushed_frame .loopJump
  rw [State.endPass, ← State.hushed, State.modTransport, transport]

theorem State.endPass_transport :
    (s.endPass l).transport =
      { s.transport with
        delivered := [], expected := [], mark := none, wait := none
        cursorTime := (s.transport.wait.map Wait.target).getD s.transport.cursorTime
        loop := some { l with left := if l.repeats = 0 then l.left else l.left - 1 } } := by
  rw [State.endPass_eq]

theorem State.endPass_unplayed : (s.endPass l).unplayed :=
  State.unplayed_congr (s := s.hushed .loopJump) (by rw [State.endPass_eq]) (s.hushed_unplayed .loopJump)

/-- The cursor, the time and the levels of the anchor (R167). -/
def State.anchored (l : Loop) (a : Anchor) (s : State) : State :=
  { s with transport := { s.transport with cursor := a.record, cursorTime := l.a, levels := a.levels, carry := 0 } }

/-- Back to the anchor, from A (R167). -/
theorem State.returnToAnchor_eq (a : Anchor) :
    ∃ carry w, (s.returnToAnchor l a).transport =
        { s.transport with cursor := a.record, cursorTime := l.a, levels := a.levels, carry := carry, wait := some w } ∧
      w.began = s.now := by
  obtain ⟨carry, w, computed, _, began, _⟩ := (s.anchored l a).restatePedals.computeWait_transport
  have transport : (s.anchored l a).restatePedals.transport = (s.anchored l a).transport := by simp
  have now : (s.anchored l a).restatePedals.now = s.now := by simp [State.anchored]
  rw [transport] at computed
  exact ⟨carry, w, computed, began.trans now⟩

theorem State.returnToAnchor_quietens (a : Anchor) : s.quietens (s.returnToAnchor l a) := by
  refine State.quietens.trans (t := (s.modTransport (fun t =>
    { t with cursor := a.record, cursorTime := l.a, levels := a.levels, carry := 0 })).restatePedals) ?_ (fun _ => .inl rfl)
  exact State.quietens.trans (fun _ => .inl rfl) (State.restatePedals_quietens _)

/-- A seek begins (R164). -/
theorem State.startSeek_transport (target : Nat) (pending : Bool) :
    (s.startSeek target pending).transport =
      { s.transport with
        state := .seeking, wait := none, carry := 0, mark := none
        seek := some { target := target, pausePending := pending, began := s.now } } := by
  simp only [State.startSeek]
  split
  · rfl
  · rfl

theorem State.loopJump_anchored {a : Anchor} (anchor : (s.endPass l).transport.anchor = some a) :
    s.loopJump l = ((s.endPass l).returnToAnchor l a).post .transport := by
  unfold State.loopJump
  generalize s.endPass l = e at anchor
  rw [anchor]

theorem State.loopJump_unanchored (none : (s.endPass l).transport.anchor = none) :
    s.loopJump l = ((s.endPass l).startSeek l.a false).post .transport := by
  unfold State.loopJump
  generalize s.endPass l = e at none
  rw [none]

/-- A wait toward B that has expired makes the jump (R158, R167). -/
theorem State.onLoopJump_due {w : Wait} {s : State} (playing : s.transport.state = .playing) (wait : s.transport.wait = some w)
    (toward : w.towardB = true) (late : reached s.now (w.began.after (w.length * 1000)) = true)
    (loop : s.transport.loop = some l) : s.onLoopJump = s.loopJump l := by
  have over_ : w.over s.now = true := late
  simp only [State.onLoopJump, playing, wait, loop, over_, toward, Bool.and_self, if_true]

end Jump

/-- Settles O53: LOOP_SET with its refusals and the wait toward B, LOOP_CLEAR, the report, and the jump to the anchor or by a seek. -/
theorem loopsRunBetweenTheMarks : Obligations.LoopsRunBetweenTheMarks := by
  refine ⟨fun f a3 a2 a1 a0 b3 b2 b1 b0 repeats rest s h => ?set, fun f p s h => ?requests,
    fun now w l s on playing wait toward late loop => ?jump⟩
  case set =>
    intro a b plays
    have judged : judgeLoopSet (a3 :: a2 :: a1 :: a0 :: b3 :: b2 :: b1 :: b0 :: repeats :: rest) (s.received f) =
        if !loopOk a b repeats.toNat ∨ (s.transport.state ≠ .idle ∧ s.takeDuration < b) then refuse .range (s.received f)
        else if s.transport.state.plays then okWith .none ((s.received f).setLoop a b repeats.toNat)
        else refuse .state (s.received f) := by
      simp only [judgeLoopSet, field_cons, field_four, field_byte, State.received_transport, State.received_takeDuration]
      rfl
    have loops : loopOk a b repeats.toNat = true ↔ a + 500 ≤ b ∧ repeats.toNat ≤ 99 := by
      simp only [loopOk, Bool.and_eq_true, decide_eq_true_eq]
      omega
    have answers {u : State} {status : Status}
        (outcome : judgeLoopSet (a3 :: a2 :: a1 :: a0 :: b3 :: b2 :: b1 :: b0 :: repeats :: rest) (s.received f) =
          answer status .none u) : exec (.loopSet f) s = answered f { status := status, data := .none } u :=
      exec_loopSet_of_judge h (Nat.le_add_left 9 rest.length) outcome
    refine ⟨fun bad => ?_, fun apart few busy long => ?_, fun apart few still fits => ?_, fun apart few playing fits => ?_⟩
    · refine answers (judged.trans (if_pos (.inl ?_)))
      simp only [Bool.not_eq_true', ← Bool.not_eq_true, loops]
      omega
    · exact answers (judged.trans (if_pos (.inr ⟨busy, long⟩)))
    · refine answers (judged.trans ((if_neg ?_).trans (if_neg still)))
      simp only [loops.mpr ⟨apart, few⟩, Bool.not_true, Bool.false_eq_true, false_or, not_and, Nat.not_lt]
      exact fun busy => fits.resolve_left busy
    · have set : judgeLoopSet (a3 :: a2 :: a1 :: a0 :: b3 :: b2 :: b1 :: b0 :: repeats :: rest) (s.received f) =
          okWith .none ((s.received f).setLoop a b repeats.toNat) := by
        refine judged.trans ((if_neg ?_).trans (if_pos playing))
        simp only [loops.mpr ⟨apart, few⟩, Bool.not_true, Bool.false_eq_true, false_or, not_and, Nat.not_lt]
        exact fun _ => fits
      have transport := State.received_transport f s
      have now := State.received_now f s
      obtain ⟨loop, state, cursor, delivered, frame⟩ := (s.received f).setLoop_kept a b repeats.toNat
      have still := (s.received f).setLoop_still a b repeats.toNat
      rw [transport] at state cursor delivered still
      refine ⟨_, answers set, loop, state, cursor, delivered, fun w time isPlaying wait before reaches record target => ?_, still,
        frame⟩
      have toward := (s.received f).setLoop_toward (w := w) (time := time) a b repeats.toNat
      rw [transport, now, State.received_takeTimes] at toward
      exact toward isPlaying wait before reaches record target
  case requests =>
    have transport := State.received_transport f s
    have judged {u : State} (outcome : (if s.transport.state.plays then (s.received f).clearLoop else s.received f) = u) :
        exec (.loopClear f) s = okFor f .none u := by
      refine exec_loopClear_of_judge h ?_
      rw [judgeLoopClear, transport, outcome]
      rfl
    refine ⟨exec_transportReport_of_judge h rfl, fun still => judged (if_neg (by simp [still])), fun playing => ?_⟩
    obtain ⟨loop, anchor, state, cursor, frame⟩ := (s.received f).clearLoop_kept
    rw [transport] at state cursor
    refine ⟨_, judged (if_pos playing), loop, anchor, state, cursor, fun w wait still => ?_, fun w isPlaying wait toward => ?_,
      frame⟩
    · have stays := (s.received f).clearLoop_stays (w := w)
      rw [transport] at stays
      exact stays wait still
    · have recomputed := (s.received f).clearLoop_recomputes (w := w)
      rw [transport, State.received_takeTimes, State.received_now] at recomputed
      exact recomputed isPlaying wait toward
  case jump =>
    intro left
    have event : exec (.loopJump now) s = .next (State.loopJump l { s with now := now }) :=
      (exec_event on now).trans (congrArg _ (State.onLoopJump_due l (s := { s with now := now }) playing wait toward late loop))
    have passed := State.endPass_transport l { s with now := now }
    have quiet := State.endPass_unplayed l { s with now := now }
    have anchorOf : (State.endPass l { s with now := now }).transport.anchor = s.transport.anchor := by rw [passed]
    have frame : (State.endPass l { s with now := now }).now = now ∧ (State.endPass l { s with now := now }).store = s.store ∧
        (State.endPass l { s with now := now }).rail = s.rail ∧ (State.endPass l { s with now := now }).scanner = s.scanner := by
      simp
    cases anchor : s.transport.anchor with
    | some a =>
      rw [State.loopJump_anchored l _ (anchorOf.trans anchor)] at event
      generalize State.endPass l { s with now := now } = e at event passed quiet frame
      obtain ⟨nowOf, store, rail, scanner⟩ := frame
      obtain ⟨carry, next, returned, began⟩ := State.returnToAnchor_eq l e a
      have transport : ((e.returnToAnchor l a).post .transport).transport = (e.returnToAnchor l a).transport := rfl
      rw [passed] at returned
      refine ⟨_, event, ?_, ?_, State.post_announces _ _, ?_, ?_, ?_,
        State.unplayed_congr rfl ((State.returnToAnchor_quietens l e a).unplayed quiet), ?_, nofun⟩
      · rw [transport, returned]
      · rw [transport, returned]
      · simpa using store
      · simpa using rail
      · simpa using scanner
      · rintro _ ⟨⟩
        rw [transport, returned]
        exact ⟨playing, rfl, rfl, rfl, next, rfl, began.trans nowOf⟩
    | none =>
      rw [State.loopJump_unanchored l _ (anchorOf.trans anchor)] at event
      generalize State.endPass l { s with now := now } = e at event passed quiet frame
      obtain ⟨nowOf, store, rail, scanner⟩ := frame
      have sought := e.startSeek_transport l.a false
      have transport : ((e.startSeek l.a false).post .transport).transport = (e.startSeek l.a false).transport := rfl
      rw [passed, nowOf] at sought
      refine ⟨_, event, ?_, ?_, State.post_announces _ _, ?_, ?_, ?_, State.unplayed_congr ?_ quiet, nofun, fun _ => ?_⟩
      · rw [transport, sought]
      · rw [transport, sought]
      · simpa using store
      · simpa using rail
      · simpa using scanner
      · simp
      · rw [transport, sought]
        refine ⟨rfl, rfl, ?_, rfl⟩
        simp only [wait]
        rfl

end Sys2Proof.Machine
end

section
/-! PROOFS. TAKE_PLAY (R157). -/

namespace Sys2Proof.Machine

open Sys2Proof

/-! ### The clicks and the speed of a playback -/

section Clicks

variable (s : State)

/-- Entering a mode leaves the click starts that stand, the playback speed and METRO_RUN (R123). -/
theorem State.enterMode_kept (m : ClockMode) :
    (s.enterMode m).audio.playSpeed = s.audio.playSpeed ∧ (s.enterMode m).audio.playClick = s.audio.playClick ∧
      (s.enterMode m).audio.recordClick = s.audio.recordClick := by
  cases m with
  | stopped => exact ⟨rfl, rfl, rfl⟩
  | following => exact ⟨rfl, rfl, rfl⟩
  | free => simp [State.enterMode, State.modAudio, State.beat_audio]
  | recording => simp [State.enterMode, State.modAudio, State.beat_audio]

theorem State.judgeMode_kept :
    s.judgeMode.audio.playSpeed = s.audio.playSpeed ∧ s.judgeMode.audio.playClick = s.audio.playClick ∧
      s.judgeMode.audio.recordClick = s.audio.recordClick := by
  simp only [State.judgeMode]
  split
  · exact ⟨rfl, rfl, rfl⟩
  · exact s.enterMode_kept _

theorem State.setPlaySpeed_audio (p : Option Nat) :
    (s.setPlaySpeed p).audio.playSpeed = p ∧ (s.setPlaySpeed p).audio.playClick = s.audio.playClick := by
  obtain ⟨speed, play, _⟩ := (s.modAudio (fun a => { a with playSpeed := p })).judgeMode_kept
  exact ⟨speed, play⟩

theorem State.playClickStart_audio :
    s.playClickStart.audio.playSpeed = s.audio.playSpeed ∧ s.playClickStart.audio.playClick = true := by
  obtain ⟨speed, play, _⟩ := (s.modAudio (fun a => { a with playClick := true })).judgeMode_kept
  exact ⟨speed, play⟩

end Clicks

/-! ### The records of a take -/

section Records

variable {st st' : Store}

theorem Store.chainFrom_congr (map : st'.blockMap = st.blockMap) (fuel b : Nat) :
    st'.chainFrom fuel b = st.chainFrom fuel b := by
  have entry (b : Nat) : st'.blockEntry b = st.blockEntry b := by rw [Store.blockEntry, map, Store.blockEntry]
  induction fuel generalizing b with
  | zero => rfl
  | succ fuel ih => simp only [Store.chainFrom, entry, ih]

/-- A take's records are read from its chain and the memory, by its first block and its count (R130, R143). -/
theorem Store.records_congr {t t' : Take} (map : st'.blockMap = st.blockMap) (memory : st'.memory = st.memory)
    (first : t'.first = t.first) (count : t'.count = t.count) : st'.records t' = st.records t := by
  have slot : st'.slotRecord = st.slotRecord := funext fun block => funext fun slot => by
    rw [Store.slotRecord, memory, Store.slotRecord]
  simp only [Store.records, Store.chain, Store.chainFrom_congr map, slot, first, count]

/-- Marks on a directory entry leave the take's records. -/
theorem Store.recordsOf_setEntry {n : Nat} {t t' : Take} (numbered : 1 ≤ n ∧ n ≤ 16) (entry : st.entry n = some t)
    (first : t'.first = t.first) (count : t'.count = t.count) : (st.setEntry n (some t')).recordsOf n = st.recordsOf n := by
  simp only [Store.recordsOf, Store.entry_setEntry, numbered, and_self, if_true, entry]
  exact Store.records_congr rfl rfl first count

end Records

/-! ### Acceptance -/

section Accepted

variable (n speed : Nat) (parts : Parts) (wait click : Bool) (s : State)

/-- A playback loaded: the Transport's record of it, the mark on its entry, its speed and its click start (R123, R157). -/
def State.loaded (n speed : Nat) (parts : Parts) (wait click : Bool) (s : State) : State :=
  let u := State.setPlaySpeed (some speed)
    { s with transport := s.transport.play n speed parts wait click, store := s.store.setPlaying n true }
  if click then u.playClickStart else u

/-- A loaded playback is played from record 0, or sought (R157). -/
theorem State.beginPlayback_eq (start : Nat) :
    s.beginPlayback n start speed parts wait click =
      if start = 0 then
        ((s.loaded n speed parts wait click).modTransport (fun t => { t with state := .playing })).computeWait.post .transport
      else (s.loaded n speed parts wait click).startSeek start false :=
  rfl

theorem State.loaded_blocks :
    (s.loaded n speed parts wait click).transport = s.transport.play n speed parts wait click ∧
      (s.loaded n speed parts wait click).store = s.store.setPlaying n true ∧
      (s.loaded n speed parts wait click).now = s.now ∧
      (s.loaded n speed parts wait click).scanner = s.scanner ∧ (s.loaded n speed parts wait click).router = s.router ∧
      (s.loaded n speed parts wait click).tone = s.tone ∧ (s.loaded n speed parts wait click).pedals = s.pedals ∧
      (s.loaded n speed parts wait click).rail = s.rail := by
  cases click with
  | false => simp [State.loaded]
  | true => simp [State.loaded]

theorem State.loaded_audio :
    (s.loaded n speed parts wait click).audio.playSpeed = some speed ∧
      (s.loaded n speed parts wait click).audio.playClick = (s.audio.playClick || click) := by
  have sped := State.setPlaySpeed_audio
    { s with transport := s.transport.play n speed parts wait click, store := s.store.setPlaying n true } (some speed)
  obtain ⟨speedOf, playOf⟩ := sped
  simp only [State.loaded]
  generalize State.setPlaySpeed (some speed) _ = u at speedOf playOf
  cases click with
  | false => exact ⟨speedOf, playOf.trans (Bool.or_false _).symm⟩
  | true =>
    obtain ⟨speedOn, playOn⟩ := u.playClickStart_audio
    exact ⟨speedOn.trans speedOf, playOn.trans (Bool.or_true _).symm⟩

/-- What a playback opened in PLAYING leaves of the Transport: record 0 waited for (R157, R158). -/
theorem State.beginPlayback_playing {t : Take} (numbered : 1 ≤ n ∧ n ≤ 16) (entry : s.store.entry n = some t) :
    (s.beginPlayback n 0 speed parts wait click).transport =
      Transport.computeWait (((s.store.recordsOf n).map Record.delta).headD 0) s.now
        { s.transport.play n speed parts wait click with state := .playing } := by
  obtain ⟨transport, store, now, _⟩ := s.loaded_blocks n speed parts wait click
  have kept : (s.store.setPlaying n true).recordsOf n = s.store.recordsOf n := by
    rw [Store.setPlaying, Store.modEntry, entry]
    exact Store.recordsOf_setEntry numbered entry rfl rfl
  have times (rs : List Record) : (timesFrom 0 rs).getD 0 0 = (rs.map Record.delta).headD 0 := by
    cases rs with
    | nil => rfl
    | cons r rs => exact Nat.zero_add r.delta
  rw [State.beginPlayback_eq, if_pos rfl]
  generalize s.loaded n speed parts wait click = u at transport store now
  have goal : (((u.modTransport (fun t => { t with state := .playing })).computeWait).post .transport).transport =
      Transport.computeWait ((timesFrom 0 (u.store.recordsOf (u.transport.take.getD 0))).getD u.transport.cursor
        u.transport.cursorTime) u.now { u.transport with state := .playing } := rfl
  rw [goal, transport, store, now]
  simp only [Transport.play, Option.getD_some, kept, times]

/-- What a playback opened toward a later start leaves of the Transport (R157, R164). -/
theorem State.beginPlayback_seeking {start : Nat} (later : start ≠ 0) :
    (s.beginPlayback n start speed parts wait click).transport =
      { s.transport.play n speed parts wait click with
        state := .seeking, seek := some { target := start, pausePending := false, began := s.now } } := by
  obtain ⟨transport, _, now, _⟩ := s.loaded_blocks n speed parts wait click
  rw [State.beginPlayback_eq, if_neg later, State.startSeek_transport, transport, now]
  rfl

/-- The blocks a playback's opening leaves beside the Transport's own are those of the loaded playback (R157). -/
theorem State.beginPlayback_blocks (start : Nat) (idle : s.transport.state = .idle) :
    (s.beginPlayback n start speed parts wait click).store = s.store.setPlaying n true ∧
      (s.beginPlayback n start speed parts wait click).audio = (s.loaded n speed parts wait click).audio ∧
      (s.beginPlayback n start speed parts wait click).announces .transport ∧
      (s.beginPlayback n start speed parts wait click).scanner = s.scanner ∧
      (s.beginPlayback n start speed parts wait click).router = s.router ∧
      (s.beginPlayback n start speed parts wait click).tone = s.tone ∧
      (s.beginPlayback n start speed parts wait click).pedals = s.pedals ∧
      (s.beginPlayback n start speed parts wait click).rail = s.rail := by
  obtain ⟨transport, store, _, scanner, router, tone, pedals, rail⟩ := s.loaded_blocks n speed parts wait click
  have stateOf : (s.loaded n speed parts wait click).transport.state = .idle := by rw [transport]; exact idle
  rw [State.beginPlayback_eq]
  generalize s.loaded n speed parts wait click = u at store scanner router tone pedals rail stateOf
  split
  · exact ⟨store, rfl, State.post_announces _ _, scanner, router, tone, pedals, rail⟩
  · have away : u.transport.state ≠ .seeking := by simp [stateOf]
    simp only [State.startSeek, if_neg away]
    exact ⟨store, rfl, State.post_announces _ _, scanner, router, tone, pedals, rail⟩

end Accepted

/-! ### TAKE_PLAY -/

section Requests

variable {f : Frame} {marks n : Byte} {p : List Byte} {l : List (Option Nat)} {s u : State} {r : Reply}

theorem exec_takePlay_of_judge (h : s.canTake f (marks :: n :: p))
    (hj : judgeTakePlay (marks :: n :: p) (s.received f) = some (u, r)) : exec (.takePlay f) s = answered f r u :=
  takeRequest_of_judge (kind := .takePlay) h (Nat.le_add_left 2 p.length) (by decide) hj

/-- The parameters a TAKE_PLAY may carry (R157, R203). -/
def playGood (marks n : Nat) (l : List (Option Nat)) : Prop :=
  1 ≤ n ∧ n ≤ 16 ∧ marks < 32 ∧ (∀ m, item l 2 = some m → m < 4) ∧ (∀ w, item l 3 = some w → w ≤ 1) ∧
    (∀ c, item l 4 = some c → c ≤ 1)

theorem optionalItems_takePlay (items : readItems [4, 1, 1, 1, 1] marks.toNat p = some l) :
    optionalItems .takePlay (marks :: n :: p) = some l := by
  have layout : itemLayout .takePlay = some (1, 1, [4, 1, 1, 1, 1]) := rfl
  simp only [optionalItems, layout, field_byte]
  exact items

theorem judgeTakePlay_range (items : readItems [4, 1, 1, 1, 1] marks.toNat p = some l)
    (bad : ¬playGood marks.toNat n.toNat l) (s : State) : judgeTakePlay (marks :: n :: p) s = refuse .range s := by
  simp only [judgeTakePlay, optionalItems_takePlay items, Option.bind_some, field_cons, field_byte]
  split
  · rfl
  next few =>
    simp only [isTake, not_or, Bool.not_eq_true', Bool.not_eq_false, Bool.and_eq_true, decide_eq_true_eq] at few
    obtain ⟨⟨least, most⟩, unmarked⟩ := few
    have marksOk : marks.toNat < 2 ^ 5 := (reservedBits_iff _ _).mp (by simpa using unmarked)
    split
    next parts wait click readParts readWait readClick =>
      exact absurd ⟨least, most, marksOk, fun m carried => partsOfCode_isSome (codedItem_some readParts m carried),
        fun w carried => (yesNo_isSome w).mp (codedItem_some readWait w carried),
        fun c carried => (yesNo_isSome c).mp (codedItem_some readClick c carried)⟩ bad
    · rfl

/-- TAKE_PLAY of good parameters, from the test of the state on (R157). -/
theorem judgeTakePlay_good (items : readItems [4, 1, 1, 1, 1] marks.toNat p = some l) (good : playGood marks.toNat n.toNat l)
    (s : State) :
    judgeTakePlay (marks :: n :: p) s =
      takePlayWith n.toNat ((item l 0).getD 0) ((item l 1).getD 100) (partsOf ((item l 2).getD 3))
        (decide (item l 3 = some 1)) (decide (item l 4 = some 1)) s := by
  obtain ⟨least, most, marksOk, partsOk, waitOk, clickOk⟩ := good
  have partsDefault : ((item l 2).map partsOf).getD { low := true, high := true } = partsOf ((item l 2).getD 3) := by
    cases item l 2 with
    | none => rfl
    | some m => rfl
  have codeDefault (o : Option Nat) : (o.map (fun w => decide (w = 1))).getD false = decide (o = some 1) := by
    cases o with
    | none => rfl
    | some w => simp
  have inside : ¬((!isTake n.toNat) = true ∨ reservedBits marks.toNat 5 = true) := by
    simp [isTake, least, most, (reservedBits_iff _ 5).mpr marksOk]
  simp only [judgeTakePlay, optionalItems_takePlay items, Option.bind_some, field_cons, field_byte, if_neg inside,
    codedItem_parts partsOk, codedItem_yesNo waitOk, codedItem_yesNo clickOk, partsDefault, codeDefault]

end Requests

/-- Settles O50: the refusals in their order, then the record of the playback in PLAYING or SEEKING. -/
theorem takePlayStartsAPlayback : Obligations.TakePlayStartsAPlayback := by
  intro f marks n p l s h items good speed parts
  have transport := State.received_transport f s
  have store := State.received_store f s
  have answers {u : State} {status : Status} (sound : good)
      (outcome : takePlayWith n.toNat ((item l 0).getD 0) ((item l 1).getD 100) (partsOf ((item l 2).getD 3))
        (decide (item l 3 = some 1)) (decide (item l 4 = some 1)) (s.received f) = answer status .none u) :
      exec (.takePlay f) s = answered f { status := status, data := .none } u :=
    exec_takePlay_of_judge h ((judgeTakePlay_good items sound _).trans outcome)
  refine ⟨fun bad => exec_takePlay_of_judge h (judgeTakePlay_range items bad _), fun sound busy => answers sound ?_,
    fun sound idle empty => answers sound ?_, fun e sound idle entry => ⟨fun open_ => answers sound ?_, fun closed => ?_⟩⟩
  · simp only [takePlayWith, transport, ne_eq, busy, not_false_eq_true, if_true]
    rfl
  · simp only [takePlayWith, transport, store, ne_eq, idle, not_true_eq_false, if_false, empty]
    rfl
  · simp only [takePlayWith, transport, store, ne_eq, idle, not_true_eq_false, if_false, entry, open_, not_false_eq_true,
      if_true]
    rfl
  · intro start
    have numbered : 1 ≤ n.toNat ∧ n.toNat ≤ 16 := ⟨sound.1, sound.2.1⟩
    have accepted : exec (.takePlay f) s = acceptedFor f .none ((s.received f).beginPlayback n.toNat start speed (partsOf parts)
        (decide (item l 3 = some 1)) (decide (item l 4 = some 1))) := by
      refine answers sound ?_
      simp only [takePlayWith, transport, store, ne_eq, idle, not_true_eq_false, if_false, entry, closed]
      rfl
    obtain ⟨kept, sounding, announced, scanner, router, tone, pedals, rail⟩ :=
      (s.received f).beginPlayback_blocks n.toNat speed (partsOf parts) (decide (item l 3 = some 1))
        (decide (item l 4 = some 1)) start (by rw [transport]; exact idle)
    obtain ⟨speeds, clicks⟩ := (s.received f).loaded_audio n.toNat speed (partsOf parts) (decide (item l 3 = some 1))
      (decide (item l 4 = some 1))
    have playing := (s.received f).beginPlayback_playing n.toNat speed (partsOf parts) (decide (item l 3 = some 1))
      (decide (item l 4 = some 1)) numbered (by rw [store]; exact entry)
    have seeking := (s.received f).beginPlayback_seeking n.toNat speed (partsOf parts) (decide (item l 3 = some 1))
      (decide (item l 4 = some 1)) (start := start)
    refine ⟨_, accepted, ?_⟩
    clear_value start
    rw [kept, sounding, speeds, clicks, scanner, router, tone, pedals, rail]
    simp only [State.received_store, State.received_audio, State.received_scanner, State.received_router,
      State.received_pedals, State.received_rail, State.received_queue]
    have marked : s.store.setPlaying n.toNat true = s.store.setEntry n.toNat (some { e with playing := true }) := by
      rw [Store.setPlaying, Store.modEntry, entry]
      rfl
    by_cases now_ : start = 0
    · subst now_
      rw [playing, store, transport, State.received_now]
      exact ⟨rfl, rfl, rfl, rfl, rfl, rfl, rfl, rfl, rfl, rfl, rfl, rfl, rfl, rfl, rfl, rfl, rfl, rfl,
        fun _ => ⟨rfl, rfl, rfl, Nat.mod_eq_sub_div_mul.symm⟩, fun later => absurd rfl later, marked, trivial, trivial, announced, trivial,
        trivial, trivial, trivial, trivial⟩
    · rw [seeking now_, transport, State.received_now]
      exact ⟨rfl, rfl, rfl, rfl, rfl, rfl, rfl, rfl, rfl, rfl, rfl, rfl, rfl, rfl, rfl, rfl, rfl, rfl,
        fun z => absurd z now_, fun _ => ⟨rfl, rfl, rfl⟩, marked, trivial, trivial, announced, trivial, trivial, trivial, trivial,
        trivial⟩

end Sys2Proof.Machine
end

section
/-! PROOFS. The check value and the requests of exports (R182 to R185). -/

namespace Sys2Proof.Machine

open Sys2Proof

section Requests

variable {f : Frame} {a b c : Byte} {p : List Byte} {s u : State} {r : Reply}

theorem exec_exportOpen_of_judge (h : s.canTake f (b :: p)) (hj : judgeExportOpen (b :: p) (s.received f) = some (u, r)) :
    exec (.exportOpen f) s = answered f r u :=
  takeRequest_of_judge (kind := .exportOpen) h (Nat.le_add_left 1 p.length) (by decide) hj

theorem exec_exportRead_of_judge (h : s.canTake f (a :: b :: c :: p))
    (hj : judgeExportRead (a :: b :: c :: p) (s.received f) = some (u, r)) : exec (.exportRead f) s = answered f r u :=
  takeRequest_of_judge (kind := .exportRead) h (Nat.le_add_left 3 p.length) (by decide) hj

theorem exec_exportClose_of_judge (h : s.canTake f p) (hj : judgeExportClose (s.received f) = some (u, r)) :
    exec (.exportClose f) s = answered f r u :=
  takeRequest_of_judge (kind := .exportClose) h (Nat.zero_le p.length) (by decide) hj

end Requests

/-- A read of exported bytes in progress, from the test of its offset on (R184). -/
theorem judgeExportRead_running {s : State} {x : Export} {t : Transfer} {data : List Byte} {now : Time} (a b c : Byte)
    (p : List Byte) (transfer : s.transfer = t) (running : t.exporting = some x) (stream : s.store.streamData x.take = data)
    (time : s.now = now) :
    judgeExportRead (a :: b :: c :: p) s =
      let offset := num3 a b c
      let idle := now.after 5000000
      let size := min 64 (x.length - offset)
      let check := crcFold x.check ((data.take (min (offset + size) (x.length - 2))).drop x.cursor)
      if x.length ≤ offset then
        refuse .range { s with transfer := { t with exporting := some { x with idle := idle } } }
      else if x.cursor < offset ∧ x.cursor ≠ x.length - 2 then
        refuse .order { s with transfer := { t with exporting := some { x with idle := idle } } }
      else
        okWith (.chunk (((data ++ beBytes 2 check.toNat).drop offset).take size) (decide (offset + size = x.length)))
          { s with transfer := { t with exporting := some (Export.advance data offset { x with idle := idle }) } } := by
  subst transfer stream time
  simp only [judgeExportRead, running, field_three]
  rfl

/-- What the end of exporting leaves (R185). -/
theorem State.endExport_blocks (x : Export) (result : TransferResult) (s : State) :
    (s.endExport x result).store = s.store.setExporting x.take false ∧
      (s.endExport x result).transfer =
        { s.transfer with
          exporting := none
          lastExport := some
            { take := x.take, result := result, bytes := x.cursor + boolCode x.upperSent + boolCode x.lowerSent } } ∧
      (s.endExport x result).announces .transfer ∧ (s.endExport x result).transport = s.transport ∧
      (s.endExport x result).router = s.router :=
  ⟨rfl, rfl, State.post_announces _ _, rfl, rfl⟩

/-- Settles O56: the check value, EXPORT_OPEN's refusals and opening, the reads and the two ends of exporting. -/
theorem exportsSendTheStream : Obligations.ExportsSendTheStream := by
  refine ⟨by decide +kernel, fun f n rest s h => ?opens, fun f a b c rest s h => ?reads, fun f p s h => ?closes,
    fun now x s on running => ?expires⟩
  case opens =>
    have transfer := State.received_transfer f s
    have store := State.received_store f s
    have answers {u : State} {status : Status} {data : ReplyData}
        (outcome : judgeExportOpen (n :: rest) (s.received f) = answer status data u) :
        exec (.exportOpen f) s = answered f { status := status, data := data } u := exec_exportOpen_of_judge h outcome
    refine ⟨fun outside => answers ?_, fun least most => ?_⟩
    · have bad : (!isTake n.toNat) = true := by
        simp only [isTake, Bool.not_eq_true', Bool.and_eq_false_iff, decide_eq_false_iff_not]
        omega
      simp only [judgeExportOpen, field_byte, bad, if_true]
      rfl
    · have inside : (!isTake n.toNat) = false := by simp [isTake, least, most]
      refine ⟨fun busy => answers ?_, fun free empty => answers ?_, fun e free entry => ⟨fun open_ => answers ?_,
        fun closed => answers ?_⟩⟩
      · simp only [judgeExportOpen, field_byte, inside, transfer, Option.isSome_iff_ne_none.mpr busy, if_true, if_false,
          Bool.false_eq_true]
        rfl
      · simp only [judgeExportOpen, field_byte, inside, transfer, store, free, empty, Option.isSome_none, if_false,
          Bool.false_eq_true]
        rfl
      · simp only [judgeExportOpen, field_byte, inside, transfer, store, free, entry, Option.isSome_none, if_true, if_false,
          Bool.false_eq_true, open_, ne_eq, not_false_eq_true]
        rfl
      · have marked : s.store.setExporting n.toNat true = s.store.setEntry n.toNat (some { e with exporting := true }) := by
          rw [Store.setExporting, Store.modEntry, entry]
          rfl
        simp only [judgeExportOpen, field_byte, inside, transfer, store, free, entry, Option.isSome_none, if_false,
          Bool.false_eq_true, closed, ne_eq, not_true_eq_false, State.modStore, State.received_now, marked]
        rfl
  case reads =>
    have transfer := State.received_transfer f s
    have store := State.received_store f s
    have answers {u : State} {status : Status} {data : ReplyData}
        (outcome : judgeExportRead (a :: b :: c :: rest) (s.received f) = answer status data u) :
        exec (.exportRead f) s = answered f { status := status, data := data } u := exec_exportRead_of_judge h outcome
    refine ⟨fun free => answers ?_, fun x running => ?_⟩
    · simp only [judgeExportRead, transfer, free]
      rfl
    · intro offset kept idle size upTo data check
      have judged := judgeExportRead_running (s := s.received f) a b c rest transfer running
        (show (s.received f).store.streamData x.take = data by rw [store]) (State.received_now f s)
      refine ⟨fun past => answers (judged.trans (if_pos past)),
        fun inside ahead early => answers (judged.trans ((if_neg inside.not_ge).trans (if_pos ⟨ahead, early⟩))),
        fun inside reaches => answers (judged.trans ((if_neg inside.not_ge).trans (if_neg ?_)))⟩
      rintro ⟨ahead, early⟩
      exact reaches.elim ahead.not_ge early
  case closes =>
    have transfer := State.received_transfer f s
    refine ⟨fun free => exec_exportClose_of_judge h ?_, fun x running => ?_⟩
    · simp only [judgeExportClose, transfer, free]
      rfl
    · have ended := (s.received f).endExport_blocks x (if x.endSeen then .complete else .closedEarly)
      simp only [State.received_store, transfer, State.received_transport, State.received_router] at ended
      refine ⟨_, exec_exportClose_of_judge h ?_, ended⟩
      simp only [judgeExportClose, transfer, running]
      rfl
  case expires =>
    have event (u : State) (outcome : State.onExportIdle { s with now := now } = u) :
        exec (.exportIdleExpiry now) s = .next u := (exec_event on now).trans (congrArg _ outcome)
    refine ⟨fun early => event _ ?_, fun late => ⟨_, event _ ?_, State.endExport_blocks x .timeout { s with now := now }⟩⟩
    · simp only [State.onExportIdle, running, early, Bool.false_eq_true, if_false]
    · simp only [State.onExportIdle, running, late, if_true]

end Sys2Proof.Machine
end

section
/-! PROOFS. Openings of takes, and the import requests (R135, R140, R141, R186 to R189). -/

namespace Sys2Proof.Machine

open Sys2Proof

/-! ### A new entry -/

section Create

variable {st : Store} {n block : Nat} {blocks : List Nat}

/-- A new entry takes the block at the head of the Free List and the next serial, and nothing else of the directory (R134). -/
theorem Store.createTake_creates (numbered : 1 ≤ n ∧ n ≤ 16) (free : st.freeList = block :: blocks) (state : TakeState)
    (tempo : Option Tempo) (split : Nat) :
    ∃ u, st.createTake n state tempo split = some u ∧
      u.entry n =
        some { state := state, flags := {}, count := 0, duration := 0, tempo := tempo, split := split, name := none,
               serial := min (st.serial + 1) 4294967295, first := block, last := block, playing := false, exporting := false } ∧
      (∀ m, m ≠ n → u.entry m = st.entry m) ∧ u.freeList = blocks ∧ u.serial = min (st.serial + 1) 4294967295 ∧
      u.memory = st.memory ∧ u.recording = st.recording ∧ u.importing = st.importing := by
  unfold Store.createTake
  rw [free]
  refine ⟨_, rfl, ?_, fun m other => ?_, rfl, rfl, rfl, rfl, rfl⟩
  · exact (Store.entry_setEntry _ n n _).trans (if_pos ⟨rfl, numbered⟩)
  · exact (Store.entry_setEntry _ n m _).trans (if_neg (fun h => other h.1))

/-- An opening for import that finds its entry EMPTY and a block beyond the reserve (R140). -/
theorem Store.openImport_opens (numbered : 1 ≤ n ∧ n ≤ 16) (free : st.freeList = block :: blocks)
    (empty : st.entry n = none) (room : st.reserveHeld ≤ blocks.length) :
    ∃ u, st.openImport n = .ok u ∧
      u.entry n =
        some { state := .importing, flags := {}, count := 0, duration := 0, tempo := none, split := 45, name := none,
               serial := min (st.serial + 1) 4294967295, first := block, last := block, playing := false, exporting := false } ∧
      (∀ m, m ≠ n → u.entry m = st.entry m) ∧ u.freeList = blocks ∧ u.serial = min (st.serial + 1) 4294967295 ∧
      u.importing = some { take := n, written := 0, deltaSum := 0 } ∧ u.memory = st.memory := by
  obtain ⟨u, created, entry, others, freeList, serial, memory, _⟩ :=
    Store.createTake_creates numbered free .importing none 45
  have enough : ¬st.free ≤ st.reserveHeld := by
    simp only [Store.free, free, List.length_cons]
    omega
  refine ⟨{ u with importing := some { take := n, written := 0, deltaSum := 0 } }, ?_, entry, others, freeList, serial, rfl,
    memory⟩
  simp only [Store.openImport, empty, Option.isSome_none, Bool.false_eq_true, if_false, enough, created]

end Create

/-! ### IMPORT_OPEN -/

section Requests

variable {f : Frame} {n a b c : Byte} {p : List Byte} {s u : State} {r : Reply}

theorem exec_importOpen_of_judge (h : s.canTake f (n :: a :: b :: c :: p))
    (hj : judgeImportOpen (n :: a :: b :: c :: p) (s.received f) = some (u, r)) : exec (.importOpen f) s = answered f r u :=
  takeRequest_of_judge (kind := .importOpen) h (Nat.le_add_left 4 p.length) (by decide) hj

theorem exec_importWrite_of_judge (h : s.canTake f (a :: b :: c :: p))
    (hj : judgeImportWrite (a :: b :: c :: p) (s.received f) = some (u, r)) : exec (.importWrite f) s = answered f r u :=
  takeRequest_of_judge (kind := .importWrite) h (Nat.le_add_left 3 p.length) (by decide) hj

theorem exec_importClose_of_judge (h : s.canTake f p) (hj : judgeImportClose (s.received f) = some (u, r)) :
    exec (.importClose f) s = answered f r u :=
  takeRequest_of_judge (kind := .importClose) h (Nat.zero_le p.length) (by decide) hj

/-- The take and the declared length an IMPORT_OPEN may carry (R186). -/
def importGood (n declared : Nat) : Prop := 1 ≤ n ∧ n ≤ 16 ∧ 37 ≤ declared ∧ declared ≤ 262177 ∧ (declared - 33) % 4 = 0

theorem importGood_iff (n declared : Nat) : importGood n declared ↔ isTake n = true ∧ declaredOk declared = true := by
  simp only [importGood, isTake, declaredOk, Bool.and_eq_true, decide_eq_true_eq, and_assoc]

theorem judgeImportOpen_range (bad : ¬importGood n.toNat (num3 a b c)) (s : State) :
    judgeImportOpen (n :: a :: b :: c :: p) s = refuse .range s := by
  rw [importGood_iff, not_and_or, Bool.not_eq_true, Bool.not_eq_true] at bad
  simp only [judgeImportOpen, field_byte, field_cons, field_three, Bool.not_eq_true', bad, if_true]

theorem judgeImportOpen_busy (good : importGood n.toNat (num3 a b c)) (busy : s.transfer.importing ≠ none) :
    judgeImportOpen (n :: a :: b :: c :: p) s = refuse .busy s := by
  obtain ⟨take, declared⟩ := (importGood_iff _ _).mp good
  simp only [judgeImportOpen, field_byte, field_cons, field_three, take, declared, Bool.not_true, Bool.false_eq_true, or_self,
    if_false, Option.isSome_iff_ne_none.mpr busy, if_true]

theorem judgeImportOpen_refused {status : Status} (good : importGood n.toNat (num3 a b c)) (free : s.transfer.importing = none)
    (refused : s.store.openImport n.toNat = .error status) :
    judgeImportOpen (n :: a :: b :: c :: p) s = refuse status s := by
  obtain ⟨take, declared⟩ := (importGood_iff _ _).mp good
  simp only [judgeImportOpen, field_byte, field_cons, field_three, take, declared, Bool.not_true, Bool.false_eq_true, or_self,
    if_false, free, Option.isSome_none, refused]

/-- IMPORT_OPEN accepted (R186). -/
theorem judgeImportOpen_opened {st : Store} {t : Transfer} {now : Time} (good : importGood n.toNat (num3 a b c))
    (transfer : s.transfer = t) (time : s.now = now) (free : t.importing = none) (opened : s.store.openImport n.toNat = .ok st) :
    judgeImportOpen (n :: a :: b :: c :: p) s =
      answer .accepted (.takeOpened n.toNat (st.serialOf n.toNat))
        { s with store := st, transfer := { t with importing := some (.opened n.toNat (num3 a b c) now) } } := by
  subst transfer time
  obtain ⟨take, declared⟩ := (importGood_iff _ _).mp good
  simp only [judgeImportOpen, field_byte, field_cons, field_three, take, declared, Bool.not_true, Bool.false_eq_true, or_self,
    if_false, free, Option.isSome_none, opened]

end Requests

/-! ### The bytes of a write -/

/-- What a byte, or a run of bytes, of an import leads to: the same take, so many bytes on, or an abort as FORMAT or NO_SPACE
(R187). -/
def Taken.follows (take expected : Nat) : Taken → Prop
  | .goes z _ => z.take = take ∧ z.expected = expected
  | .aborts z _ result => z.take = take ∧ (result = .format ∨ result = .noSpace)

section Bytes

variable (b : Byte) (x : Import) (st : Store)

theorem Import.balance_frame (p : Payload) : (x.balance p).take = x.take ∧ (x.balance p).expected = x.expected := by
  cases p with
  | noteOn key _ _ => simp only [Import.balance]; split <;> exact ⟨rfl, rfl⟩
  | noteOff key _ => simp only [Import.balance]; split <;> exact ⟨rfl, rfl⟩
  | pedal | beat | gap | ending => exact ⟨rfl, rfl⟩

theorem Import.headerByte_follows : (x.headerByte b st).follows x.take x.expected := by
  simp only [Import.headerByte]
  split
  · exact ⟨rfl, rfl⟩
  · split
    · exact ⟨rfl, rfl⟩
    · exact ⟨rfl, .inl rfl⟩

theorem Import.recordByte_follows : (x.recordByte b st).follows x.take x.expected := by
  simp only [Import.recordByte]
  split
  · exact ⟨rfl, rfl⟩
  · split
    · exact ⟨rfl, .inl rfl⟩
    next r _ =>
      split
      · exact ⟨rfl, .inr rfl⟩
      · exact x.balance_frame r.payload

theorem Import.takeByte_follows : (x.takeByte b st).follows x.take (x.expected + 1) := by
  simp only [Import.takeByte]
  split
  · split
    · exact Import.headerByte_follows b _ st
    · exact Import.recordByte_follows b _ st
  · exact ⟨rfl, rfl⟩

theorem Import.takeBytes_follows (l : List Byte) : (x.takeBytes st l).follows x.take (x.expected + l.length) := by
  induction l generalizing x st with
  | nil => exact ⟨rfl, rfl⟩
  | cons b rest ih =>
    have first := x.takeByte_follows b st
    simp only [Import.takeBytes]
    split
    next y st goes =>
      rw [goes] at first
      obtain ⟨take, expected⟩ := first
      have tail := ih y st
      rwa [take, expected, Nat.add_assoc, Nat.add_comm 1] at tail
    next y st result aborts =>
      rw [aborts] at first
      exact first

end Bytes

/-! ### The ends of an import -/

section Ends

variable (x : Import) (result : TransferResult) (s : State)

/-- What an import that fails leaves (R141, R189). -/
theorem State.failTransfer_blocks :
    (s.failTransfer x result).store = s.store.failImport ∧ (s.failTransfer x result).announces .transfer ∧
      (s.failTransfer x result).transfer =
        { s.transfer with
          importing := none, lastImport := some { take := x.take, result := result, bytes := x.expected } } :=
  ⟨rfl, State.post_announces _ _, rfl⟩

/-- An import succeeds: its entry is CLOSED with the header's fields (R141, R188). -/
theorem Store.finishImport_closes {st : Store} {c : ImportContext} {n : Nat} {e : Take} (h : Header)
    (importing : st.importing = some c) (own : c.take = n) (numbered : 1 ≤ n ∧ n ≤ 16) (entry : st.entry n = some e) :
    (st.finishImport h).entry n =
        some { e with state := .closed, flags := { h.flags with imported := true }, tempo := h.tempo, split := h.split,
                      name := h.name } ∧
      (∀ m, m ≠ n → (st.finishImport h).entry m = st.entry m) ∧ (st.finishImport h).importing = none ∧
      (st.finishImport h).memory = st.memory ∧ (st.finishImport h).freeList = st.freeList := by
  subst own
  unfold Store.finishImport
  rw [importing]
  refine ⟨?_, fun m other => ?_, rfl, rfl, rfl⟩
  · refine (Store.entry_setEntry _ c.take c.take _).trans ((if_pos ⟨rfl, numbered⟩).trans ?_)
    rw [entry]
    rfl
  · exact (Store.entry_setEntry _ c.take m _).trans (if_neg (fun h => other h.1))

/-- The records an import's closing checks ask for (R188). -/
def Import.complete (written : Nat) (h : Header) (x : Import) : Prop :=
  written = h.count ∧ x.ends = 1 ∧ x.lastIsEnd = true ∧ x.deltaSum = h.duration ∧ x.unbalanced = false ∧ x.openKeys = []

theorem Import.verdict_check {x : Import} (h : Header) (written : Nat) (wrong : beNat x.received ≠ x.check.toNat) :
    x.verdict written h = .check := if_pos wrong

theorem Import.verdict_format {x : Import} {h : Header} {written : Nat} (check : beNat x.received = x.check.toNat)
    (short : ¬x.complete written h) : x.verdict written h = .format := by
  rw [Import.verdict, if_neg (not_not.mpr check)]
  split
  · rfl
  next counted =>
    split
    · rfl
    next balanced =>
      refine absurd ?_ short
      simp only [not_or, not_not, Bool.not_eq_false, Bool.not_eq_true, Bool.not_eq_true', List.isEmpty_iff] at counted balanced
      exact ⟨counted.1, counted.2.1, counted.2.2.1, counted.2.2.2, balanced⟩

theorem Import.verdict_complete {x : Import} {h : Header} {written : Nat} (check : beNat x.received = x.check.toNat)
    (complete : x.complete written h) : x.verdict written h = .complete := by
  obtain ⟨count, ends, last, sum, balanced, empty⟩ := complete
  rw [Import.verdict, if_neg (not_not.mpr check), if_neg (by simp [count, ends, last, sum]), if_neg (by simp [balanced, empty])]

end Ends

section Write

variable {s : State} {x : Import} {t : Transfer} {now : Time} {a b c : Byte} {data : List Byte}

/-- The state of an IMPORT_WRITE at its judgement, with the import as it goes on (R187). -/
def State.importKept (s : State) (t : Transfer) (y : Import) : State := { s with transfer := { t with importing := some y } }

/-- IMPORT_WRITE with an import in progress, up to the taking of its bytes (R187, R189). -/
theorem judgeImportWrite_refused (transfer : s.transfer = t) (time : s.now = now) (running : t.importing = some x) :
    let y : Import := { x with idle := now.after 5000000 }
    ((data = [] ∨ 64 < data.length) → judgeImportWrite (a :: b :: c :: data) s = refuse .range (s.importKept t y)) ∧
      (data ≠ [] → data.length ≤ 64 → num3 a b c ≠ x.expected →
        judgeImportWrite (a :: b :: c :: data) s = refuse .order (s.importKept t y)) ∧
      (data ≠ [] → data.length ≤ 64 → num3 a b c = x.expected → x.declared < num3 a b c + data.length →
        judgeImportWrite (a :: b :: c :: data) s = refuse .length ((s.importKept t y).failTransfer y .length)) := by
  subst transfer time
  intro y
  simp only [judgeImportWrite, running, field_three, List.drop_succ_cons, List.drop_zero, List.isEmpty_iff]
  refine ⟨fun bad => if_pos bad, fun some few order => ?_, fun some few order long => ?_⟩
  · exact (if_neg (by simp only [not_or]; exact ⟨some, few.not_gt⟩)).trans (if_pos order)
  · exact (if_neg (by simp only [not_or]; exact ⟨some, few.not_gt⟩)).trans ((if_neg (not_not.mpr order)).trans (if_pos long))

/-- The bytes of an IMPORT_WRITE are taken, or abort the import (R187, R189). -/
theorem judgeImportWrite_takes {st : Store} (transfer : s.transfer = t) (time : s.now = now) (store : s.store = st)
    (running : t.importing = some x)
    (some_ : data ≠ []) (few : data.length ≤ 64) (order : num3 a b c = x.expected)
    (fits : num3 a b c + data.length ≤ x.declared) :
    let y : Import := { x with idle := now.after 5000000 }
    (∀ z v, y.takeBytes st data = .goes z v →
      judgeImportWrite (a :: b :: c :: data) s =
        okWith (.expectedOffset z.expected) { s.importKept t z with store := v }) ∧
      (∀ z v result, y.takeBytes st data = .aborts z v result →
        judgeImportWrite (a :: b :: c :: data) s =
          refuse result.status (State.failTransfer z result { s with store := v })) := by
  subst transfer time store
  intro y
  have inside : ¬(data = [] ∨ Config.transferChunk < data.length) := by
    simp only [not_or]
    exact ⟨some_, few.not_gt⟩
  simp only [judgeImportWrite, running, field_three, List.drop_succ_cons, List.drop_zero, List.isEmpty_iff, if_neg inside,
    if_neg (not_not.mpr order), if_neg fits.not_gt]
  have idle : ({ x with idle := idleExpiry s.now } : Import) = y := rfl
  rw [idle]
  refine ⟨fun z v goes => ?_, fun z v result aborts => ?_⟩
  · rw [goes]
    rfl
  · rw [aborts]

end Write

section Close

variable {s : State} {x : Import} {c : ImportContext} {h : Header}

theorem judgeImportClose_short (running : s.transfer.importing = some x) (short : x.expected < x.declared) :
    judgeImportClose s = refuse .length (s.failTransfer x .length) := by
  simp only [judgeImportClose, running, short, if_true]

/-- The closing checks of a stream received whole (R188). -/
theorem judgeImportClose_whole (running : s.transfer.importing = some x) (whole : x.declared ≤ x.expected)
    (parsed : x.header = some h) (context : s.store.importing = some c) :
    (beNat x.received ≠ x.check.toNat → judgeImportClose s = refuse .check (s.failTransfer x .check)) ∧
      (beNat x.received = x.check.toNat → ¬x.complete c.written h →
        judgeImportClose s = refuse .format (s.failTransfer x .format)) ∧
      (beNat x.received = x.check.toNat → x.complete c.written h →
        judgeImportClose s =
          okWith (.imported x.take ((s.store.finishImport h).serialOf x.take) h.count)
            ((s.modStore (Store.finishImport h)).endImport x .complete)) := by
  have written : s.store.importWritten = c.written := by rw [Store.importWritten, context]; rfl
  simp only [judgeImportClose, running, whole.not_gt, if_false, parsed, written]
  refine ⟨fun wrong => ?_, fun check short => ?_, fun check complete => ?_⟩
  · rw [Import.verdict_check h c.written wrong]
  · rw [Import.verdict_format check short]
  · rw [Import.verdict_complete check complete]
    rfl

end Close

/-- Settles O57: the opening, the writes up to an abort, the closing checks and the idle expiry. -/
theorem importsAreCheckedAndClosed : Obligations.ImportsAreCheckedAndClosed := by
  refine ⟨fun f n a b c tail s h => ?opens, fun f a b c data s h => ?writes, fun f p s h => ?closes,
    fun now x s on running => ?expires⟩
  case opens =>
    intro declared good reserve serial
    have transfer := State.received_transfer f s
    have store := State.received_store f s
    have now := State.received_now f s
    have refused {status : Status} (sound : good) (free : s.transfer.importing = none)
        (outcome : s.store.openImport n.toNat = .error status) : exec (.importOpen f) s = refusedWith f status s :=
      exec_importOpen_of_judge h (judgeImportOpen_refused sound (by rw [transfer]; exact free) (by rw [store]; exact outcome))
    refine ⟨fun bad => exec_importOpen_of_judge h (judgeImportOpen_range bad _),
      fun sound busy => exec_importOpen_of_judge h (judgeImportOpen_busy sound (by rw [transfer]; exact busy)),
      fun sound free used => refused sound free (if_pos (Option.isSome_iff_ne_none.mpr used)),
      fun sound free empty full => refused sound free ((if_neg (by simp [empty])).trans (if_pos full)),
      fun block blocks sound free empty freeList room => ?_⟩
    obtain ⟨u, opened, entry, others, rest, serialOf, context, memory⟩ :=
      Store.openImport_opens ⟨sound.1, sound.2.1⟩ freeList empty room
    have numbered : u.serialOf n.toNat = serial := by rw [Store.serialOf, entry]; rfl
    have judged := judgeImportOpen_opened (s := s.received f) (p := tail) sound transfer now free
      (by rw [store]; exact opened)
    rw [numbered] at judged
    exact ⟨_, exec_importOpen_of_judge h judged, entry, others, rest, serialOf, context, memory, rfl, rfl⟩
  case writes =>
    have transfer := State.received_transfer f s
    have store := State.received_store f s
    have now := State.received_now f s
    refine ⟨fun free => exec_importWrite_of_judge h ?_, fun x running => ?_⟩
    · simp only [judgeImportWrite, transfer, free]
      rfl
    · intro offset y kept
      obtain ⟨range, order, long⟩ :=
        judgeImportWrite_refused (s := s.received f) (a := a) (b := b) (c := c) (data := data) transfer now running
      refine ⟨fun bad => exec_importWrite_of_judge h (range bad),
        fun some few other => exec_importWrite_of_judge h (order some few other), fun some few same past => ?_,
        fun some few same fits => ?_⟩
      · obtain ⟨stored, announced, ended⟩ := (State.importKept (s.received f) s.transfer y).failTransfer_blocks y .length
        exact ⟨_, exec_importWrite_of_judge h (long some few same past), ended,
          stored.trans (congrArg Store.failImport store), announced⟩
      · obtain ⟨goes, aborts⟩ := judgeImportWrite_takes (s := s.received f) transfer now store running some few same fits
        have follows := Import.takeBytes_follows y s.store data
        refine ⟨fun z st taken => ?_, fun z st result taken => ?_⟩
        · rw [taken] at follows
          obtain ⟨_, expected⟩ := follows
          have judged := goes z st taken
          rw [expected] at judged
          exact ⟨exec_importWrite_of_judge h judged, expected⟩
        · rw [taken] at follows
          obtain ⟨take, kind⟩ := follows
          obtain ⟨stored, announced, ended⟩ := State.failTransfer_blocks z result { s.received f with store := st }
          refine ⟨_, exec_importWrite_of_judge h (aborts z st result taken), kind, stored, ended.trans ?_, announced⟩
          rw [transfer, take]
  case closes =>
    have transfer := State.received_transfer f s
    have store := State.received_store f s
    refine ⟨fun free => exec_importClose_of_judge h ?_, fun x running => ?_⟩
    · simp only [judgeImportClose, transfer, free]
      rfl
    · intro fails
      have runs : (s.received f).transfer.importing = some x := by rw [transfer]; exact running
      have failed {status : Status} {result : TransferResult}
          (outcome : judgeImportClose (s.received f) = refuse status ((s.received f).failTransfer x result)) :
          fails status result := by
        obtain ⟨stored, announced, ended⟩ := (s.received f).failTransfer_blocks x result
        rw [store] at stored
        rw [transfer] at ended
        exact ⟨_, exec_importClose_of_judge h outcome, stored, announced, ended⟩
      refine ⟨fun short => failed (judgeImportClose_short runs short), fun header c whole parsed context => ?_⟩
      intro complete
      obtain ⟨wrong, short, good⟩ := judgeImportClose_whole runs whole parsed (by rw [store]; exact context)
      refine ⟨fun check => failed (wrong check), fun check incomplete => failed (short check incomplete),
        fun e check sound own least most entry => ?_⟩
      obtain ⟨closed, others, ended, memory, freeList⟩ :=
        Store.finishImport_closes header context own ⟨least, most⟩ entry
      have judged := good check sound
      have serial : (s.store.finishImport header).serialOf x.take = e.serial := by rw [Store.serialOf, closed]; rfl
      rw [store, serial] at judged
      refine ⟨_, exec_importClose_of_judge h judged, ?_⟩
      have stored : (State.endImport x .complete ((s.received f).modStore (Store.finishImport header))).store =
          s.store.finishImport header := congrArg (Store.finishImport header) store
      rw [stored]
      refine ⟨closed, others, ended, memory, freeList, State.post_announces _ _, ?_⟩
      exact congrArg
        (fun t : Transfer =>
          { t with
            importing := none, lastImport := some { take := x.take, result := .complete, bytes := x.expected } })
        transfer
  case expires =>
    have event (u : State) (outcome : State.onImportIdle { s with now := now } = u) :
        exec (.importIdleExpiry now) s = .next u := (exec_event on now).trans (congrArg _ outcome)
    refine ⟨fun early => event _ ?_, fun late => ⟨_, event _ ?_, State.failTransfer_blocks x .timeout { s with now := now }⟩⟩
    · simp only [State.onImportIdle, running, early, Bool.false_eq_true, if_false]
    · simp only [State.onImportIdle, running, late, if_true]

end Sys2Proof.Machine
end

section
/-! PROOFS. The links' own requests (R196, R199, R200). -/

namespace Sys2Proof.Machine

open Sys2Proof

section Requests

variable {f : Frame} {a b : Byte} {p : List Byte} {s u : State} {r : Reply}

theorem exec_identify_of_judge (h : s.canTake f p) (hj : judgeIdentify (s.received f) = some (u, r)) :
    exec (.identify f) s = answered f r u :=
  takeRequest_of_judge (kind := .identify) h (Nat.zero_le p.length) (by decide) hj

theorem exec_restart_of_judge (h : s.canTake f p) (hj : judgeRestart f.link f.now (s.received f) = some (u, r)) :
    exec (.restart f) s = answered f r u :=
  takeRequest_of_judge (kind := .restart) h (Nat.zero_le p.length) (by decide) hj

theorem exec_linkReport_of_judge (h : s.canTake f (b :: p)) (hj : judgeLinkReport f.link (b :: p) (s.received f) = some (u, r)) :
    exec (.linkReport f) s = answered f r u :=
  takeRequest_of_judge (kind := .linkReport) h (Nat.le_add_left 1 p.length) (by decide) hj

theorem exec_statusMask_of_judge (h : s.canTake f (a :: b :: p))
    (hj : judgeStatusMask f.link (a :: b :: p) (s.received f) = some (u, r)) : exec (.statusMask f) s = answered f r u :=
  takeRequest_of_judge (kind := .statusMask) h (Nat.le_add_left 2 p.length) (by decide) hj

/-- An exchange leaves the Panel Stream, its counter and the pointer (R193, R197). -/
theorem State.received_panel (f : Frame) (s : State) :
    (s.received f).panel.drops = s.panel.drops ∧ (s.received f).panel.stream = s.panel.stream ∧
      (s.received f).panel.pointer = s.panel.pointer := by
  cases link : f.link <;> simp [State.received, State.beginExchange, link, State.modLink]

end Requests

/-- A carried mask names no reserved bit when it is below 8192 (R196). -/
theorem reservedMask_iff {n : Nat} (word : n < 65536) : BitVec.ofNat 16 n &&& ~~~kindBits ≠ 0#16 ↔ 8192 ≤ n := by
  have bits : BitVec.ofNat 16 n &&& ~~~kindBits = 0#16 ↔ n < 2 ^ 13 := by
    refine ⟨fun none_ => Nat.lt_pow_two_of_testBit n fun i high => ?_, fun small => ?_⟩
    · rcases Nat.lt_or_ge i 16 with below | above
      · have bit := congrArg (BitVec.getLsbD · i) none_
        have outside : kindBits.getLsbD i = false := by
          interval_cases i <;> decide
        simpa only [BitVec.getLsbD_and, BitVec.getLsbD_not, BitVec.getLsbD_ofNat, below, outside, decide_true, Bool.true_and,
          Bool.not_false, Bool.and_true, Nat.zero_testBit] using bit
      · exact Nat.testBit_lt_two_pow (word.trans_le (Nat.pow_le_pow_right (n := 2) (by decide) above))
    · refine BitVec.eq_of_getLsbD_eq fun i below => ?_
      rcases Nat.lt_or_ge i 13 with low | high
      · have inside : kindBits.getLsbD i = true := by
          interval_cases i <;> decide
        simp [inside]
      · have zero : n.testBit i = false := Nat.testBit_lt_two_pow (small.trans_le (Nat.pow_le_pow_right (n := 2) (by decide) high))
        simp only [BitVec.getLsbD_and, BitVec.getLsbD_ofNat, zero, Bool.and_false, Bool.false_and, Nat.zero_testBit]
  rw [ne_eq, bits]
  omega

/-- What a cleared LINK_REPORT leaves (R197, R199). -/
theorem State.clearCounters_blocks (l : Link) (s : State) :
    (s.clearCounters l).link l = { s.link l with malformed := 0, lostReplies := 0 } ∧
      (s.clearCounters l).panel = { s.panel with drops := if l = .p then 0 else s.panel.drops } ∧
      (s.clearCounters l).system = s.system ∧ (s.clearCounters l).router = s.router ∧ (s.clearCounters l).store = s.store := by
  cases l with
  | t => exact ⟨rfl, rfl, rfl, rfl, rfl⟩
  | p => exact ⟨rfl, rfl, rfl, rfl, rfl⟩

/-- The items of LINK_REPORT, by the link that asks (R199). -/
theorem State.linkReport_eq (l : Link) (s : State) :
    s.linkReport l =
      { malformed := (s.link l).malformed, lostReplies := (s.link l).lostReplies
        streamDrops := if l = .p then some s.panel.drops else none
        streamCount := if l = .p then some s.panel.stream.length else none
        pointer := if l = .p then some s.panel.pointer else none, pendingKinds := (s.link l).board } := by
  cases l with
  | t => rfl
  | p => rfl

/-- Settles O58: IDENTIFY, the first RESTART and a later one, the report with or without the clear, and the mask. -/
theorem linkRequestsReportAndArrange : Obligations.LinkRequestsReportAndArrange := by
  refine ⟨fun f p s h => ?plain, fun f b rest s h => ?report, fun f hi lo rest s h => ?mask⟩
  case plain =>
    have system := State.received_system f s
    refine ⟨?_, fun none_ => exec_restart_of_judge h ?_, fun arranged => exec_restart_of_judge h ?_⟩
    · refine exec_identify_of_judge h ?_
      rw [judgeIdentify, system]
      rfl
    · rw [judgeRestart, system, none_]
      rfl
    · rw [judgeRestart, system]
      exact if_pos (Option.isSome_iff_ne_none.mpr arranged)
  case report =>
    intro me onP report
    obtain ⟨drops, stream, pointer⟩ := s.received_panel f
    have reported : (s.received f).linkReport f.link = report := by
      rw [State.linkReport_eq, drops, stream, pointer]
      simp only [report, onP, decide_eq_true_eq]
      rfl
    refine ⟨fun zero => exec_linkReport_of_judge h ?_, fun one => ?_, fun more => exec_linkReport_of_judge h ?_⟩
    · subst zero
      rw [judgeLinkReport, field_byte, reported]
      rfl
    · subst one
      obtain ⟨link, panel, system, router, store⟩ := (s.received f).clearCounters_blocks f.link
      refine ⟨_, exec_linkReport_of_judge h (u := (s.received f).clearCounters f.link) ?_, link, ?_,
        system.trans (State.received_system f s), router.trans (State.received_router f s),
        store.trans (State.received_store f s)⟩
      · rw [judgeLinkReport, field_byte, reported]
        rfl
      · rw [panel, drops]
        simp only [onP, decide_eq_true_eq]
    · rw [judgeLinkReport, field_byte, (yesNo_none b).mpr more]
      rfl
  case mask =>
    intro mask
    have judged : judgeStatusMask f.link (hi :: lo :: rest) (s.received f) =
        if 8192 ≤ num2 hi lo then refuse .range (s.received f)
        else
          okWith (.mask mask)
            ((s.received f).modLink f.link (fun l => { l with mask := mask, board := l.board &&& mask })) := by
      simp only [judgeStatusMask, field_word, reservedMask_iff (show num2 hi lo < 65536 by simp only [num2]; omega)]
      rfl
    split at judged
    next reserved => exact (exec_statusMask_of_judge h judged).trans (if_pos reserved).symm
    next named => exact (exec_statusMask_of_judge h judged).trans (if_neg named).symm

end Sys2Proof.Machine
end

section
/-! SUPPORT. The snapshots of a status read as 12.4 lays them out, and the kinds of a status board by their bits (R194 to R198). -/

namespace Sys2Proof.Machine

open Sys2Proof

/-! ### Kinds by their bits -/

section Kinds

variable (kinds : BitVec 16) (k : NoticeKind)

theorem hasKind_eq : hasKind kinds k = kinds.getLsbD k.place := by
  have place : k.place < 16 := by cases k <;> decide
  have bit (i : Nat) (below : i < 16) : k.bit.getLsbD i = decide (i = k.place) := by
    rw [NoticeKind.bit, ← BitVec.twoPow_eq, BitVec.getLsbD_twoPow]
    simp [place, eq_comm]
  rw [hasKind, Bool.eq_iff_iff, bne_iff_ne, ne_eq]
  constructor
  · intro some_
    by_contra off
    refine some_ (BitVec.eq_of_getLsbD_eq fun i below => ?_)
    rw [BitVec.getLsbD_and, bit i below]
    by_cases at_ : i = k.place
    · subst at_
      simpa using off
    · simp [at_]
  · intro on none_
    have here := congrArg (BitVec.getLsbD · k.place) none_
    simp [on, bit k.place place] at here

/-- A set of kinds within the mask bits that name one is empty when it holds no kind (R194, R196). -/
theorem kinds_ne_zero_iff (named : kinds &&& ~~~kindBits = 0#16) : kinds ≠ 0#16 ↔ ∃ k, hasKind kinds k = true := by
  constructor
  · intro some_
    by_contra none_
    refine some_ (BitVec.eq_of_getLsbD_eq fun i below => ?_)
    rw [BitVec.getLsbD_zero]
    rcases Nat.lt_or_ge i 13 with low | high
    · obtain ⟨k, place⟩ : ∃ k : NoticeKind, k.place = i := by
        have all : ∀ i < 13, ∃ k ∈ noticeOrder, NoticeKind.place k = i := by decide
        obtain ⟨k, _, place⟩ := all i low
        exact ⟨k, place⟩
      rw [← place, ← hasKind_eq]
      exact Bool.eq_false_of_not_eq_true (fun on => none_ ⟨k, on⟩)
    · have bit := congrArg (BitVec.getLsbD · i) named
      have outside : kindBits.getLsbD i = false := by
        interval_cases i <;> decide
      simpa only [BitVec.getLsbD_and, BitVec.getLsbD_not, below, outside, decide_true, Bool.not_false, Bool.and_true,
        BitVec.getLsbD_zero] using bit
  · rintro ⟨k, on⟩ rfl
    simp [hasKind] at on

/-- A pending kind is one the mask names (R194). -/
theorem LinkIf.consistent.board_named {me : Link} {l : LinkIf} (h : l.consistent me) : l.board &&& ~~~kindBits = 0#16 := by
  obtain ⟨_, reserved, pending, _⟩ := h
  generalize kindBits = bits at reserved ⊢
  grind

end Kinds

/-! ### The snapshots -/

section Layout

variable (s : State)

/-- The bytes of big-endian fields of 1 to 4 bytes (R202). -/
theorem beBytes_four (n : Nat) :
    beBytes 4 n = [BitVec.ofNat 8 (n / 65536 / 256), BitVec.ofNat 8 (n / 65536), BitVec.ofNat 8 (n / 256), BitVec.ofNat 8 n] := by
  simp [beBytes, Nat.div_div_eq_div_mul]

theorem beBytes_three (n : Nat) :
    beBytes 3 n = [BitVec.ofNat 8 (n / 65536), BitVec.ofNat 8 (n / 256), BitVec.ofNat 8 n] := by
  simp [beBytes]

theorem byte1_eq (n : Nat) : byte1 n = [BitVec.ofNat 8 n] := by simp [byte1, beBytes]

/-- A yes or no as one byte (R202). -/
theorem ofNat_boolCode (b : Bool) : BitVec.ofNat 8 (boolCode b) = if b = true then 1 else 0 := by
  cases b <;> rfl

/-- Three marks as the low bits of one byte (12.4). -/
theorem ofNat_boolCodes (a b c : Bool) :
    BitVec.ofNat 8 (boolCode a + 2 * boolCode b + 4 * boolCode c) =
      (if a = true then 1 else 0) + 2 * (if b = true then 1 else 0) + 4 * (if c = true then 1 else 0) := by
  cases a <;> cases b <;> cases c <;> rfl

theorem markedItems_eq {α : Type} (o : Option α) (width : Nat) (bytes : α → List Byte) :
    markedItems width (o.map bytes) = ifPresent o width bytes := by
  cases o with
  | none => rfl
  | some a => rfl

theorem ifPresent_congr {α : Type} {o : Option α} {width : Nat} {f g : α → List Byte} (same : ∀ a, f a = g a) :
    ifPresent o width f = ifPresent o width g := congrArg _ (funext same)

/-! Each kind's snapshot of 12.4 is the model's, byte for byte. -/

/-- The layouts that the snapshots of 12.4 are made of. -/
theorem RailFault.bytes_eq (x : RailFault) :
    x.bytes =
      [BitVec.ofNat 8 x.cause.code, BitVec.ofNat 8 (optionCode (x.target.map Target.code)),
       BitVec.ofNat 8 ((BitVec.ofInt 16 x.count).toNat / 256), BitVec.ofNat 8 (BitVec.ofInt 16 x.count).toNat,
       BitVec.ofNat 8 (x.time.toNat / 65536 / 256), BitVec.ofNat 8 (x.time.toNat / 65536),
       BitVec.ofNat 8 (x.time.toNat / 256), BitVec.ofNat 8 x.time.toNat] := by
  simp only [RailFault.bytes, byte1_eq, be16Signed, timeBytes, beBytes_two, beBytes_four, List.cons_append, List.nil_append]

theorem CaptureResult.bytes_eq (r : CaptureResult) :
    r.bytes =
      [BitVec.ofNat 8 r.kind.code, BitVec.ofNat 8 (r.key.getD 0), BitVec.ofNat 8 r.outcome.code, BitVec.ofNat 8 r.failed,
       BitVec.ofNat 8 (r.lowestFailed.getD 0)] := by
  simp only [CaptureResult.bytes, byte1_eq, List.cons_append, List.nil_append]

theorem Loop.bytes_eq (l : Loop) :
    l.bytes =
      [BitVec.ofNat 8 (l.a / 65536 / 256), BitVec.ofNat 8 (l.a / 65536), BitVec.ofNat 8 (l.a / 256), BitVec.ofNat 8 l.a,
       BitVec.ofNat 8 (l.b / 65536 / 256), BitVec.ofNat 8 (l.b / 65536), BitVec.ofNat 8 (l.b / 256), BitVec.ofNat 8 l.b,
       BitVec.ofNat 8 l.left] := by
  simp only [Loop.bytes, byte1_eq, beBytes_four, List.cons_append, List.nil_append]

theorem CloseResult.bytes_eq (c : CloseResult) :
    c.bytes =
      [BitVec.ofNat 8 c.take, BitVec.ofNat 8 c.outcome.code,
       (if c.flags.truncated = true then 1 else 0) + 2 * (if c.flags.interrupted = true then 1 else 0) +
         4 * (if c.flags.imported = true then 1 else 0),
       BitVec.ofNat 8 (c.count / 65536), BitVec.ofNat 8 (c.count / 256), BitVec.ofNat 8 c.count,
       BitVec.ofNat 8 (c.duration / 65536 / 256), BitVec.ofNat 8 (c.duration / 65536), BitVec.ofNat 8 (c.duration / 256),
       BitVec.ofNat 8 c.duration, BitVec.ofNat 8 c.cause.code] := by
  simp only [CloseResult.bytes, byte1_eq, TakeFlags.code, ofNat_boolCodes, beBytes_three, beBytes_four, List.cons_append,
    List.nil_append]

theorem LastTransfer.items_eq (r : LastTransfer) :
    r.items =
      [BitVec.ofNat 8 r.take, BitVec.ofNat 8 r.result.code, BitVec.ofNat 8 (r.bytes / 65536), BitVec.ofNat 8 (r.bytes / 256),
       BitVec.ofNat 8 r.bytes] := by
  simp only [LastTransfer.items, byte1_eq, beBytes_three, List.cons_append, List.nil_append]

/-- A status read's snapshots are those of 12.4, kind for kind (R195). -/
theorem State.snapshots_eq : s.snapshots = noticeOrder.map (fun k => (k.place + 1, s.snapshot k)) := by
  simp only [State.snapshots, noticeOrder, List.map_cons, List.map_nil, NoticeKind.place, State.snapshot, startSnapshot,
    State.keyFaultSnapshot, State.faultKeys, PedalUnit.faultBits, calDoneSnapshot, Tone.resyncSnapshot,
    timeItem, Rail.stateSnapshot, Rail.faultSnapshot, faultItems, Rail.loadSnapshot, Audio.jackSnapshot, Audio.underrunSnapshot,
    TransportSnapshot.bytes, loopItems, closeSnapshot, Transfer.snapshot, transferItems, State.transportReport,
    markedItems_eq, byte1_eq, be16Signed, beBytes_two, beBytes_four, ofNat_boolCode, ofNat_boolCodes,
    List.cons_append, List.nil_append, List.append_assoc]
  refine List.cons_eq_cons.mpr ⟨?start, List.cons_eq_cons.mpr ⟨?keyFault, List.cons_eq_cons.mpr ⟨?calDone,
    List.cons_eq_cons.mpr ⟨?resync, List.cons_eq_cons.mpr ⟨?railState, List.cons_eq_cons.mpr ⟨?railFault,
    List.cons_eq_cons.mpr ⟨rfl, List.cons_eq_cons.mpr ⟨?fallboard, List.cons_eq_cons.mpr ⟨rfl, List.cons_eq_cons.mpr ⟨rfl,
    List.cons_eq_cons.mpr ⟨?transport, List.cons_eq_cons.mpr ⟨?takeClosed, List.cons_eq_cons.mpr ⟨?transfer, rfl⟩⟩⟩⟩⟩⟩⟩⟩⟩⟩⟩⟩⟩
  case start =>
    generalize s.system.lastStart = start
    obtain ⟨warm, cause, finished, disturbed⟩ := start
    cases warm <;> rcases cause with _ | ⟨_ | _ | _⟩ <;> rfl
  case keyFault =>
    have marks := ofNat_boolCodes (decide (s.pedals.damper.sense.state = .fault)) (decide (s.pedals.sostenuto.sense.state = .fault))
      (decide (s.pedals.soft.sense.state = .fault))
    simp only [boolCode, decide_eq_true_eq] at marks
    simp only [decide_eq_true_eq]
    exact congrArg (fun m : Byte => ((2, [_, _, m]) : Nat × List Byte)) marks
  case calDone => simp only [show CaptureResult.bytes = _ from funext CaptureResult.bytes_eq]
  case resync =>
    simp only [show timeBytes = _ from funext fun t => beBytes_four t.toNat]
    rfl
  case railState =>
    generalize s.rail.target = target
    generalize s.rail.fallboardClosed = closed
    rcases target with _ | ⟨_ | _⟩ <;> cases closed <;> rfl
  case railFault =>
    rw [ifPresent_congr fun x => ?_]
    obtain ⟨cause, target, count, time⟩ := x
    rw [RailFault.bytes_eq]
    cases cause <;> rcases target with _ | ⟨_ | _⟩ <;> rfl
  case fallboard =>
    generalize s.rail.fallboardClosed = closed
    cases closed <;> rfl
  case transport =>
    simp only [show Loop.bytes = _ from funext Loop.bytes_eq]
    rcases s.transportSnapshot.lastEnd with _ | ⟨_ | _ | _ | _ | _⟩ <;> rfl
  case takeClosed =>
    rw [ifPresent_congr fun c => ?_]
    rw [CloseResult.bytes_eq]
    rcases c.cause with _ | _ | _ | _ | _ <;> rfl
  case transfer =>
    refine congrArg (Prod.mk 13) (congrArg₂ (· ++ ·) (ifPresent_congr fun r => ?_)
      (congrArg₂ (· ++ ·) (ifPresent_congr fun r => ?_) rfl))
    all_goals
      rw [LastTransfer.items_eq]
      rcases r.result with _ | _ | _ | _ | _ | _ | _ <;> rfl

end Layout

end Sys2Proof.Machine
end

section
/-! PROOFS. Reads of the reply buffer, pointer writes, status and stream reads, and the attention lines (R190 to R198). -/

namespace Sys2Proof.Machine

open Sys2Proof

/-- The bytes of a status read by the snapshots of 12.4 (R195). -/
theorem State.statusBytes_eq (kinds : BitVec 16) (s : State) :
    s.statusBytes kinds =
      BitVec.ofNat 8 (s.snapshots.filter (fun x => kinds.getLsbD (x.1 - 1))).length ::
        (s.snapshots.filter (fun x => kinds.getLsbD (x.1 - 1))).flatMap
          (fun x => BitVec.ofNat 8 x.1 :: BitVec.ofNat 8 x.2.length :: x.2) := by
  have items : s.snapshots.filter (fun x => kinds.getLsbD (x.1 - 1)) =
      (kindsOf kinds).map (fun k => (k.place + 1, s.snapshot k)) := by
    rw [State.snapshots_eq, List.filter_map, kindsOf]
    congr 1
    refine List.filter_congr fun k _ => ?_
    rw [hasKind_eq]
    rfl
  rw [items, State.statusBytes, byte1_eq, List.length_map, List.flatMap_map]
  have item : s.statusItem = fun k => BitVec.ofNat 8 (k.place + 1) :: BitVec.ofNat 8 (s.snapshot k).length :: s.snapshot k :=
    funext fun k => by simp only [State.statusItem, byte1_eq, List.cons_append, List.nil_append]
  rw [item]
  rfl

/-! ### Which transactions reach the part -/

section Reached

variable {l : Link} {address : BitVec 7} {now : Time} {s : State}

theorem State.answers_here (here : l = .p → address = 0x5C#7 + s.system.strap.setWidth 7) :
    State.answers l address { s with now := now } = true := by
  cases l with
  | t => rfl
  | p => exact decide_eq_true (here rfl)

theorem State.answers_elsewhere (elsewhere : address ≠ 0x5C#7 + s.system.strap.setWidth 7) :
    State.answers .p address { s with now := now } = false := decide_eq_false elsewhere

/-- An exchange for this part acts (R192, R193). -/
theorem exec_here (on : s.system.mainOn = true) (here : l = .p → address = 0x5C#7 + s.system.strap.setWidth 7)
    (g : State → State) : proceed (s.event now (State.addressed l address g)) = .next (g { s with now := now }) :=
  (exec_event on now).trans (congrArg _ (if_pos (State.answers_here here)))

/-- A transaction on Link P for another address leaves the part (R193). -/
theorem exec_elsewhere (on : s.system.mainOn = true) (elsewhere : address ≠ 0x5C#7 + s.system.strap.setWidth 7)
    (g : State → State) : proceed (s.event now (State.addressed .p address g)) = .next { s with now := now } :=
  (exec_event on now).trans (congrArg _ (if_neg (by simp [State.answers_elsewhere elsewhere])))

theorem State.channelIs_here {c : Channel} (pointed : l = .p → s.panel.pointer = c) :
    State.channelIs l c { s with now := now } = true := by
  cases l with
  | t => rfl
  | p => exact decide_eq_true (pointed rfl)

end Reached

/-! ### Reads of the reply buffer -/

section Replies

variable {l : Link} {s : State} {toEnd : Bool}

theorem State.readBuffer_empty (empty : (s.link l).buffer = .empty) :
    s.readBuffer l toEnd = s.modLink l (fun x => { x with out := .bytes [0xFF, 0, 0] }) := by
  simp only [State.readBuffer, empty]
  rfl

theorem State.readBuffer_ready {r : Reply} (ready : (s.link l).buffer = .ready r) :
    s.readBuffer l toEnd = if toEnd then s.replyTaken l r else s.modLink l (fun x => { x with out := .cutShort }) := by
  simp only [State.readBuffer, ready]

theorem State.readBuffer_handling {kind : ReqKind} {g : Frame} (handling : (s.link .t).buffer = .handling kind g) :
    s.readBuffer .t toEnd = s.modLink .t (fun x => { x with out := .bytes [0xFE, 0, 0] }) := by
  simp only [State.readBuffer, handling]
  rfl

theorem State.readBuffer_stretches {kind : ReqKind} {g : Frame} (handling : (s.link .p).buffer = .handling kind g) :
    s.readBuffer .p toEnd = { s with panel := { s.panel with stretch := some s.now } } := by
  simp only [State.readBuffer, handling]

theorem State.settle_still (still : ∀ kind g, (s.link l).buffer ≠ .handling kind g) : s.settle l = s := by
  unfold State.settle
  split
  next kind g handling => exact absurd handling (still kind g)
  · rfl
  · rfl

/-- A request in HANDLING that its block judges (R190). -/
theorem State.judgeFrame_judged {kind : ReqKind} {g : Frame} {p : List Byte} {u : State} {r : Reply} (known : kind ≠ .unknown)
    (link : g.link = l) (params : frameParams kind g.body = some p) (judged : judge kind l g.now p s = some (u, r)) :
    s.judgeFrame kind g = u.placeReply l r := by
  subst link
  simp only [State.judgeFrame, State.answerFrame, known, if_false, params, Option.bind_some, judged]

theorem State.settle_judged {kind : ReqKind} {g : Frame} {p : List Byte} {u : State} {r : Reply}
    (handling : (s.link l).buffer = .handling kind g) (known : kind ≠ .unknown)
    (link : g.link = l) (params : frameParams kind g.body = some p) (judged : judge kind l g.now p s = some (u, r)) :
    s.settle l = (u.placeReply l r).takeHeld l := by
  rw [State.settle, handling]
  exact congrArg (State.takeHeld l) (State.judgeFrame_judged known link params judged)

theorem State.placeReply_link (r : Reply) (u : State) : (u.placeReply l r).link l = { u.link l with buffer := .ready r } :=
  State.link_modLink l _ u

theorem State.modLink_modLink (f g : LinkIf → LinkIf) (u : State) : (u.modLink l f).modLink l g = u.modLink l (fun x => g (f x)) := by
  cases l <;> rfl

/-- A request held behind the one judged is taken, and the reply of the one judged is lost (R190). -/
theorem State.takeHeld_some {next : ReqKind} {h : Frame} (held : (s.link l).held = some (next, h)) :
    s.takeHeld l =
      State.admitFrame next h (s.modLink l (fun x => { x with held := none, lostReplies := min (x.lostReplies + 1) 255 })) := by
  rw [State.takeHeld, held]
  exact congrArg (State.admitFrame next h) (State.modLink_modLink _ _ s)

theorem State.takeHeld_none (alone : (s.link l).held = none) : s.takeHeld l = s := by rw [State.takeHeld, alone]

/-- What a reply read to its last byte leaves (R190, R200). -/
theorem State.replyTaken_blocks (r : Reply) (s : State) :
    ((s.replyTaken l r).link l).buffer = .empty ∧ ((s.replyTaken l r).link l).out = .bytes r.bytes ∧
      (s.replyTaken l r).system =
        (if r.data = .restart true then
          { s.system with restart := s.system.restart.map (fun x => { x with replyRead := true }) }
        else s.system) ∧
      (s.replyTaken l r).router = s.router ∧ (s.replyTaken l r).store = s.store ∧
      (s.replyTaken l r).panel.stream = s.panel.stream := by
  by_cases arms : r.data = .restart true
  · cases l <;> simp [State.replyTaken, Reply.arms, arms]
  · cases l <;> simp [State.replyTaken, Reply.arms, arms]

end Replies

/-- A pointer write by its byte (R193, 12.2). -/
theorem State.writePointer_eq (value : Byte) (s : State) :
    s.writePointer value.toNat =
      if value = 0x02 then { s with panel := { s.panel with pointer := .reply } }
      else if value = 0x04 then { s with panel := { s.panel with pointer := .status } }
      else if value = 0x05 then { s with panel := { s.panel with pointer := .stream } }
      else s.countMalformed .p := by
  have two : value = 0x02 ↔ value.toNat = 0x02 := byte_eq_iff value 2 (by decide)
  have four : value = 0x04 ↔ value.toNat = 0x04 := byte_eq_iff value 4 (by decide)
  have five : value = 0x05 ↔ value.toNat = 0x05 := byte_eq_iff value 5 (by decide)
  simp only [State.writePointer, two, four, five]

/-- Settles O59: the transactions for another address, the reads by the state of the buffer, the pointer, and the boards. -/
theorem linkReadsTakeWhatStands : Obligations.LinkReadsTakeWhatStands := by
  intro now l address s on begun begunP buffer here
  refine ⟨fun elsewhere => ?elsewhere, fun reaches pointed => ?reads, fun began stretched => ?stretch,
    fun value reaches => ?pointer, ?selector, fun reaches pointed => ?status, fun kept => ?attention, fun kinds reading => ?abandon,
    fun idle => ?noAbandon, fun pointed reaches => ?stream⟩
  case elsewhere =>
    exact ⟨fun _ _ => exec_elsewhere on elsewhere _, fun _ => exec_elsewhere on elsewhere _, exec_elsewhere on elsewhere _,
      fun _ => exec_elsewhere on elsewhere _⟩
  case reads =>
    have begins : (begun.link l).buffer = buffer := State.beginExchange_buffer l _
    have reads (toEnd judged : Bool) (u : State) (outcome : State.readBuffer l toEnd (if judged then begun.settle l else begun) = u) :
        exec (.replyRead now ⟨address, l⟩ toEnd judged) s = .next u :=
      (exec_here on reaches _).trans (congrArg _ ((if_pos (State.channelIs_here pointed)).trans outcome))
    have still {toEnd judged : Bool} (idle : ∀ kind g, buffer ≠ .handling kind g) (u : State)
        (outcome : begun.readBuffer l toEnd = u) : exec (.replyRead now ⟨address, l⟩ toEnd judged) s = .next u := by
      refine reads toEnd judged u ?_
      rw [State.settle_still (fun kind g => by rw [begins]; exact idle kind g), ite_self]
      exact outcome
    refine ⟨fun toEnd judged empty => ?_, fun judged r ready => ?_, fun toEnd kind g handling => ?_⟩
    · exact still (fun _ _ => by rw [empty]; nofun) _ (State.readBuffer_empty (begins.trans empty))
    · have idle (kind : ReqKind) (g : Frame) : buffer ≠ .handling kind g := by rw [ready]; nofun
      refine ⟨still idle _ ((State.readBuffer_ready (begins.trans ready)).trans (if_neg (by decide))),
        _, still idle _ ((State.readBuffer_ready (begins.trans ready)).trans (if_pos rfl)), ?_⟩
      obtain ⟨emptied, out, system, router, store, stream⟩ := State.replyTaken_blocks (l := l) r begun
      have same : begun.system = s.system ∧ begun.router = s.router ∧ begun.store = s.store ∧
          begun.panel.stream = s.panel.stream := by
        cases l <;> exact ⟨rfl, rfl, rfl, rfl⟩
      obtain ⟨systemOf, routerOf, storeOf, streamOf⟩ := same
      rw [systemOf] at system
      refine ⟨emptied, out.trans ?_, system, router.trans routerOf, store.trans storeOf, stream.trans streamOf⟩
      rw [Reply.bytes, replyFrame, byte1_eq]
      rfl
    · have handles := begins.trans handling
      refine ⟨fun onT => ?_, fun onP => ?_, fun p u r known link params judged alone => ?_,
        fun p u r next h p2 v r2 known link params judged held => ?_⟩
      · subst onT
        exact reads toEnd false _ (State.readBuffer_handling handles)
      · subst onP
        exact reads toEnd false _ (State.readBuffer_stretches handles)
      · refine reads true true _ ?_
        rw [if_pos rfl, State.settle_judged handles known link params judged,
          State.takeHeld_none (by rw [State.placeReply_link]; exact alone),
          State.readBuffer_ready (by rw [State.placeReply_link]), if_pos rfl]
      · intro lost knownNext linkNext paramsNext judgedNext
        have settled : begun.settle l = State.admitFrame next h lost := by
          rw [State.settle_judged handles known link params judged,
            State.takeHeld_some (by rw [State.placeReply_link]; exact held)]
        refine ⟨fun direct => reads true true _ ?_, fun deferred onT => reads true true _ ?_⟩
        · rw [if_pos rfl, settled, State.admitFrame, if_neg (by simp [direct]),
            State.judgeFrame_judged knownNext linkNext paramsNext judgedNext,
            State.readBuffer_ready (by rw [State.placeReply_link]), if_pos rfl]
        · subst onT
          rw [if_pos rfl, settled, State.admitFrame, if_pos ⟨deferred, knownNext, by rw [paramsNext]; rfl⟩, linkNext,
            State.readBuffer_handling rfl, State.modLink_modLink]
  case stretch =>
    refine (exec_event on now).trans ?_
    by_cases late : 1000 ≤ (now - began).toNat
    · rw [if_pos late]
      refine congrArg _ ?_
      simp only [State.endStretch, stretched]
      exact if_pos late
    · rw [if_neg late]
      refine congrArg _ ?_
      simp only [State.endStretch, stretched]
      exact if_neg late
  case pointer =>
    refine (exec_here (l := .p) on (fun _ => reaches) _).trans ?_
    rw [State.writePointer_eq]
    split_ifs
    all_goals rfl
  case selector => exact (exec_event on now).trans rfl
  case status =>
    intro items
    have read : exec (.statusRead now ⟨address, l⟩) s =
        .next (begun.modLink l (fun x => { x with
          board := 0#16, statusRead := some (begun.link l).board, out := .bytes (begun.statusBytes (begun.link l).board) })) :=
      (exec_here on reaches _).trans (congrArg _ (if_pos (State.channelIs_here pointed)))
    have board : (begun.link l).board = (s.link l).board := by cases l <;> rfl
    have begins : (begun.link l).buffer = buffer := State.beginExchange_buffer l _
    rw [board] at read
    refine ⟨_, read, ?_⟩
    rw [State.link_modLink]
    refine ⟨rfl, rfl, begins, congrArg LinkOut.bytes (State.statusBytes_eq _ _), ?_, ?_, ?_⟩
    all_goals cases l <;> rfl
  case attention =>
    obtain ⟨keptT, keptP, _⟩ := kept
    have onT := kinds_ne_zero_iff s.linkT.board keptT.board_named
    have onP := kinds_ne_zero_iff s.linkP.board keptP.board_named
    refine ⟨?_, ?_⟩
    · rw [State.attnT, bne_iff_ne]
      exact onT
    · rw [State.attnP, Bool.or_eq_true, bne_iff_ne, onP, Bool.not_eq_true', List.isEmpty_eq_false_iff]
  case abandon =>
    refine (exec_event on now).trans (congrArg _ ?_)
    have reading : (({ s with now := now } : State).link l).statusRead = some kinds := reading
    rw [State.abandonStatus, reading]
  case noAbandon =>
    refine (exec_event on now).trans (congrArg _ ?_)
    have idle : (({ s with now := now } : State).link l).statusRead = none := idle
    rw [State.abandonStatus, idle]
  case stream =>
    have read (n : Nat) : exec (.streamRead now ⟨address, n⟩) s = .next (State.readStream n { s with now := now }) :=
      exec_here (l := .p) on (fun _ => reaches) _
    have pointedHere : State.channelIs .p .stream { s with now := now } = true := decide_eq_true pointed
    refine ⟨(read 0).trans (congrArg _ (if_pos pointedHere)), fun n => (read (n + 1)).trans (congrArg _ ((if_pos pointedHere).trans ?_))⟩
    simp only [byte1_eq]
    rfl

end Sys2Proof.Machine
end

section
/-! PROOFS. The starts and the losses of the supplies (R22, R39, R54, R83, R110, R129, R148, R149, R169, R200, R201). -/

namespace Sys2Proof.Machine

open Sys2Proof

/-! ### Keys and pedals -/

section Sensing

variable (s : State) (warm : Bool)

/-- A key after a start of either kind (R22). -/
theorem State.key_atStart {s t : State} {warm : Bool} (scanner : t.scanner = s.scanner.atStart warm) {k : Nat} (low : 1 ≤ k)
    (high : k ≤ 88) :
    t.key k =
      let c : KeyCal := if warm then (s.key k).cal else { restRaw := 0, bottomRaw := 0, trim := 0, enabled := false }
      { Key.initial with cal := c, state := if c.valid then .suspended else .uncalibrated } := by
  have slot : slotOf k < 88 := (slotOf_lt (by decide)).mpr ⟨low, high⟩
  cases warm
  · simp only [State.key, scanner, Scanner.atStart, Scanner.initial, Bool.false_eq_true, if_false, Vector.getElem?_replicate, slot,
      if_true]
    rfl
  · simp only [State.key, scanner, Scanner.atStart, if_true, Vector.getElem?_map]
    rw [Vector.getElem?_eq_getElem slot]
    rfl

/-- A key's record is kept by a warm start and by the loss of main power (R22, R200). -/
theorem State.key_atStart_cal {s t : State} (scanner : t.scanner = s.scanner.atStart true) (k : Nat) :
    (t.key k).cal = (s.key k).cal := by
  simp only [State.key, scanner, Scanner.atStart, if_true, Vector.getElem?_map]
  cases s.scanner.keys[slotOf k]? with
  | none => rfl
  | some key => rfl

/-- The sensing side of a pedal after a start of either kind (R54). -/
theorem PedalUnit.sense_atStart (u : PedalUnit) (p : PedalId) :
    (u.atStart warm).sense p =
      let c : PedalCal := if warm then (u.sense p).cal else { restRaw := 0, fullRaw := 0, enabled := false }
      { cal := c, state := if c.valid then .active else .invalid, glitchRun := 0, recoveryRun := 0 } := by
  cases warm <;> cases p <;> rfl

theorem PedalUnit.levels_atStart (u : PedalUnit) :
    (u.atStart warm).damper.live = 0 ∧ (u.atStart warm).damper.playback = 0 ∧ (u.atStart warm).damper.effective = 0 ∧
      (u.atStart warm).soft.live = 0 ∧ (u.atStart warm).soft.playback = 0 ∧ (u.atStart warm).soft.effective = 0 ∧
      (u.atStart warm).sostenuto.live = false ∧ (u.atStart warm).sostenuto.playback = false ∧
      (u.atStart warm).sostenuto.effective = false := by
  cases warm <;> exact ⟨rfl, rfl, rfl, rfl, rfl, rfl, rfl, rfl, rfl⟩

end Sensing

/-! ### The rail and the Audio Stage -/

/-- The rail after a start of either kind (R110). -/
theorem Rail.atStart_startsTo (r : Rail) (warm : Bool) (now : Time) (pins : Pins) : r.startsTo (r.atStart warm pins now) warm now pins := by
  obtain ⟨retractEnd, engageEnd, fallboard, jack1, jack2, strap⟩ := pins
  have retains : r.retains warm = true ↔ warm = true ∧ r.disturbed = false := by simp [Rail.retains]
  refine ⟨rfl, rfl, rfl, rfl, rfl, rfl, rfl, rfl, rfl, rfl, rfl, rfl, ?_, ?_, ?_, ?_, ?_⟩
  · simp only [Rail.atStart, Rail.learnedAtStart, retains]
    rfl
  · rintro ⟨⟩ ⟨⟩
    simp only [Rail.atStart, Rail.placeAtStart, Rail.countAtStart, retains]
    exact ⟨rfl, rfl, rfl, rfl, rfl, rfl, rfl⟩
  · rintro ⟨⟩ ⟨⟩
    exact ⟨rfl, rfl, rfl, rfl, rfl, rfl, rfl⟩
  · rintro ⟨⟩ ⟨⟩
    simp only [Rail.atStart, Rail.placeAtStart, retains]
    exact ⟨rfl, rfl, rfl, rfl, rfl, rfl, rfl⟩
  · rintro ⟨⟩ ⟨⟩
    simp only [Rail.atStart, Rail.placeAtStart, Rail.countAtStart, retains]
    refine ⟨rfl, rfl, rfl, fun resting => ?_⟩
    have place : (if warm = true ∧ r.disturbed = false then r.resting else .unknown) = .retracted ∨
        (if warm = true ∧ r.disturbed = false then r.resting else .unknown) = .engaged ∨
        (if warm = true ∧ r.disturbed = false then r.resting else .unknown) = .unknown := by
      split
      · exact resting
      · exact .inr (.inr rfl)
    rcases place with at_ | at_ | at_
    all_goals
      simp only [at_]
      exact ⟨rfl, rfl, rfl, rfl⟩

/-- The Audio Stage after a start of either kind (R119, R129). -/
theorem Audio.atStart_startsTo (pins : Pins) (r : Rail) : (Audio.atStart pins r).startsTo r pins := by
  refine ⟨rfl, rfl, rfl, rfl, rfl, rfl, rfl, rfl, rfl, rfl, rfl, rfl, rfl, rfl, rfl, rfl, rfl, rfl, rfl, rfl, rfl, rfl, rfl, rfl,
    rfl, rfl, ?_⟩
  simp [Audio.atStart, Audio.handOn, Audio.judgeRail, Audio.setAlert, Audio.judgeJacks, Audio.initial]

/-! ### The Take Store -/

section Takes

variable {st u : Store} {n m : Nat}

/-- An entry with its use marks clear (R143). -/
def Take.unmarked (e : Take) : Take := { e with playing := false, exporting := false }

theorem Store.entry_clearMarks (st : Store) (n : Nat) : st.clearMarks.entry n = (st.entry n).map Take.unmarked := by
  simp only [Store.entry, Store.clearMarks, Vector.getElem?_map]
  cases st.directory[slotOf n]? with
  | none => rfl
  | some e => rfl

/-- A closing told of two stores is told of them with their use marks clear (R139, R143). -/
theorem Store.closesTo.clearMarks {c : RecordingContext} {e : Take} {flags : TakeFlags} {position : Nat}
    (h : st.closesTo u c e flags position) : st.clearMarks.closesTo u.clearMarks c e.unmarked flags position := by
  obtain ⟨recording, others, last, entry, bytes⟩ := h
  refine ⟨recording, fun m other => ?_, last, ?_, bytes⟩
  · rw [Store.entry_clearMarks, Store.entry_clearMarks, others m other]
  · rw [Store.entry_clearMarks, entry]
    rfl

/-- What stays while records are written into take `n` of the recording: the other entries, the serial and the import. -/
structure Store.WritesInto (n : Nat) (st u : Store) : Prop where
  others : ∀ m, m ≠ n → u.entry m = st.entry m
  serial : u.serial = st.serial
  importing : u.importing = st.importing
  recording : ∃ d, u.recording = some d ∧ d.take = n

theorem Store.append_leaves {keep : Nat} {r : Record} (appended : st.append n keep r = some u) :
    (∀ m, m ≠ n → u.entry m = st.entry m) ∧ u.serial = st.serial ∧ u.importing = st.importing := by
  have writes (base : Store) (t : Take) (entry : base.entry = st.entry) (serial : base.serial = st.serial)
      (importing : base.importing = st.importing) :
      (∀ m, m ≠ n → (base.writeSlot n t r).entry m = st.entry m) ∧ (base.writeSlot n t r).serial = st.serial ∧
        (base.writeSlot n t r).importing = st.importing := by
    refine ⟨fun m other => ?_, serial, importing⟩
    rw [Store.writeSlot, Store.entry_setEntry, if_neg (fun h => other h.1)]
    exact congrFun entry m
  unfold Store.append at appended
  split at appended
  · exact nomatch appended
  next t _ =>
    split at appended
    · split at appended
      · unfold Store.allocate at appended
        split at appended
        · exact nomatch appended
        · obtain rfl := Option.some.inj appended
          exact writes _ _ rfl rfl rfl
      · exact nomatch appended
    · obtain rfl := Option.some.inj appended
      exact writes st t rfl rfl rfl

theorem Store.WritesInto.writeClosing (h : st.WritesInto n u) (position : Nat) (stamp : Time) (p : Payload) :
    st.WritesInto n (u.writeClosing position stamp p) := by
  obtain ⟨others, serial, importing, d, recording, take⟩ := h
  simp only [Store.writeClosing, Store.writeAt, recording]
  cases appended : u.append d.take 0 { delta := position / 1000 - d.lastTime, payload := p } with
  | none => exact ⟨others, serial, importing, d, recording, take⟩
  | some v =>
    rw [take] at appended
    obtain ⟨othersAfter, serialAfter, importingAfter⟩ := Store.append_leaves appended
    obtain ⟨takeAfter, _⟩ :=
      RecordingContext.noted_frame { d with position := position, lastTime := position / 1000, lastStamp := stamp } p
    exact ⟨fun m other => (othersAfter m other).trans (others m other), serialAfter.trans serial,
      importingAfter.trans importing, _, rfl, takeAfter.trans take⟩

/-- A take that is closed leaves the others, the serial and the import (R139). -/
theorem Store.closeAt_leaves {c : RecordingContext} (recording : st.recording = some c) (position : Nat) (stamp : Time) :
    (∀ m, m ≠ c.take → (st.closeAt position stamp).entry m = st.entry m) ∧ (st.closeAt position stamp).serial = st.serial ∧
      (st.closeAt position stamp).importing = st.importing ∧ (st.closeAt position stamp).recording = none := by
  have run (l : List Payload) {u : Store} (h : st.WritesInto c.take u) :
      st.WritesInto c.take (l.foldl (Store.writeClosing position stamp) u) := by
    induction l generalizing u with
    | nil => exact h
    | cons p rest ih => exact ih (h.writeClosing position stamp p)
  obtain ⟨others, serial, importing, _⟩ := run c.closing ⟨fun _ _ => rfl, rfl, rfl, c, recording, rfl⟩
  simp only [Store.closeAt, recording]
  refine ⟨fun m other => ?_, serial, importing, trivial⟩
  exact (Store.entry_setEntry _ c.take m _).trans ((if_neg (fun h => other h.1)).trans (others m other))

theorem Store.releaseTake_other (other : m ≠ n) : (st.releaseTake n).entry m = st.entry m := by
  cases held : st.entry n with
  | none => simp only [Store.releaseTake, held]
  | some e => rw [Store.releaseTake_of_entry held, Store.entry_setEntry, if_neg (fun h => other h.1)]; rfl

theorem Store.releaseTake_kept (st : Store) (n : Nat) :
    (st.releaseTake n).serial = st.serial ∧ (st.releaseTake n).recording = st.recording ∧
      (st.releaseTake n).importing = st.importing := by
  cases held : st.entry n with
  | none => simp only [Store.releaseTake, held, and_self]
  | some e => exact Store.releaseTake_frame held

/-- What the failing of an import leaves (R141). -/
theorem Store.failImport_leaves (st : Store) :
    (∀ m, (∀ i, st.importing = some i → i.take ≠ m) → st.failImport.entry m = st.entry m) ∧
      st.failImport.serial = st.serial ∧ st.failImport.recording = st.recording ∧ st.failImport.importing = none ∧
      st.failImport.memory = st.memory := by
  cases importing : st.importing with
  | none =>
    simp only [Store.failImport, importing]
    exact ⟨fun _ _ => trivial, trivial, trivial, trivial, trivial⟩
  | some i =>
    obtain ⟨serial, recording, _⟩ := st.releaseTake_kept i.take
    simp only [Store.failImport, importing]
    exact ⟨fun m other => Store.releaseTake_other (other i rfl).symm, serial, recording, trivial, st.releaseTake_memory i.take⟩

/-- A RECORDING take after a warm start: closed INTERRUPTED at its last record, or discarded when its clock had not started
(R149). -/
def Store.interrupt (c : RecordingContext) (st : Store) : Store :=
  if c.started then
    (st.modEntry c.take (fun t => { t with flags := { t.flags with interrupted := true } })).closeAt c.position c.lastStamp
  else { st.releaseTake c.take with recording := none }

theorem Store.finishTakes_eq (st : Store) :
    st.finishTakes =
      ((match st.recording with
        | none => st.failImport
        | some c => st.failImport.interrupt c),
        (match st.importing with
          | some i => [(i.take, .importFailed)]
          | none => []) ++
          (match st.recording with
            | some c => [(c.take, if c.started then .closed else .discarded)]
            | none => [])) := by
  have kept : st.failImport.recording = st.recording := by
    obtain ⟨_, _, recording, _⟩ := st.failImport_leaves
    exact recording
  cases recording : st.recording with
  | none => simp only [Store.finishTakes, kept, recording, List.append_nil] <;> rfl
  | some c =>
    have interrupted : (st.failImport.modEntry c.take
        (fun t => { t with flags := { t.flags with interrupted := true } })).recording = some c := kept.trans recording
    have running := kept.trans recording
    by_cases started : c.started = true
    · simp only [Store.finishTakes, running, Store.closeRecording, interrupted, Store.interrupt, started, if_true] <;> rfl
    · simp only [Store.finishTakes, running, Store.closeRecording, Store.interrupt, started, Bool.false_eq_true, if_false] <;> rfl

/-- What an interrupted recording leaves (R149). -/
theorem Store.interrupt_leaves {c : RecordingContext} (recording : st.recording = some c) :
    (∀ m, m ≠ c.take → (st.interrupt c).entry m = st.entry m) ∧ (st.interrupt c).serial = st.serial ∧
      (st.interrupt c).importing = st.importing ∧ (st.interrupt c).recording = none := by
  simp only [Store.interrupt]
  split
  · obtain ⟨others, serial, importing, ended⟩ := Store.closeAt_leaves (st := st.modEntry c.take
      (fun t => { t with flags := { t.flags with interrupted := true } })) recording c.position c.lastStamp
    refine ⟨fun m other => (others m other).trans ?_, serial, importing, ended⟩
    exact (Store.entry_setEntry st c.take m _).trans (if_neg (fun h => other h.1))
  · obtain ⟨serial, _, importing⟩ := st.releaseTake_kept c.take
    exact ⟨fun m other => Store.releaseTake_other other, serial, importing, rfl⟩

/-- A warm start leaves no take unfinished (R149). -/
theorem Store.finishTakes_ends (st : Store) :
    st.finishTakes.1.recording = none ∧ st.finishTakes.1.importing = none ∧ st.finishTakes.1.serial = st.serial ∧
      ∀ m, (∀ i, st.importing = some i → i.take ≠ m) → (∀ c, st.recording = some c → c.take ≠ m) →
        st.finishTakes.1.entry m = st.entry m := by
  obtain ⟨others, serial, kept, importing, _⟩ := st.failImport_leaves
  rw [Store.finishTakes_eq]
  cases recording : st.recording with
  | none => exact ⟨kept.trans recording, importing, serial, fun m notImported _ => others m notImported⟩
  | some c =>
    obtain ⟨othersAfter, serialAfter, importingAfter, ended⟩ := Store.interrupt_leaves (kept.trans recording)
    exact ⟨ended, importingAfter.trans importing, serialAfter.trans serial,
      fun m notImported notRecorded => (othersAfter m (notRecorded c rfl).symm).trans (others m notImported)⟩

end Takes

/-- A warm start finishes the takes (R149). -/
theorem State.start_finishesTakes (s : State) (cause : StartCause) (now : Time) (pins : Pins) :
    s.finishesTakes (s.start true cause now pins) := by
  have store : (s.start true cause now pins).store = s.store.finishTakes.1.clearMarks := rfl
  have finished : (s.start true cause now pins).system.lastStart.finished = s.store.finishTakes.2 := rfl
  obtain ⟨_, _, serial, others⟩ := s.store.finishTakes_ends
  rw [State.finishesTakes, store, finished, Store.finishTakes_eq]
  rw [Store.finishTakes_eq] at serial others
  refine ⟨serial, rfl, fun n notImported notRecorded => ?_, fun noRecording noImport => ?_,
    fun i e importing noRecording low high entry => ?_, fun c e recording noImport low high entry => ⟨fun waiting => ?_,
      fun started canonical blocks few => ?_⟩⟩
  · rw [Store.entry_clearMarks, others n notImported notRecorded]
    rfl
  · simp only [noRecording, Store.failImport, noImport]
    exact ⟨rfl, rfl, rfl⟩
  · simp only [noRecording, Store.failImport, importing]
    refine ⟨?_, Store.releaseTake_freeList entry, s.store.releaseTake_memory i.take⟩
    refine (Store.entry_clearMarks _ i.take).trans ?_
    have empty := Store.releaseTake_entry entry ⟨low, high⟩ i.take
    rw [if_pos rfl] at empty
    exact congrArg (Option.map Take.unmarked) empty
  · simp only [recording, Store.failImport, noImport, Store.interrupt, waiting, Bool.false_eq_true, if_false]
    refine ⟨?_, Store.releaseTake_freeList entry, s.store.releaseTake_memory c.take⟩
    refine (Store.entry_clearMarks _ c.take).trans ?_
    have empty := Store.releaseTake_entry entry ⟨low, high⟩ c.take
    rw [if_pos rfl] at empty
    exact congrArg (Option.map Take.unmarked) empty
  · simp only [recording, Store.failImport, noImport, Store.interrupt, started, if_true]
    refine Store.closesTo.clearMarks (Store.closeAt_closesTo recording ⟨low, high⟩ canonical ?_ (fun m other => ?_) blocks few)
    · refine (Store.entry_setEntry s.store c.take c.take _).trans ((if_pos ⟨rfl, low, high⟩).trans ?_)
      rw [entry]
      rfl
    · exact (Store.entry_setEntry s.store c.take m _).trans (if_neg (fun h => other h.1))

/-! ### The starts -/

section Start

variable (s : State) (warm : Bool) (cause : StartCause) (now : Time) (pins : Pins)

/-- A link after a start (R200). -/
theorem LinkIf.atStart_blocks (mask : BitVec 16) (railFault : mask &&& NoticeKind.railFault.bit = 0x0020#16) (r : Rail) :
    (LinkIf.atStart mask r).buffer = .empty ∧ (LinkIf.atStart mask r).mask = mask ∧ (LinkIf.atStart mask r).malformed = 0 ∧
      (LinkIf.atStart mask r).lostReplies = 0 ∧
      (LinkIf.atStart mask r).board = (if r.state = .switchFault then 0x0021#16 else 0x0001#16) ∧
      (LinkIf.atStart mask r).held = none ∧ (LinkIf.atStart mask r).statusRead = none := by
  simp only [LinkIf.atStart]
  split
  · refine ⟨rfl, rfl, rfl, rfl, ?_, rfl, rfl⟩
    simp only [LinkIf.post, LinkIf.initial, railFault]
    rfl
  · exact ⟨rfl, rfl, rfl, rfl, rfl, rfl, rfl⟩

theorem Store.atStart_ends (st : Store) : (st.atStart warm).1.recording = none ∧ (st.atStart warm).1.importing = none := by
  cases warm with
  | false => exact ⟨rfl, rfl⟩
  | true =>
    obtain ⟨recording, importing, _⟩ := st.finishTakes_ends
    exact ⟨recording, importing⟩

theorem State.start_startsTo : s.startsTo (s.start warm cause now pins) warm cause now pins := by
  obtain ⟨damperLive, damperPlay, damperEff, softLive, softPlay, softEff, switchLive, switchPlay, switchEff⟩ :=
    s.pedals.levels_atStart warm
  obtain ⟨recording, importing⟩ := s.store.atStart_ends warm
  obtain ⟨bufferT, maskT, malformedT, lostT, boardT, heldT, readT⟩ :=
    LinkIf.atStart_blocks startMaskT (by decide) (s.rail.atStart warm pins now)
  obtain ⟨bufferP, maskP, malformedP, lostP, boardP, heldP, readP⟩ :=
    LinkIf.atStart_blocks startMaskP (by decide) (s.rail.atStart warm pins now)
  refine ⟨rfl, rfl, rfl, rfl, rfl, rfl, rfl, rfl, rfl, fun k low high => State.key_atStart rfl low high, ?_, ?_, ?_, ?_,
    fun p => s.pedals.sense_atStart warm p, damperLive, damperPlay, damperEff, softLive, softPlay, softEff, switchLive,
    switchPlay, switchEff, rfl, rfl, s.rail.atStart_startsTo warm now pins, Audio.atStart_startsTo pins _, ?_, ?_, recording,
    importing, rfl, rfl, bufferT, bufferP, maskT, maskP, malformedT, malformedP, lostT, lostP, boardT, boardP, heldT, heldP,
    readT, readP, rfl⟩
  · cases warm <;> rfl
  · cases warm <;> rfl
  · cases warm <;> rfl
  · cases warm <;> rfl
  · rintro rfl
    exact ⟨rfl, rfl⟩
  · rintro rfl
    exact s.start_finishesTakes cause now pins

/-- A start reads the retained items alone. -/
theorem State.start_congr {t : State} (marker : t.system.marker = s.system.marker) (scanner : t.scanner = s.scanner)
    (strokes : t.strokes = s.strokes) (pedals : t.pedals = s.pedals) (rail : t.rail = s.rail) (store : t.store = s.store)
    (pending : t.pending = s.pending) : t.start warm cause now pins = s.start warm cause now pins := by
  simp only [State.start, marker, scanner, strokes, pedals, rail, store, pending]

end Start

/-! ### RESTART -/

section Restart

variable {s : State} {l : Link}

theorem State.settleRestart_still (still : s.awaitsRestart l = false) : s.settleRestart l = s := by
  simp only [State.settleRestart, still, Bool.false_eq_true, if_false]

/-- A RESTART that waits in HANDLING is judged, and arranges the start (R190, R200). -/
theorem State.settleRestart_judges {f : Frame} (handling : (s.link l).buffer = .handling .restart f) (link : f.link = l)
    (body : f.body = [0]) (alone : (s.link l).held = none) (free : s.system.restart = none) :
    s.settleRestart l =
      State.placeReply l { status := .ok, data := .restart true }
        { s with system := { s.system with restart := some { link := l, requested := f.now, replyRead := false } } } := by
  have waits : s.awaitsRestart l = true := by
    simp only [State.awaitsRestart, free, LinkIf.awaitsRestart, handling, alone]
    rfl
  have params : frameParams .restart f.body = some [] := by rw [body]; rfl
  have judged : judge .restart l f.now [] s =
      some ({ s with system := { s.system with restart := some { link := l, requested := f.now, replyRead := false } } },
        { status := .ok, data := .restart true }) := by
    rw [judge, judgeRestart, free]
    rfl
  have settled := State.settle_judged handling (by decide) link params judged
  rw [State.takeHeld_none (by rw [State.placeReply_link]; cases l <;> exact alone)] at settled
  have arranged : (s.settle l).awaitsRestart l = false := by
    rw [settled]
    cases l <;> rfl
  simp only [State.settleRestart, waits, if_true, arranged, Bool.false_eq_true, if_false]
  exact settled

/-- With no RESTART waiting on either link the 100 ms are those of the one arranged (R200). -/
theorem State.onRestartTimeout_still (stillT : s.awaitsRestart .t = false) (stillP : s.awaitsRestart .p = false) (pins : Pins) :
    s.onRestartTimeout pins = if s.restartDue = true then s.start true .restart s.now pins else s := by
  simp only [State.onRestartTimeout, State.settleRestart_still stillT, State.settleRestart_still stillP]
  split
  · rfl
  · rfl

/-- A RESTART that waits on one link alone is the one whose 100 ms count (R200). -/
theorem State.onRestartTimeout_waiting {other : Link} {t : State} (apart : l ≠ other) (settled : s.settleRestart l = t)
    (still : s.awaitsRestart other = false) (free : s.system.restart = none) (pins : Pins) :
    s.onRestartTimeout pins = if t.restartDue = true then t.start true .restart t.now pins else s := by
  have idle : s.restartDue = false := by rw [State.restartDue, free]
  have other_ := State.settleRestart_still still
  cases l <;> cases other
  case t.t | p.p => exact absurd rfl apart
  case t.p => simp only [State.onRestartTimeout, settled, other_, idle, Bool.false_eq_true, if_false]
  case p.t => simp only [State.onRestartTimeout, settled, other_, idle, Bool.false_eq_true, if_false]

end Restart

/-- Settles O60: the four starts, RESTART's arrangement by its reply or its 100 ms, and the losses of the two supplies. -/
theorem startsAndSuppliesSetTheState : Obligations.StartsAndSuppliesSetTheState := by
  refine ⟨fun now pins s => ⟨⟨_, rfl, s.start_startsTo _ _ now pins⟩, fun on => ⟨?pin, fun none_ => ?free, fun r arranged => ?arranged,
    fun l other f apart handling link body alone free quiet => ?waiting⟩⟩, fun s => ⟨rfl, ?loss⟩⟩
  case pin => exact ⟨_, exec_event on now, State.start_startsTo _ true .resetPin now pins⟩
  case free =>
    refine ⟨(exec_event on now).trans (congrArg _ ?_), fun quietT quietP => (exec_event on now).trans (congrArg _ ?_)⟩
    · simp only [State.onRestartRead, none_]
    · refine (State.onRestartTimeout_still ?_ ?_ pins).trans (if_neg ?_)
      · exact (congrArg (_ && ·) quietT).trans (Bool.and_false _)
      · exact (congrArg (_ && ·) quietP).trans (Bool.and_false _)
      · simp only [State.restartDue, none_]
        decide
  case arranged =>
    intro ready
    have holds : (s.link r.link).holdsRestart = true ↔ ready := by
      simp only [LinkIf.holdsRestart, ready]
      cases (s.link r.link).buffer with
      | empty => simp
      | ready reply => simp [Reply.arms]
      | handling => simp
    have read (u : State)
        (outcome : (if r.replyRead || (s.link r.link).holdsRestart then State.start true .restart now pins { s with now := now }
          else { s with now := now }) = u) : exec (.restartWarmStart now pins) s = .next u := by
      refine (exec_event on now).trans (congrArg _ ?_)
      simp only [State.onRestartRead, arranged]
      exact outcome
    have timed (u : State)
        (outcome : (if (!r.replyRead && decide (100000 ≤ (now - r.requested).toNat)) = true
          then State.start true .restart now pins { s with now := now } else { s with now := now }) = u) :
        exec (.restartTimeout now pins) s = .next u := by
      have still (l : Link) : State.awaitsRestart l { s with now := now } = false := by
        simp only [State.awaitsRestart, arranged, Option.isNone_some, Bool.false_and]
      refine (exec_event on now).trans (congrArg _ ((State.onRestartTimeout_still (still .t) (still .p) pins).trans ?_))
      simp only [State.restartDue, arranged]
      exact outcome
    refine ⟨fun due => ⟨_, read _ (if_pos ?_), State.start_startsTo _ true .restart now pins⟩,
      fun unread unready => read _ (if_neg ?_), fun done => timed _ (if_neg ?_), fun unread early => timed _ (if_neg ?_),
      fun unread late => ⟨_, timed _ (if_pos ?_), State.start_startsTo _ true .restart now pins⟩⟩
    · rw [Bool.or_eq_true, holds]
      exact due
    · rw [Bool.or_eq_true, holds, unread]
      simpa using unready
    · simp [done]
    · rw [Bool.and_eq_true, decide_eq_true_eq]
      exact fun h => early.not_ge h.2
    · rw [Bool.and_eq_true, decide_eq_true_eq, unread]
      exact ⟨rfl, late⟩
  case waiting =>
    have settled := State.settleRestart_judges (s := { s with now := now }) (l := l) handling link body alone free
    have still : State.awaitsRestart other { s with now := now } = false :=
      (congrArg (_ && ·) quiet).trans (Bool.and_false _)
    have timed (u : State) (outcome : _ = u) : exec (.restartTimeout now pins) s = .next u :=
      (exec_event on now).trans (congrArg _ ((State.onRestartTimeout_waiting apart settled still free pins).trans outcome))
    generalize judged : State.placeReply l _ _ = t at settled timed
    have due : t.restartDue = decide (100000 ≤ (now - f.now).toNat) ∧ t.now = now := by
      subst judged
      cases l <;> exact ⟨Bool.true_and _, rfl⟩
    have same : t.start true .restart t.now pins = s.start true .restart now pins := by
      rw [due.2]
      subst judged
      refine State.start_congr s true .restart now pins ?_ ?_ ?_ ?_ ?_ ?_ ?_
      all_goals cases l <;> rfl
    refine ⟨fun early => timed _ (if_neg ?_), fun late => ⟨_, timed _ (if_pos ?_), ?_⟩⟩
    · rw [due.1, decide_eq_true_eq]
      exact early.not_ge
    · rw [due.1, decide_eq_true_eq]
      exact late
    · rw [same]
      exact s.start_startsTo true .restart now pins
  case loss =>
    refine ⟨_, rfl, rfl, fun k => State.key_atStart_cal rfl k, fun p => ?_, rfl, rfl, rfl, rfl, rfl, rfl, rfl, rfl, rfl, rfl, rfl,
      fun n => Store.entry_clearMarks s.store n, rfl, rfl⟩
    cases p <;> rfl

end Sys2Proof.Machine
end

section
/-! SUPPORT. One record delivered, a chord gathered, and a playback that halts, stops or continues (R158 to R163, R166, R172). -/

namespace Sys2Proof.Machine

open Sys2Proof

/-! ### Intents beside the Transport -/

section Beside

variable (f : Transport → Transport) (s : State)

/-! A change of the Transport and an intent at the Note Router do not see each other. -/

theorem State.offerTone_modTransport (e : ToneEntry) :
    (s.modTransport f).offerTone e = ((s.offerTone e).1.modTransport f, (s.offerTone e).2) := by
  have tone : (s.modTransport f).tone = s.tone := rfl
  cases e
  case resync => rfl
  all_goals
    simp only [State.offerTone, tone]
    split
    · rfl
    · rfl

theorem State.offerNote_modTransport (e : ToneEntry) (k : Nat) (c : Option Cause) :
    (s.modTransport f).offerNote e k c = ((s.offerNote e k c).1.modTransport f, (s.offerNote e k c).2) := by
  simp only [State.offerNote, State.offerTone_modTransport]
  have router : ((s.offerTone e).1.modTransport f).router = (s.offerTone e).1.router := rfl
  rw [router]
  split
  · rw [← State.panelOffer_modTransport]
  · rfl

theorem State.restrikeOff_modTransport (k : Nat) (o : Source) (m : Time) :
    (s.modTransport f).restrikeOff k o m = (s.restrikeOff k o m).modTransport f := by
  have sound : (s.modTransport f).sound k = s.sound k := rfl
  simp only [State.restrikeOff, sound, State.offerNote_modTransport]
  split
  · rfl
  · rfl

theorem State.onIntent_modTransport (k v : Nat) (source : Source) (transit : Bool) (m : Time) :
    (s.modTransport f).onIntent k v source transit m = (s.onIntent k v source transit m).modTransport f := by
  have sound : (s.modTransport f).sound k = s.sound k := rfl
  simp only [State.onIntent, sound]
  split
  · simp only [State.onSilent, State.offerNote_modTransport]
    split <;> rfl
  · simp only [State.onRestrike, State.restrikeOff_modTransport, State.offerNote_modTransport]
    split <;> rfl

theorem State.silenceWith_modTransport (k v : Nat) (o : Source) (flags : NoteFlags) (c : Option Cause) (m : Time) :
    (s.modTransport f).silenceWith k v o flags c m = (s.silenceWith k v o flags c m).modTransport f := by
  have sound : (s.modTransport f).sound k = s.sound k := rfl
  have silence : (s.modTransport f).silence k = (s.silence k).modTransport f := rfl
  simp only [State.silenceWith, sound, silence, State.offerNote_modTransport]
  split
  · rfl
  · rfl

theorem State.offIntent_modTransport (k v : Nat) (source : Source) (m : Time) :
    (s.modTransport f).offIntent k v source m = (s.offIntent k v source m).modTransport f := by
  have sound : (s.modTransport f).sound k = s.sound k := rfl
  have router : (s.modTransport f).router = s.router := rfl
  have pedals : (s.modTransport f).pedals = s.pedals := rfl
  simp only [State.offIntent, sound, router, pedals, State.silenceWith_modTransport]
  split
  · rfl
  · split
    · rfl
    · split
      · rfl
      · rfl

end Beside

/-! ### The playback values of the pedals -/

section Pedals

variable (s : State)

theorem State.playbackPedal_playback (p : PedalId) (v : Nat) :
    (s.playbackPedal p v).pedals.damper.playback = (if p = .damper then v else s.pedals.damper.playback) ∧
      (s.playbackPedal p v).pedals.soft.playback = (if p = .soft then v else s.pedals.soft.playback) ∧
      (s.playbackPedal p v).pedals.sostenuto.playback =
        (if p = .sostenuto then decide (64 ≤ v) else s.pedals.sostenuto.playback) := by
  cases p <;> simp only [State.playbackPedal, State.recomputeLevel_pedals, State.recomputeSwitch_pedals] <;>
    exact ⟨rfl, rfl, rfl⟩

/-- The levels of the take, restated (R162). -/
theorem State.restatePedals_playback :
    (s.transport.levels.damper ≠ 0 → s.restatePedals.pedals.damper.playback = s.transport.levels.damper) ∧
      (s.transport.levels.soft ≠ 0 → s.restatePedals.pedals.soft.playback = s.transport.levels.soft) ∧
      (s.transport.levels.sostenuto = true → s.restatePedals.pedals.sostenuto.playback = true) := by
  simp only [State.restatePedals]
  generalize s.transport.levels = levels
  have restated (u : State) (p : PedalId) (v : Nat) :
      (if v = 0 then u else u.playbackPedal p v).pedals.damper.playback =
          (if p = .damper ∧ v ≠ 0 then v else u.pedals.damper.playback) ∧
        (if v = 0 then u else u.playbackPedal p v).pedals.soft.playback =
          (if p = .soft ∧ v ≠ 0 then v else u.pedals.soft.playback) ∧
        (if v = 0 then u else u.playbackPedal p v).pedals.sostenuto.playback =
          (if p = .sostenuto ∧ v ≠ 0 then decide (64 ≤ v) else u.pedals.sostenuto.playback) := by
    obtain ⟨damper, soft, sostenuto⟩ := u.playbackPedal_playback p v
    by_cases zero : v = 0
    · simp [zero]
    · simp [zero, damper, soft, sostenuto]
  simp only [pedalOrder, List.foldl_cons, List.foldl_nil, (restated _ _ _).1, (restated _ _ _).2.1, (restated _ _ _).2.2]
  refine ⟨fun some_ => ?_, fun some_ => ?_, fun on => ?_⟩
  · simp [PedalLevels.get, some_]
  · simp [PedalLevels.get, some_]
  · simp [PedalLevels.get, on]

end Pedals

/-! ### The anchor test and the wait behind a delivery -/

section Next

variable (s : State) {base t u : Transport} {times : List Nat}

/-- The anchor test is the one the statements tell (R166). -/
theorem Transport.anchorTest_anchors (t : Transport) (times : List Nat) : t.anchorsTo (t.anchorTest times) times := by
  refine ⟨?_, fun l time loop none_ record at_ first => ?_, fun kept => ?_⟩
  · obtain ⟨_, tested⟩ := t.anchorTest_eq times
    rw [tested]
  · have cursor : (t.anchorTest times).cursor = t.cursor := by
      obtain ⟨_, tested⟩ := t.anchorTest_eq times
      rw [tested]
    have levels : (t.anchorTest times).levels = t.levels := by
      obtain ⟨_, tested⟩ := t.anchorTest_eq times
      rw [tested]
    rw [cursor] at record first
    rw [cursor, levels]
    simp only [Transport.anchorTest, loop, none_, record]
    rw [if_pos ⟨at_, first⟩]
  · have cursor : (t.anchorTest times).cursor = t.cursor := by
      obtain ⟨_, tested⟩ := t.anchorTest_eq times
      rw [tested]
    rw [cursor] at kept
    simp only [Transport.anchorTest]
    split
    next l time loop none_ record =>
      rw [if_neg]
      rintro ⟨at_, first⟩
      rcases kept with held | past
      · exact held none_
      · rcases past l time loop record with early | ⟨later, behind⟩
        · exact early.not_ge at_
        · exact first.elim later behind.not_gt
    · rfl

/-- The anchor test reads the loop and the anchor before, and the cursor, the levels and the anchor after. -/
theorem Transport.anchorsTo.congr {base' u' : Transport} (h : base.anchorsTo u times) (loop : base'.loop = base.loop)
    (anchor : base'.anchor = base.anchor) (loopAfter : u'.loop = u.loop) (cursor : u'.cursor = u.cursor)
    (levels : u'.levels = u.levels) (anchorAfter : u'.anchor = u.anchor) : base'.anchorsTo u' times := by
  rw [Transport.anchorsTo] at h ⊢
  rw [loop, anchor, loopAfter, cursor, levels, anchorAfter]
  exact h

/-- What follows a delivery that leaves the take PLAYING: the anchor test, and the wait for the next record (R158, R166). -/
theorem State.nextRecord_transport :
    ∃ anchor carry w, s.nextRecord.transport = { s.transport with anchor := anchor, carry := carry, wait := some w } ∧
      w.began = s.now ∧ s.transport.anchorsTo s.nextRecord.transport s.takeTimes := by
  have anchors := s.transport.anchorTest_anchors s.takeTimes
  obtain ⟨anchor, tested⟩ := s.transport.anchorTest_eq s.takeTimes
  obtain ⟨carry, w, computed, _, began, _⟩ := s.anchorTest.computeWait_transport
  have anchored : s.anchorTest.transport = { s.transport with anchor := anchor } := tested
  rw [tested] at anchors
  rw [anchored] at computed
  refine ⟨anchor, carry, w, computed, began, ?_⟩
  rw [State.nextRecord, computed]
  exact anchors.congr rfl rfl rfl rfl rfl rfl

end Next

/-! ### A delivery by the kind of its record -/

section Delivery

variable (number : Nat) {r : Record} (w : Wait) (s : State)

/-- The cursor and the take position behind the record (R159). -/
def State.advanced (number : Nat) (w : Wait) (s : State) : State :=
  s.modTransport (fun t => { t with cursor := number + 1, cursorTime := w.target, wait := none })

theorem State.advanced_times : (s.advanced number w).takeTimes = s.takeTimes := rfl

variable {number w s}

theorem State.deliver_sounds {key velocity : Nat} {high : Bool} (payload : r.payload = .noteOn key high velocity)
    (sounds : s.transport.parts.has high = true) :
    s.deliver number r w =
      (((s.advanced number w).onIntent key velocity .playback false s.now).modTransport
        (fun t => { t with delivered := insertNum key t.delivered })).nextRecord := by
  have parts : (s.advanced number w).transport.parts.has high = true := sounds
  simp only [State.deliver, payload]
  exact if_pos parts

theorem State.deliver_gathers {key velocity : Nat} {high : Bool} (payload : r.payload = .noteOn key high velocity)
    (muted : s.transport.parts.has high = false) (waits : s.transport.waitMode = true) (fresh : s.transport.covered number = false) :
    s.deliver number r w = (s.advanced number w).anchorTest.gather number := by
  simp only [State.deliver, payload]
  refine (if_neg ?_).trans (if_pos ?_)
  · exact fun has => Bool.false_ne_true (muted.symm.trans has)
  · have covered : (s.advanced number w).transport.covered number = false := fresh
    have waiting : (s.advanced number w).transport.waitMode = true := waits
    exact (Bool.and_eq_true _ _).mpr ⟨waiting, (congrArg (!·) covered).trans Bool.not_false⟩

theorem State.deliver_passes {key velocity : Nat} {high : Bool} (payload : r.payload = .noteOn key high velocity)
    (muted : s.transport.parts.has high = false) (passes : s.transport.waitMode = false ∨ s.transport.covered number = true) :
    s.deliver number r w = (s.advanced number w).nextRecord := by
  simp only [State.deliver, payload]
  refine (if_neg ?_).trans (if_neg ?_)
  · exact fun has => Bool.false_ne_true (muted.symm.trans has)
  · have covered : (s.advanced number w).transport.covered number = s.transport.covered number := rfl
    have waiting : (s.advanced number w).transport.waitMode = s.transport.waitMode := rfl
    intro gathers
    obtain ⟨waits, fresh⟩ := (Bool.and_eq_true _ _).mp gathers
    rcases passes with off | on
    · exact Bool.false_ne_true (off.symm.trans (waiting.symm.trans waits))
    · exact Bool.false_ne_true ((congrArg (!·) (covered.trans on)).symm.trans fresh)

theorem State.deliver_releases {key velocity : Nat} (payload : r.payload = .noteOff key velocity) (held : key ∈ s.transport.delivered) :
    s.deliver number r w =
      (((s.advanced number w).offIntent key velocity .playback s.now).modTransport
        (fun t => { t with delivered := removeNum key t.delivered })).nextRecord := by
  simp only [State.deliver, payload]
  exact if_pos (List.contains_iff_mem.mpr held)

theorem State.deliver_strayOff {key velocity : Nat} (payload : r.payload = .noteOff key velocity)
    (stray : key ∉ s.transport.delivered) : s.deliver number r w = (s.advanced number w).nextRecord := by
  simp only [State.deliver, payload]
  exact if_neg (fun held => stray (List.contains_iff_mem.mp held))

theorem State.deliver_pedal {p : PedalId} {level : Nat} (payload : r.payload = .pedal p level) :
    s.deliver number r w =
      (((s.advanced number w).modTransport (fun t => { t with levels := t.levels.set p level })).playbackPedal p level).nextRecord := by
  simp only [State.deliver, payload]
  rfl

theorem State.deliver_beat {bar beat : Nat} (payload : r.payload = .beat bar beat) :
    s.deliver number r w =
      (if s.transport.click then (s.advanced number w).beatDelivery { bar := bar, beat := beat }
        else s.advanced number w).nextRecord := by
  simp only [State.deliver, payload]
  rfl

theorem State.deliver_gap (payload : r.payload = .gap) : s.deliver number r w = (s.advanced number w).nextRecord := by
  simp only [State.deliver, payload]
  rfl

theorem State.deliver_ending (payload : r.payload = .ending) :
    s.deliver number r w = (s.advanced number w).stopPlayback .ending := by
  simp only [State.deliver, payload]
  rfl

/-- A record due at its wait's end (R158). -/
theorem State.deliverDue_due {v : State} (wait : v.transport.wait = some w) (record : v.takeRecords[v.transport.cursor]? = some r)
    (due : w.length = 0 ∧ w.towardB = false) : v.deliverDue = v.deliver v.transport.cursor r w := by
  simp only [State.deliverDue, wait, record, if_pos due]

theorem State.deliverDue_waits {v : State} (wait : v.transport.wait = some w) (stands : w.length ≠ 0 ∨ w.towardB = true) :
    v.deliverDue = v := by
  simp only [State.deliverDue, wait]
  split
  next at_ _ =>
    obtain rfl := Option.some.inj at_
    refine if_neg ?_
    rintro ⟨zero, record⟩
    exact stands.elim (· zero) (fun toward => Bool.false_ne_true (record.symm.trans toward))
  · rfl

/-- A record due at once is delivered within the command (R177; assumption 45). -/
theorem State.deliverDue_continues {v : State} (on : v.system.mainOn = true) (playing : v.transport.state = .playing)
    (fresh : ∀ w, v.transport.wait = some w → w.began = v.now) : v.continuesTo v.deliverDue := by
  intro w wait
  refine ⟨fun due => ?_, fun stands => State.deliverDue_waits wait stands⟩
  have over_ : w.over v.now = true := by
    rw [Wait.over, Wait.expiry, due.1, Nat.zero_mul, fresh w wait]
    simp [reached, Time.after]
  refine (exec_event on v.now).trans (congrArg _ ?_)
  have same : ({ v with now := v.now } : State) = v := rfl
  rw [same]
  cases record : v.takeRecords[v.transport.cursor]? with
  | none => simp only [State.onDelivery, playing, wait, record, State.deliverDue]
  | some r =>
    rw [State.deliverDue_due wait record due]
    simp only [State.onDelivery, playing, wait, record, over_, due.2, Bool.not_false, Bool.and_self, if_true]

end Delivery

/-! ### A chord gathered -/

section Gather

theorem mem_insertNum_self (x : Nat) (l : List Nat) : x ∈ insertNum x l := by
  induction l with
  | nil => exact List.mem_singleton_self x
  | cons y ys ih =>
    simp only [insertNum]
    split
    · exact List.mem_cons_self
    · split
      next same => exact same ▸ List.mem_cons_self
      · exact List.mem_cons_of_mem y ih

theorem mem_insertNum_of_mem {x y : Nat} {l : List Nat} (h : y ∈ l) : y ∈ insertNum x l := by
  induction l with
  | nil => exact nomatch h
  | cons z zs ih =>
    simp only [insertNum]
    split
    · exact List.mem_cons_of_mem x h
    · split
      · exact h
      · rcases List.mem_cons.mp h with rfl | tail
        · exact List.mem_cons_self
        · exact List.mem_cons_of_mem z (ih tail)

theorem Chord.take_keeps {c : Chord} {x : Nat} (key number : Nat) (h : x ∈ c.expected) : x ∈ (c.take key number).expected := by
  simp only [Chord.take]
  split
  · exact h
  · split
    · exact mem_insertNum_of_mem h
    · exact h

theorem scanChord_keeps {x : Nat} (parts : Parts) (windowEnd number : Nat) (records : List (Record × Nat)) {c : Chord}
    (h : x ∈ c.expected) : x ∈ (scanChord parts windowEnd number records c).expected := by
  induction records generalizing number c with
  | nil => exact h
  | cons r rest ih =>
    simp only [scanChord]
    split
    · exact h
    · split
      · exact h
      · split
        · exact ih _ h
        · exact ih _ (Chord.take_keeps _ _ h)
      all_goals exact ih _ h

/-- A window ends no earlier than it begins (R172, step 1). -/
theorem Transport.le_windowEnd (t : Transport) (t0 : Nat) : t0 ≤ t.windowEnd t0 := by
  simp only [Transport.windowEnd]
  split
  · split
    next loops => omega
    · omega
  · omega

/-- A scan from a muted NOTE_ON at `t0` takes its key (R172, step 2). -/
theorem scanChord_first {parts : Parts} {windowEnd number t0 : Nat} {r : Record} {rest : List (Record × Nat)} {key velocity : Nat}
    {high : Bool} (inside : t0 ≤ windowEnd) (payload : r.payload = .noteOn key high velocity) (muted : parts.has high = false) :
    key ∈ (scanChord parts windowEnd number ((r, t0) :: rest) { expected := [], overflow := 0, last := number }).expected := by
  simp only [scanChord, if_neg inside.not_gt, payload, muted, Bool.false_eq_true, if_false]
  refine scanChord_keeps _ _ _ _ ?_
  exact mem_insertNum_self key []

/-- Early strikes change the Recent Strikes, the Expected Set and the hits (R172, step 4). -/
theorem State.earlyStrikes_transport (t0 : Nat) (keys : List Nat) (s : State) :
    ∃ recent expected hits, (keys.foldl (State.earlyStrike t0) s).transport =
      { s.transport with recent := recent, expected := expected, hits := hits } := by
  induction keys generalizing s with
  | nil => exact ⟨_, _, _, rfl⟩
  | cons key rest ih =>
    obtain ⟨recent, expected, hits, struck⟩ := ih (State.earlyStrike t0 s key)
    rw [List.foldl_cons, struck]
    simp only [State.earlyStrike]
    split
    · exact ⟨_, _, _, rfl⟩
    · have offered (e : PanelEntry) (u : State) : (u.panelOffer e).transport = u.transport := by simp
      rw [offered]
      exact ⟨_, _, _, rfl⟩

theorem State.earlyStrikes_none (t0 : Nat) (keys : List Nat) {s : State} (none_ : s.transport.recent = []) :
    keys.foldl (State.earlyStrike t0) s = s := by
  induction keys with
  | nil => rfl
  | cons key rest ih =>
    have idle : State.earlyStrike t0 s key = s := by
      simp only [State.earlyStrike, none_, List.reverse_nil, consume]
    rw [List.foldl_cons, idle]
    exact ih

/-- What a gathering leaves of the Transport (R172). -/
theorem State.gather_kept (k0 : Nat) (s : State) :
    (s.gather k0).transport.loop = s.transport.loop ∧ (s.gather k0).transport.anchor = s.transport.anchor ∧
      (s.gather k0).transport.cursor = s.transport.cursor ∧ (s.gather k0).transport.levels = s.transport.levels ∧
      (s.gather k0).transport.delivered = s.transport.delivered := by
  simp only [State.gather]
  generalize scanChord _ _ _ _ _ = c
  obtain ⟨recent, expected, hits, struck⟩ := State.earlyStrikes_transport s.transport.cursorTime c.expected
    (s.modTransport (fun t => { t with
      expected := c.expected, expectOverflow := scoreAdd t.expectOverflow c.overflow,
      mark := some { first := k0, time := s.transport.cursorTime, last := c.last } }))
  generalize c.expected.foldl _ _ = u at struck
  split
  · simp only [State.computeWait, State.modTransport, Transport.computeWait, struck]
    exact ⟨trivial, trivial, trivial, trivial, trivial⟩
  · simp only [State.post, State.modTransport, struck]
    exact ⟨trivial, trivial, trivial, trivial, trivial⟩

/-- With no recent strike a gathering from a muted NOTE_ON waits for it (R172). -/
theorem State.gather_waits {k0 : Nat} {s : State} {r : Record} {key velocity : Nat} {high : Bool} (none_ : s.transport.recent = [])
    (record : s.takeRecords[k0]? = some r) (time : s.takeTimes[k0]? = some s.transport.cursorTime)
    (payload : r.payload = .noteOn key high velocity) (muted : s.transport.parts.has high = false) :
    (s.gather k0).transport.state = .waiting ∧ key ∈ (s.gather k0).transport.expected ∧
      (s.gather k0).transport.waitingCount = some 0 ∧ (s.gather k0).transport.wait = none ∧
      (∃ m, (s.gather k0).transport.mark = some m ∧ m.first = k0 ∧ m.time = s.transport.cursorTime) ∧
      (s.gather k0).announces .transport := by
  obtain ⟨inRecords, recordAt⟩ := List.getElem?_eq_some_iff.mp record
  obtain ⟨inTimes, timeAt⟩ := List.getElem?_eq_some_iff.mp time
  have zipped : (s.takeRecords.zip s.takeTimes).drop k0 =
      (r, s.transport.cursorTime) :: (s.takeRecords.zip s.takeTimes).drop (k0 + 1) := by
    rw [List.drop_eq_getElem_cons (by rw [List.length_zip]; exact lt_min inRecords inTimes), List.getElem_zip, recordAt, timeAt]
  have taken := scanChord_first (number := k0) (rest := (s.takeRecords.zip s.takeTimes).drop (k0 + 1))
    (s.transport.le_windowEnd s.transport.cursorTime) payload muted
  simp only [State.gather, zipped]
  generalize scanChord _ _ _ _ _ = c at taken ⊢
  rw [State.earlyStrikes_none _ _ (by exact none_)]
  rw [if_neg (by
    rw [List.isEmpty_iff]
    exact List.ne_nil_of_mem taken)]
  exact ⟨rfl, taken, rfl, rfl, ⟨_, rfl, rfl, rfl⟩, State.post_announces _ _⟩

end Gather

end Sys2Proof.Machine
end

section
/-! PROOFS. TAKE_STOP with GAP expiries overdue in a recording whose position runs ahead of its last record (R136, R155). -/

namespace Sys2Proof.Machine

open Sys2Proof

/-- The cause with which the Transport last returned to IDLE, after a command that goes on. -/
def lastEndAfter : Host.Outcome State Fault Refusal → Option EndCause
  | .next t => t.transport.lastEnd
  | .fault _ => none
  | .refused _ => none

theorem lastEndAfter_okFor (f : Frame) (data : ReplyData) (u : State) : lastEndAfter (okFor f data u) = u.transport.lastEnd := by
  simp [lastEndAfter, okFor, answered, State.placeReply]

/-- A recording with two slots left, no free block, and a position 8,190.001 ms ahead of a last record at 0. -/
def farAhead : State :=
  { State.reset with
    transport := { Transport.initial with state := .recording, take := some 1 }
    store :=
      { Store.initial.setEntry 1 (some
          { state := .recording, flags := {}, count := 30, duration := 0, tempo := none, split := 45, name := none, serial := 1,
            first := 0, last := 0, playing := false, exporting := false }) with
        freeList := []
        recording := some
          { take := 1, started := true, position := 8190001, lastTime := 0, lastStamp := 0, openNotes := [],
            levels := PedalLevels.zero } } }

/-- A TAKE_STOP half a time base round after the recording's last stamp. -/
def lateStop : Frame := { now := 2147483648, link := .t, address := 0, body := [0], deferred := false }

theorem farAhead_takes : farAhead.canTake lateStop [] := ⟨rfl, rfl, nofun, rfl, by decide, rfl⟩

/-- The two GAP expiries that the stop finds overdue fill the last block. -/
theorem farAhead_overdue : (Store.writeOverdue lateStop.now farAhead.store).2 = false := by decide +kernel

/-- Behind them the stop's closing finds more overdue, and the first of those meets the reserve line. -/
theorem farAhead_ends : lastEndAfter (exec (.takeStop lateStop) farAhead) = some .reserve := by decide +kernel

/-- Refutes O51: GAP expiries are reckoned twice at a TAKE_STOP, once ahead of its judgement and once in the closing. In a recording
whose position lies ahead of its last record by more than a GAP the first run moves the last stamp, the second then finds more
expiries overdue, and one that meets the reserve line ends the recording with cause RESERVE, where the statement says STOP. -/
theorem not_transportControlsFollowTheState : ¬ Obligations.TransportControlsFollowTheState := by
  intro claim
  obtain ⟨_, _, stops, _⟩ := claim lateStop [] farAhead farAhead_takes
  obtain ⟨u, stopped, _, _, cause, _⟩ := stops (.inr rfl) farAhead_overdue
  have reserve := farAhead_ends
  rw [stopped, lastEndAfter_okFor, cause] at reserve
  exact nomatch reserve

end Sys2Proof.Machine
end

section
/-! PROOFS. A seek that lands, and the record at the cursor delivered by its kind (R159, R163, R164, R166, R172). -/

namespace Sys2Proof.Machine

open Sys2Proof

/-! ### A playback stops -/

section Stopping

variable (cause : EndCause) (s : State)

/-- A playback that stops marks its take and touches no byte of take memory (R163). -/
theorem State.stopPlayback_store : (s.stopPlayback cause).store = s.store.setPlaying (s.transport.take.getD 0) false := by
  simp only [State.stopPlayback]
  split <;> simp [State.modTransport, State.modStore]

/-- A playback that stops leaves the Transport in IDLE and no key of its own sounding (R163). -/
theorem State.stopPlayback_stops :
    (s.stopPlayback cause).transport.state = .idle ∧ (s.stopPlayback cause).transport.lastEnd = some cause ∧
      (s.stopPlayback cause).announces .transport ∧ (s.stopPlayback cause).unplayed := by
  refine ⟨?_, ?_, State.post_announces _ _, ?_⟩
  · simp [State.stopPlayback, State.modTransport, Transport.toIdle]
  · simp [State.stopPlayback, State.modTransport, Transport.toIdle]
  · refine State.unplayed_congr (s := (s.modTransport (fun t => { t with wait := none, seek := none })).hushed .playbackStop) ?_
      (State.hushed_unplayed _ _)
    simp only [State.stopPlayback]
    split <;> simp [State.hushed, State.modTransport, State.modStore]

end Stopping

/-! ### What a delivery leaves of take memory -/

theorem State.deliver_memory (number : Nat) (r : Record) (w : Wait) (s : State) :
    (s.deliver number r w).store.memory = s.store.memory := by
  simp only [State.deliver]
  (repeat' split) <;> simp [State.modTransport, State.stopPlayback_store]

theorem State.deliverDue_memory (s : State) : s.deliverDue.store.memory = s.store.memory := by
  simp only [State.deliverDue]
  split
  · split
    · exact State.deliver_memory _ _ _ s
    · rfl
  · rfl

/-! ### A seek lands -/

section Landing

variable (k : Seek) (s : State)

/-- The Transport on the landing record, its anchor tested (R164, R166). -/
def State.landed (k : Seek) (s : State) : State :=
  (s.modTransport (fun t =>
    { t with
      cursor := landing s.takeTimes k.target, cursorTime := k.target, carry := 0
      levels := scanLevels (s.takeRecords.take (landing s.takeTimes k.target)), seek := none })).anchorTest

/-- A landing changes the Transport alone, and there the anchor by its test. -/
theorem State.landed_eq :
    ∃ anchor, s.landed k =
      { s with
        transport :=
          { s.transport with
            cursor := landing s.takeTimes k.target, cursorTime := k.target, carry := 0
            levels := scanLevels (s.takeRecords.take (landing s.takeTimes k.target)), seek := none, anchor := anchor } } := by
  obtain ⟨anchor, tested⟩ := Transport.anchorTest_eq
    { s.transport with
      cursor := landing s.takeTimes k.target, cursorTime := k.target, carry := 0
      levels := scanLevels (s.takeRecords.take (landing s.takeTimes k.target)), seek := none } s.takeTimes
  exact ⟨anchor, congrArg (fun t => { s with transport := t }) tested⟩

theorem State.landed_anchors : s.transport.anchorsTo (s.landed k).transport s.takeTimes :=
  (Transport.anchorTest_anchors
    { s.transport with
      cursor := landing s.takeTimes k.target, cursorTime := k.target, carry := 0
      levels := scanLevels (s.takeRecords.take (landing s.takeTimes k.target)), seek := none } s.takeTimes).congr
    rfl rfl rfl rfl rfl rfl

/-- The take goes on from where it stands: its pedals restated, PLAYING, and the wait for the record at the cursor (R162). -/
def State.resumed (s : State) : State :=
  ((s.restatePedals.modTransport (fun t => { t with state := .playing, carry := 0 })).computeWait).post .transport

theorem State.continueTake_eq : s.continueTake = s.resumed.deliverDue := rfl

theorem State.completeSeek_eq :
    s.completeSeek k =
      if k.pausePending then ((s.landed k).modTransport (fun t => { t with state := .paused })).post .transport
      else (s.landed k).resumed.deliverDue := rfl

theorem State.resumed_transport :
    ∃ carry w, s.resumed.transport = { s.transport with state := .playing, carry := carry, wait := some w } ∧
      w.fromTime = s.transport.cursorTime ∧ w.began = s.now ∧ w.speed = s.transport.speed ∧
      w.length = (w.target - s.transport.cursorTime) * 100 / s.transport.speed ∧
      (w.towardB = false → w.target = s.takeTimes.getD s.transport.cursor s.transport.cursorTime) := by
  obtain ⟨carry, w, computed, fromTime, began, speed, length, target⟩ :=
    (s.restatePedals.modTransport (fun t => { t with state := .playing, carry := 0 })).computeWait_transport
  have resumed : s.resumed.transport = _ := computed
  have store : s.restatePedals.store = s.store := by simp
  have transport : s.restatePedals.transport = s.transport := by simp
  have now : s.restatePedals.now = s.now := by simp
  simp only [State.modTransport, transport] at resumed fromTime speed
  simp only [State.modTransport, transport, Nat.add_zero] at length
  simp only [State.modTransport, now] at began
  simp only [State.modTransport, transport, State.takeTimes, State.takeRecords, store] at target
  exact ⟨carry, w, resumed, fromTime, began, speed, length, target⟩

/-- What goes on besides: the store, the rail and the scanner as they stood. -/
theorem State.resumed_frame :
    s.resumed.now = s.now ∧ s.resumed.system = s.system ∧ s.resumed.store = s.store ∧ s.resumed.rail = s.rail ∧
      s.resumed.scanner = s.scanner := by
  simp [State.resumed]

/-- The scan has not reached its record (R164). -/
theorem State.onSeek_early (seeking : s.transport.state = .seeking) (some_ : s.transport.seek = some k)
    (early : elapsed s.now k.began < scanMicros (landing s.takeTimes k.target)) : s.onSeek = s := by
  simp only [State.onSeek, seeking, some_]
  exact if_neg early.not_ge

theorem State.onSeek_due (seeking : s.transport.state = .seeking) (some_ : s.transport.seek = some k)
    (due : scanMicros (landing s.takeTimes k.target) ≤ elapsed s.now k.began) : s.onSeek = s.completeSeek k := by
  simp only [State.onSeek, seeking, some_]
  exact if_pos due

end Landing

/-! ### One record delivered -/

section Delivering

variable {number : Nat} {r : Record} {w : Wait} {s t u : State} {delivered : List Nat} {levels : PedalLevels}

/-- A delivery that leaves the take PLAYING: the cursor and the position behind the record, the anchor test, and the next wait. -/
def State.follows (s : State) (number : Nat) (w : Wait) (delivered : List Nat) (levels : PedalLevels) (t : State) : Prop :=
  (∃ anchor carry next, next.began = s.now ∧ t.transport =
    { s.transport with
      cursor := number + 1, cursorTime := w.target, delivered := delivered, levels := levels, anchor := anchor,
      carry := carry, wait := some next }) ∧
    s.transport.anchorsTo t.transport s.takeTimes

theorem State.nextRecord_follows (store : u.store = s.store) (now : u.now = s.now)
    (transport : u.transport =
      { s.transport with
        cursor := number + 1, cursorTime := w.target, wait := none, delivered := delivered, levels := levels }) :
    s.follows number w delivered levels u.nextRecord := by
  obtain ⟨anchor, carry, next, next_, began, anchors⟩ := u.nextRecord_transport
  have times : u.takeTimes = s.takeTimes := by simp only [State.takeTimes, State.takeRecords, store, transport]
  rw [times] at anchors
  refine ⟨⟨anchor, carry, next, began.trans now, ?_⟩, ?_⟩
  · rw [next_, transport]
  · refine anchors.congr ?_ ?_ rfl rfl rfl rfl
    · rw [transport]
    · rw [transport]

theorem State.follows.playing (h : s.follows number w delivered levels t) (playing : s.transport.state = .playing) :
    t.transport.state = .playing ∧ t.transport.cursor = number + 1 ∧ t.transport.cursorTime = w.target ∧
      ∃ next, t.transport.wait = some next ∧ next.began = s.now := by
  obtain ⟨⟨anchor, carry, next, began, transport⟩, _⟩ := h
  rw [transport]
  exact ⟨playing, rfl, rfl, next, rfl, began⟩

theorem State.delivered_of_follows (h : s.follows number w delivered levels t) : t.transport.delivered = delivered := by
  obtain ⟨⟨_, _, _, _, transport⟩, _⟩ := h
  rw [transport]

theorem State.levels_of_follows (h : s.follows number w delivered levels t) : t.transport.levels = levels := by
  obtain ⟨⟨_, _, _, _, transport⟩, _⟩ := h
  rw [transport]

/-- A record with nothing to do: the next one follows. -/
theorem State.advanced_follows : s.follows number w s.transport.delivered s.transport.levels (s.advanced number w).nextRecord :=
  State.nextRecord_follows rfl rfl rfl

theorem State.advanced_kept :
    (s.advanced number w).nextRecord.router = s.router ∧ (s.advanced number w).nextRecord.tone = s.tone ∧
      (s.advanced number w).nextRecord.pedals = s.pedals := by
  simp [State.advanced, State.modTransport]

/-- A NOTE_ON of a part that sounds (R159). -/
theorem State.deliver_sounded {key velocity : Nat} {high : Bool} (payload : r.payload = .noteOn key high velocity)
    (sounds : s.transport.parts.has high = true) :
    s.follows number w (insertNum key s.transport.delivered) s.transport.levels (s.deliver number r w) ∧
      (s.deliver number r w).router = (s.onIntent key velocity .playback false s.now).router ∧
      (s.deliver number r w).tone = (s.onIntent key velocity .playback false s.now).tone := by
  rw [State.deliver_sounds payload sounds, State.advanced, State.onIntent_modTransport]
  refine ⟨State.nextRecord_follows ?_ ?_ ?_, ?_, ?_⟩
  · simp [State.modTransport]
  · simp [State.modTransport]
  · simp [State.modTransport]
  · simp [State.modTransport]
  · simp [State.modTransport]

/-- A NOTE_OFF of a key that the playback delivered (R159). -/
theorem State.deliver_released {key velocity : Nat} (payload : r.payload = .noteOff key velocity)
    (held : key ∈ s.transport.delivered) :
    s.follows number w (removeNum key s.transport.delivered) s.transport.levels (s.deliver number r w) ∧
      (s.deliver number r w).router = (s.offIntent key velocity .playback s.now).router ∧
      (s.deliver number r w).tone = (s.offIntent key velocity .playback s.now).tone := by
  rw [State.deliver_releases payload held, State.advanced, State.offIntent_modTransport]
  refine ⟨State.nextRecord_follows ?_ ?_ ?_, ?_, ?_⟩
  · simp [State.modTransport]
  · simp [State.modTransport]
  · simp [State.modTransport]
  · simp [State.modTransport]
  · simp [State.modTransport]

/-- A PEDAL record (R159). -/
theorem State.deliver_pedalled {p : PedalId} {level : Nat} (payload : r.payload = .pedal p level) :
    s.follows number w s.transport.delivered (s.transport.levels.set p level) (s.deliver number r w) ∧
      (s.deliver number r w).pedals =
        (((s.advanced number w).modTransport
          (fun t => { t with levels := t.levels.set p level })).playbackPedal p level).pedals := by
  rw [State.deliver_pedal payload]
  refine ⟨State.nextRecord_follows ?_ ?_ ?_, ?_⟩
  · simp [State.advanced, State.modTransport]
  · simp [State.advanced, State.modTransport]
  · simp [State.advanced, State.modTransport]
  · simp

/-- A BEAT record (R123, R125, R159). -/
theorem State.deliver_counted {bar beat : Nat} (payload : r.payload = .beat bar beat) :
    s.follows number w s.transport.delivered s.transport.levels (s.deliver number r w) ∧
      (s.deliver number r w).router = s.router ∧ (s.deliver number r w).pedals = s.pedals ∧
      (s.deliver number r w).tone = s.tone := by
  rw [State.deliver_beat payload]
  split
  · refine ⟨State.nextRecord_follows ?_ ?_ ?_, ?_⟩
    · simp [State.advanced, State.modTransport]
    · simp [State.advanced, State.modTransport]
    · simp [State.advanced, State.modTransport]
    · simp [State.advanced, State.modTransport]
  · obtain ⟨router, tone, pedals⟩ := State.advanced_kept (number := number) (w := w) (s := s)
    exact ⟨State.advanced_follows, router, pedals, tone⟩

/-- A BEAT record that the beat clock follows (R123, R125). -/
theorem State.deliver_clicks {bar beat : Nat} (payload : r.payload = .beat bar beat) (click : s.transport.click = true)
    (following : s.audio.clock = .following) :
    (s.deliver number r w).audio =
        { s.audio with
          counter := some { bar := bar, beat := beat },
          click := some { first := decide (beat = 1), amplitude := none, index := 0 } } ∧
      (s.deliver number r w).panel.stream =
        s.panel.stream ++
          (if s.audio.metro.beatCopy = true ∧ s.panel.stream.length < 64 then
            [.beat { bar := bar, beat := beat } s.now .following] else []) := by
  have beats : (s.advanced number w).beatDelivery { bar := bar, beat := beat } =
      (s.advanced number w).beat { bar := bar, beat := beat } := if_pos following
  rw [State.deliver_beat payload, if_pos click, beats]
  have audio (v : State) : v.nextRecord.audio = v.audio := by simp
  have panel (v : State) : v.nextRecord.panel = v.panel := by simp
  rw [audio, panel, State.beat_audio, State.beat_stream, ← following]
  exact ⟨rfl, rfl⟩

theorem State.deliver_silent {bar beat : Nat} (payload : r.payload = .beat bar beat)
    (quiet : s.transport.click = false ∨ s.audio.clock ≠ .following) :
    (s.deliver number r w).audio = s.audio ∧ (s.deliver number r w).panel = s.panel := by
  have idle : (if s.transport.click then (s.advanced number w).beatDelivery { bar := bar, beat := beat }
      else s.advanced number w) = s.advanced number w := by
    rcases quiet with off | free
    · exact if_neg (fun on => Bool.false_ne_true (off.symm.trans on))
    · exact (congrArg (fun v => if s.transport.click then v else _) (if_neg free)).trans (ite_self _)
  rw [State.deliver_beat payload, idle]
  simp [State.advanced, State.modTransport]

/-- A muted NOTE_ON with wait mode off, or of a chord already gathered, passes (R159, R172). -/
theorem State.deliver_muted {key velocity : Nat} {high : Bool} (payload : r.payload = .noteOn key high velocity)
    (muted : s.transport.parts.has high = false) :
    s.transport.anchorsTo (s.deliver number r w).transport s.takeTimes ∧ (s.deliver number r w).router = s.router ∧
      (s.deliver number r w).tone = s.tone ∧ (s.deliver number r w).pedals = s.pedals ∧
      (s.deliver number r w).transport.delivered = s.transport.delivered ∧
      (s.deliver number r w).transport.cursor = number + 1 ∧
      (s.transport.waitMode = false → (s.deliver number r w).transport.state = s.transport.state) := by
  by_cases passes : s.transport.waitMode = false ∨ s.transport.covered number = true
  · rw [State.deliver_passes payload muted passes]
    obtain ⟨router, tone, pedals⟩ := State.advanced_kept (number := number) (w := w) (s := s)
    obtain ⟨⟨_, _, _, _, transport⟩, anchors⟩ := State.advanced_follows (number := number) (w := w) (s := s)
    refine ⟨anchors, router, tone, pedals, ?_, ?_, fun _ => ?_⟩
    · rw [transport]
    · rw [transport]
    · rw [transport]
  · obtain ⟨waits, fresh⟩ := not_or.mp passes
    rw [State.deliver_gathers payload muted (Bool.eq_true_of_not_eq_false waits) (Bool.eq_false_of_not_eq_true fresh)]
    obtain ⟨loop, anchor, cursor, levels, delivered⟩ := State.gather_kept number (s.advanced number w).anchorTest
    obtain ⟨tested, anchored⟩ := Transport.anchorTest_eq (s.advanced number w).transport s.takeTimes
    have anchors : s.transport.anchorsTo (s.advanced number w).anchorTest.transport s.takeTimes :=
      (Transport.anchorTest_anchors (s.advanced number w).transport s.takeTimes).congr rfl rfl rfl rfl rfl rfl
    have after : (s.advanced number w).anchorTest.transport = _ := anchored
    refine ⟨anchors.congr rfl rfl loop cursor levels anchor, ?_, ?_, ?_, ?_, ?_, fun off => absurd off waits⟩
    · simp [State.advanced, State.modTransport]
    · simp [State.advanced, State.modTransport]
    · simp [State.advanced, State.modTransport]
    · rw [delivered, after]
      rfl
    · rw [cursor, after]
      rfl

/-- A muted NOTE_ON that begins a chord to wait for (R172). -/
theorem State.deliver_waits {key velocity : Nat} {high : Bool} (payload : r.payload = .noteOn key high velocity)
    (muted : s.transport.parts.has high = false) (waits : s.transport.waitMode = true) (unmarked : s.transport.mark = none)
    (none_ : s.transport.recent = []) (record : s.takeRecords[number]? = some r) (time : s.takeTimes[number]? = some w.target) :
    (s.deliver number r w).transport.state = .waiting ∧ key ∈ (s.deliver number r w).transport.expected ∧
      (s.deliver number r w).transport.waitingCount = some 0 ∧ (s.deliver number r w).transport.wait = none ∧
      (∃ m, (s.deliver number r w).transport.mark = some m ∧ m.first = number ∧ m.time = w.target) ∧
      (s.deliver number r w).announces .transport := by
  have fresh : s.transport.covered number = false := by simp only [Transport.covered, unmarked]
  rw [State.deliver_gathers payload muted waits fresh]
  obtain ⟨anchor, anchored⟩ := Transport.anchorTest_eq (s.advanced number w).transport s.takeTimes
  have after : (s.advanced number w).anchorTest.transport =
      { (s.advanced number w).transport with anchor := anchor } := anchored
  have records : (s.advanced number w).anchorTest.takeRecords = s.takeRecords := by
    rw [State.takeRecords, after]
    rfl
  have position : (s.advanced number w).anchorTest.transport.cursorTime = w.target := by
    rw [after]
    rfl
  rw [← position] at time ⊢
  refine State.gather_waits ?_ (records ▸ record) ?_ payload ?_
  · rw [after]
    exact none_
  · rw [State.takeTimes, records]
    exact time
  · rw [after]
    exact muted

/-- The anchor test stands behind each delivery but that of the END (R166). -/
theorem State.deliver_anchors (goes : r.payload ≠ .ending) :
    s.transport.anchorsTo (s.deliver number r w).transport s.takeTimes := by
  cases payload : r.payload with
  | noteOn key high velocity =>
    cases sounds : s.transport.parts.has high with
    | true => exact (State.deliver_sounded payload sounds).1.2
    | false => exact (State.deliver_muted payload sounds).1
  | noteOff key velocity =>
    by_cases held : key ∈ s.transport.delivered
    · exact (State.deliver_released payload held).1.2
    · exact State.deliver_strayOff payload held ▸ State.advanced_follows.2
  | pedal p level => exact (State.deliver_pedalled payload).1.2
  | beat bar beat => exact (State.deliver_counted payload).1.2
  | gap => exact State.deliver_gap payload ▸ State.advanced_follows.2
  | ending => exact absurd payload goes

/-- Each delivery but that of a NOTE_ON and of the END leaves the take PLAYING (R159). -/
theorem State.deliver_plays (playing : s.transport.state = .playing) (goes : r.payload ≠ .ending)
    (note : ∀ key high velocity, r.payload ≠ .noteOn key high velocity) :
    (s.deliver number r w).transport.state = .playing ∧ (s.deliver number r w).transport.cursor = number + 1 ∧
      (s.deliver number r w).transport.cursorTime = w.target ∧
      ∃ next, (s.deliver number r w).transport.wait = some next ∧ next.began = s.now := by
  cases payload : r.payload with
  | noteOn key high velocity => exact absurd payload (note key high velocity)
  | noteOff key velocity =>
    by_cases held : key ∈ s.transport.delivered
    · exact (State.deliver_released payload held).1.playing playing
    · exact State.deliver_strayOff payload held ▸ State.advanced_follows.playing playing
  | pedal p level => exact (State.deliver_pedalled payload).1.playing playing
  | beat bar beat => exact (State.deliver_counted payload).1.playing playing
  | gap => exact State.deliver_gap payload ▸ State.advanced_follows.playing playing
  | ending => exact absurd payload goes

/-- The wait for a record has not expired (R158). -/
theorem State.onDelivery_early (playing : s.transport.state = .playing) (wait : s.transport.wait = some w)
    (early : w.over s.now = false) : s.onDelivery = s := by
  simp only [State.onDelivery, playing, wait]
  split
  next same _ =>
    obtain rfl := Option.some.inj same
    rw [early, Bool.false_and, if_neg Bool.false_ne_true]
  · rfl

theorem State.onDelivery_due (playing : s.transport.state = .playing) (wait : s.transport.wait = some w)
    (toward : w.towardB = false) (record : s.takeRecords[s.transport.cursor]? = some r) (due : w.over s.now = true) :
    s.onDelivery = s.deliver s.transport.cursor r w := by
  simp only [State.onDelivery, playing, wait, record, due, toward, Bool.not_false, Bool.and_self, if_true]

end Delivering

/-! ### O52 -/

/-- Settles O52: a landing is an anchor test and a continuation, and a delivery one equation for each kind of record. -/
theorem seeksLandAndRecordsAreDelivered : Obligations.SeeksLandAndRecordsAreDelivered := by
  refine ⟨fun now k s on seeking some_ => ?_, fun now w r s on playing wait toward record => ?_⟩
  · refine ⟨fun early => ?_, fun due => ?_⟩
    · exact (exec_event on now).trans
        (congrArg _ (State.onSeek_early k { s with now := now } seeking some_ early))
    · have lands : exec (.seekComplete now) s = .next (State.completeSeek k { s with now := now }) :=
        (exec_event on now).trans (congrArg _ (State.onSeek_due k { s with now := now } seeking some_ due))
      have anchors := State.landed_anchors k { s with now := now }
      obtain ⟨anchor, landed⟩ := State.landed_eq k { s with now := now }
      rw [State.completeSeek_eq] at lands
      cases pausePending : k.pausePending with
      | true =>
        rw [if_pos pausePending] at lands
        generalize paused : State.post _ _ = v at lands
        refine ⟨v, v, lands, ?_⟩
        rw [landed] at anchors paused
        rw [← paused]
        refine ⟨rfl, rfl, rfl, rfl, rfl, rfl, rfl, rfl, rfl, anchors, fun _ => ⟨rfl, rfl, rfl, rfl⟩, nofun,
          State.post_announces _ _, rfl, rfl, rfl⟩
      | false =>
        rw [if_neg (fun paused => Bool.false_ne_true (pausePending.symm.trans paused))] at lands
        obtain ⟨carry, next, transport, fromTime, began, speed, length, target⟩ :=
          State.resumed_transport (State.landed k { s with now := now })
        obtain ⟨nowOf, system, store, rail, scanner⟩ := State.resumed_frame (State.landed k { s with now := now })
        rw [landed] at anchors transport fromTime began speed length target nowOf system store rail scanner lands
        generalize resumed : State.resumed _ = v at transport nowOf system store rail scanner lands
        refine ⟨v, _, lands, ?_⟩
        rw [transport]
        refine ⟨rfl, rfl, rfl, rfl, nowOf, system, store, rail, scanner, anchors, nofun, fun _ => ⟨?_, rfl, ?_⟩, ?_, ?_, ?_,
          ?_⟩
        · refine State.deliverDue_continues (system ▸ on) ?_ ?_
          · rw [transport]
          · intro w wait
            rw [transport] at wait
            exact (Option.some.inj wait) ▸ began.trans nowOf.symm
        · exact ⟨next, rfl, fromTime, began, speed, length, target⟩
        · exact (Leads.deliverDue .refl).noticesStay.announces (resumed ▸ State.post_announces _ _)
        · rw [State.deliverDue_memory, store]
        · simp [rail]
        · simp [scanner]
  · refine ⟨fun early => ?_, fun due => ?_⟩
    · exact (exec_event on now).trans
        (congrArg _ (State.onDelivery_early (s := { s with now := now }) playing wait early))
    · intro here
      have delivers : exec (.recordDelivery now) s = .next (here.deliver s.transport.cursor r w) :=
        (exec_event on now).trans (congrArg _ (State.onDelivery_due (s := here) playing wait toward record due))
      refine ⟨_, delivers, State.deliver_memory _ _ _ here, by simp [here], by simp [here],
        State.deliver_anchors (s := here), State.deliver_plays (s := here) playing, fun gap => ?_, fun bar beat payload => ?_,
        fun payload => ?_, fun key high velocity payload sounds => ?_, fun key high velocity payload muted => ?_,
        fun key velocity payload => ⟨fun held => ?_, fun stray => ?_⟩, fun level payload => ?_, fun level payload => ?_,
        fun level payload => ?_⟩
      · rw [State.deliver_gap gap]
        obtain ⟨router, tone, pedals⟩ := State.advanced_kept (number := s.transport.cursor) (w := w) (s := here)
        exact ⟨router, pedals, tone⟩
      · obtain ⟨_, router, pedals, tone⟩ := State.deliver_counted (number := s.transport.cursor) (w := w) (s := here) payload
        exact ⟨router, pedals, tone, State.deliver_clicks (s := here) payload, State.deliver_silent (s := here) payload⟩
      · rw [State.deliver_ending payload]
        exact State.stopPlayback_stops .ending _
      · obtain ⟨follows, router, tone⟩ :=
          State.deliver_sounded (number := s.transport.cursor) (w := w) (s := here) payload sounds
        obtain ⟨state, cursor, time, _⟩ := follows.playing playing
        exact ⟨router, tone, State.delivered_of_follows follows, state, cursor, time⟩
      · obtain ⟨_, router, tone, pedals, delivered, cursor, state⟩ :=
          State.deliver_muted (number := s.transport.cursor) (w := w) (s := here) payload muted
        exact ⟨router, tone, pedals, delivered, cursor, fun off => (state off).trans playing,
          fun waits unmarked none_ time => State.deliver_waits (s := here) payload muted waits unmarked none_ record time⟩
      · obtain ⟨follows, router, tone⟩ :=
          State.deliver_released (number := s.transport.cursor) (w := w) (s := here) payload held
        exact ⟨router, tone, State.delivered_of_follows follows⟩
      · rw [State.deliver_strayOff (s := here) payload stray]
        obtain ⟨router, tone, _⟩ := State.advanced_kept (number := s.transport.cursor) (w := w) (s := here)
        exact ⟨router, tone, State.delivered_of_follows State.advanced_follows⟩
      · obtain ⟨follows, pedals⟩ := State.deliver_pedalled (number := s.transport.cursor) (w := w) (s := here) payload
        refine ⟨State.levels_of_follows follows, ?_⟩
        rw [pedals]
        exact (State.playbackPedal_playback _ _ _).1
      · obtain ⟨follows, pedals⟩ := State.deliver_pedalled (number := s.transport.cursor) (w := w) (s := here) payload
        refine ⟨State.levels_of_follows follows, ?_⟩
        rw [pedals]
        exact (State.playbackPedal_playback _ _ _).2.1
      · obtain ⟨follows, pedals⟩ := State.deliver_pedalled (number := s.transport.cursor) (w := w) (s := here) payload
        refine ⟨State.levels_of_follows follows, ?_⟩
        rw [pedals]
        exact (State.playbackPedal_playback _ _ _).2.2

end Sys2Proof.Machine
end

section
/-! PROOFS. The recording clock: GAP expiries, the reserve line and the duration limit (R136, R138, R139, R155). -/

namespace Sys2Proof.Machine

open Sys2Proof

/-! ### A recording runs, and has ended -/

/-- The recording runs into take `n`, whose entry holds `flags`. -/
def Store.Running (n : Nat) (flags : TakeFlags) (u : Store) : Prop :=
  (∃ d, u.recording = some d ∧ d.take = n ∧ d.started = true) ∧ ∃ e, u.entry n = some e ∧ e.flags = flags

/-- The recording into take `n` has ended, its entry CLOSED with `flags`. -/
def Store.Ended (n : Nat) (flags : TakeFlags) (u : Store) : Prop :=
  u.recording = none ∧ ∃ e, u.entry n = some e ∧ e.state = .closed ∧ e.flags = flags

section Runs

variable {st u : Store} {n keep : Nat} {flags : TakeFlags} {e : Take} {r : Record}

/-- An appended record keeps the flags of its take (R138). -/
theorem Store.append_flags (own : 1 ≤ n ∧ n ≤ 16) (entry : st.entry n = some e) (appended : st.append n keep r = some u) :
    ∃ d, u.entry n = some d ∧ d.flags = e.flags := by
  have written (base : Store) (t : Take) (same : t.flags = e.flags) :
      ∃ d, (base.writeSlot n t r).entry n = some d ∧ d.flags = e.flags :=
    ⟨_, (Store.entry_setEntry _ n n _).trans (if_pos ⟨rfl, own⟩), same⟩
  rw [Store.append_of_entry entry] at appended
  split at appended
  · split at appended
    · cases free : st.freeList with
      | nil => simp [Store.allocate, free] at appended
      | cons b blocks =>
        simp only [Store.allocate, free, Option.map_some, Option.some.injEq] at appended
        exact appended ▸ written _ _ rfl
    · exact nomatch appended
  · exact Option.some.inj appended ▸ written st e rfl

theorem Store.Running.writeAt {p : Payload} {position : Nat} {stamp : Time} (own : 1 ≤ n ∧ n ≤ 16) (h : st.Running n flags)
    (written : st.writeAt keep p position stamp = some u) : u.Running n flags := by
  obtain ⟨⟨c, recording, rfl, started⟩, e, entry, rfl⟩ := h
  simp only [Store.writeAt, recording, Option.map_eq_some_iff] at written
  obtain ⟨v, appended, rfl⟩ := written
  obtain ⟨take, start, _⟩ :=
    RecordingContext.noted_frame { c with position := position, lastTime := position / 1000, lastStamp := stamp } p
  obtain ⟨d, after, held⟩ := Store.append_flags own entry appended
  exact ⟨⟨_, rfl, take, start.trans started⟩, d, after, held⟩

theorem Store.Running.writeClosing (own : 1 ≤ n ∧ n ≤ 16) (h : st.Running n flags) (position : Nat) (stamp : Time) (p : Payload) :
    (st.writeClosing position stamp p).Running n flags := by
  rw [Store.writeClosing]
  cases written : st.writeAt 0 p position stamp with
  | none => exact h
  | some u => exact h.writeAt own written

/-- A running take that is closed has ended (R139). -/
theorem Store.Running.closeAt (own : 1 ≤ n ∧ n ≤ 16) (h : st.Running n flags) (position : Nat) (stamp : Time) :
    (st.closeAt position stamp).Ended n flags := by
  obtain ⟨⟨c, recording, take, _⟩, _⟩ := id h
  subst take
  have run (l : List Payload) {u : Store} (running : u.Running c.take flags) :
      (l.foldl (Store.writeClosing position stamp) u).Running c.take flags := by
    induction l generalizing u with
    | nil => exact running
    | cons p rest ih => exact ih (running.writeClosing own position stamp p)
  obtain ⟨_, e, entry, same⟩ := run c.closing h
  simp only [Store.closeAt, recording]
  refine ⟨rfl, { e with state := .closed }, (Store.entry_setEntry _ c.take c.take _).trans ?_, rfl, same⟩
  rw [if_pos ⟨rfl, own⟩, entry]
  rfl

theorem Store.Running.flagged (own : 1 ≤ n ∧ n ≤ 16) (h : st.Running n flags) (f : Take → Take) (more : TakeFlags)
    (same : ∀ e, e.flags = flags → (f e).flags = more) : (st.modEntry n f).Running n more := by
  obtain ⟨running, e, entry, held⟩ := h
  refine ⟨running, f e, (Store.entry_setEntry _ n n _).trans ?_, same e held⟩
  rw [if_pos ⟨rfl, own⟩, entry]
  rfl

/-- A take that meets the reserve line ends TRUNCATED (R138). -/
theorem Store.Running.truncateAt (own : 1 ≤ n ∧ n ≤ 16) (h : st.Running n flags) (position : Nat) (stamp : Time) :
    (st.truncateAt position stamp).Ended n { flags with truncated := true } := by
  obtain ⟨⟨c, recording, take, _⟩, _⟩ := id h
  simp only [Store.truncateAt, recording, take]
  exact (h.flagged own _ _ (fun e held => by rw [held])).closeAt own position stamp

/-- A write by the recorder goes on, or ends the take TRUNCATED (R138). -/
theorem Store.Running.writeOrTruncate (own : 1 ≤ n ∧ n ≤ 16) (h : st.Running n flags) (p : Payload) (position : Nat) (stamp : Time) :
    ((st.writeOrTruncate p position stamp).2 = false → (st.writeOrTruncate p position stamp).1.Running n flags) ∧
      ((st.writeOrTruncate p position stamp).2 = true →
        (st.writeOrTruncate p position stamp).1.Ended n { flags with truncated := true }) := by
  simp only [Store.writeOrTruncate]
  split
  next written => exact ⟨fun _ => h.writeAt own written, nofun⟩
  · exact ⟨nofun, fun _ => h.truncateAt own position stamp⟩

theorem Store.Running.writeGap (own : 1 ≤ n ∧ n ≤ 16) (h : st.Running n flags) :
    (st.writeGap.2 = false → st.writeGap.1.Running n flags) ∧
      (st.writeGap.2 = true → st.writeGap.1.Ended n { flags with truncated := true }) := by
  obtain ⟨⟨c, recording, _⟩, _⟩ := id h
  simp only [Store.writeGap, recording]
  exact h.writeOrTruncate own _ _ _

theorem Store.Running.writeGaps (own : 1 ≤ n ∧ n ≤ 16) (count : Nat) (h : st.Running n flags) :
    ((Store.writeGaps count st).2 = false → (Store.writeGaps count st).1.Running n flags) ∧
      ((Store.writeGaps count st).2 = true → (Store.writeGaps count st).1.Ended n { flags with truncated := true }) := by
  induction count generalizing st with
  | zero => exact ⟨fun _ => h, nofun⟩
  | succ count ih =>
    obtain ⟨runs, ends⟩ := h.writeGap own
    simp only [Store.writeGaps]
    cases met : st.writeGap.2 with
    | true => exact ⟨fun fits => absurd (met.symm.trans fits) nofun, ends⟩
    | false => exact ih (runs met)

/-- The GAP expiries overdue leave the take running, or end it TRUNCATED (R138; assumption 2). -/
theorem Store.Running.writeOverdue (own : 1 ≤ n ∧ n ≤ 16) (h : st.Running n flags) (stamp : Time) :
    ((Store.writeOverdue stamp st).2 = false → (Store.writeOverdue stamp st).1.Running n flags) ∧
      ((Store.writeOverdue stamp st).2 = true → (Store.writeOverdue stamp st).1.Ended n { flags with truncated := true }) := by
  obtain ⟨⟨c, recording, _, started⟩, _⟩ := id h
  simp only [Store.writeOverdue, recording, started, if_true]
  exact h.writeGaps own _

theorem Store.Running.closeRecording (own : 1 ≤ n ∧ n ≤ 16) (h : st.Running n flags) (stamp : Time) :
    (st.closeRecording (some stamp)).Ended n flags := by
  obtain ⟨⟨c, recording, _, started⟩, _⟩ := id h
  simp only [Store.closeRecording, recording, started, if_true]
  exact h.closeAt own _ _

end Runs

/-! ### The Transport receives the close -/

section Finish

variable (cause : EndCause) (s : State)

/-- A recording that ends leaves the Transport in IDLE with the take's close result (R155). -/
theorem State.finishRecording_finishes :
    (s.finishRecording cause).transport.state = .idle ∧ (s.finishRecording cause).transport.take = none ∧
      (s.finishRecording cause).transport.lastEnd = some cause ∧
      (s.finishRecording cause).transport.lastClose =
        some (closeResult (s.transport.take.getD 0) (s.store.entry (s.transport.take.getD 0)) cause) ∧
      (s.finishRecording cause).announces .takeClosed ∧ (s.finishRecording cause).announces .transport := by
  refine ⟨rfl, rfl, rfl, ?_, ?_, State.post_announces _ _⟩
  · simp only [State.finishRecording]
    split
    · simp [State.modTransport, Transport.toIdle]
    · rfl
  · simp only [State.finishRecording]
    generalize closing : State.post .takeClosed _ = u
    have pending : u.announces .takeClosed := closing ▸ State.post_announces _ _
    refine State.noticesStay.announces ?_ pending
    refine State.noticesStay.trans ?_ (.post .transport _)
    split
    · exact .of_same (by simp [State.modTransport]) (by simp [State.modTransport])
    · exact .refl _

theorem State.finishRecording_kept :
    (s.finishRecording cause).now = s.now ∧ (s.finishRecording cause).store = s.store ∧
      (s.finishRecording cause).scanner = s.scanner ∧ (s.finishRecording cause).router = s.router ∧
      (s.finishRecording cause).rail = s.rail := by
  simp

theorem closeResult_taken (take : Nat) (entry : Option Take) : (closeResult take entry cause).take = take ∧
    (closeResult take entry cause).cause = cause := by
  cases entry <;> exact ⟨rfl, rfl⟩

end Finish

/-- A recording into take `n` has ended with a cause, and with it the Transport's use of the take (R155). -/
structure State.EndsTake (s t : State) (n : Nat) (flags : TakeFlags) (cause : EndCause) : Prop where
  store : t.store.Ended n flags
  idle : t.transport.state = .idle
  take : t.transport.take = none
  lastEnd : t.transport.lastEnd = some cause
  lastClose : ∃ r, t.transport.lastClose = some r ∧ r.take = s.transport.take.getD 0 ∧ r.cause = cause
  closed : t.announces .takeClosed
  posted : t.announces .transport
  scanner : t.scanner = s.scanner
  router : t.router = s.router
  rail : t.rail = s.rail

section Ends

variable {s u : State} {n : Nat} {flags : TakeFlags} {cause : EndCause}

theorem State.finishRecording_ends (ended : u.store.Ended n flags) (transport : u.transport = s.transport)
    (scanner : u.scanner = s.scanner) (router : u.router = s.router) (rail : u.rail = s.rail) :
    s.EndsTake (u.finishRecording cause) n flags cause := by
  obtain ⟨idle, take, lastEnd, lastClose, closed, posted⟩ := u.finishRecording_finishes cause
  obtain ⟨_, store, scannerAfter, routerAfter, railAfter⟩ := u.finishRecording_kept cause
  obtain ⟨takeOf, causeOf⟩ := closeResult_taken cause (u.transport.take.getD 0) (u.store.entry (u.transport.take.getD 0))
  exact ⟨store ▸ ended, idle, take, lastEnd, ⟨_, lastClose, takeOf.trans (by rw [transport]), causeOf⟩, closed, posted,
    scannerAfter.trans scanner, routerAfter.trans router, railAfter.trans rail⟩

/-- The end of a recording, as one conjunction. -/
theorem State.EndsTake.told {t : State} (h : s.EndsTake t n flags cause) :
    t.store.recording = none ∧ (∃ closed, t.store.entry n = some closed ∧ closed.state = .closed) ∧
      t.transport.state = .idle ∧ t.transport.take = none ∧ t.transport.lastEnd = some cause ∧
      (∃ r, t.transport.lastClose = some r ∧ r.take = s.transport.take.getD 0 ∧ r.cause = cause) ∧
      t.announces .takeClosed ∧ t.announces .transport ∧ t.scanner = s.scanner ∧ t.router = s.router ∧ t.rail = s.rail := by
  obtain ⟨⟨recording, e, entry, closed, _⟩, idle, take, lastEnd, lastClose, closing, posted, scanner, router, rail⟩ := h
  exact ⟨recording, ⟨e, entry, closed⟩, idle, take, lastEnd, lastClose, closing, posted, scanner, router, rail⟩

/-- A recorder write that meets the reserve line ends the recording with cause RESERVE (R138, R155). -/
theorem State.recordWith_ends {f : Store → Store × Bool} (met : (f s.store).2 = true)
    (ended : (f s.store).1.Ended n flags) : s.EndsTake (s.recordWith f) n flags .reserve := by
  simp only [State.recordWith, if_pos met]
  exact State.finishRecording_ends (s := s) (u := { s with store := (f s.store).1 }) ended rfl rfl rfl rfl

theorem State.recordWith_goes {f : Store → Store × Bool} (fits : (f s.store).2 = false) :
    s.recordWith f = { s with store := (f s.store).1 } := by
  simp only [State.recordWith, fits, Bool.false_eq_true, if_false]

/-- A recording that meets the reserve line at an overdue GAP expiry is closed no second time (assumption 2). -/
theorem State.endRecording_reserve {stamp : Time} (met : (Store.writeOverdue stamp s.store).2 = true)
    (ended : (Store.writeOverdue stamp s.store).1.Ended n flags) : s.EndsTake (s.endRecording cause stamp) n flags .reserve := by
  have overdue : s.EndsTake (s.takeOverdue stamp) n flags .reserve := State.recordWith_ends met ended
  simp only [State.endRecording]
  rw [if_neg (by rw [overdue.idle]; exact Bool.false_ne_true)]
  exact overdue

/-- With no expiry at the reserve line the recording is closed with the cause given (R155). -/
theorem State.endRecording_closes {stamp : Time} (records : s.transport.state.records = true)
    (fits : (Store.writeOverdue stamp s.store).2 = false) :
    s.endRecording cause stamp =
      State.finishRecording cause
        { s with store := (Store.writeOverdue stamp s.store).1.closeRecording (some stamp) } := by
  have overdue : s.takeOverdue stamp = { s with store := (Store.writeOverdue stamp s.store).1 } :=
    State.recordWith_goes fits
  simp only [State.endRecording, overdue]
  exact if_pos records

theorem State.endRecording_ends {stamp : Time} (own : 1 ≤ n ∧ n ≤ 16) (records : s.transport.state.records = true)
    (running : s.store.Running n flags) (fits : (Store.writeOverdue stamp s.store).2 = false) :
    s.EndsTake (s.endRecording cause stamp) n flags cause := by
  rw [State.endRecording_closes records fits]
  have closed := ((running.writeOverdue own stamp).1 fits).closeRecording own stamp
  generalize Store.closeRecording _ _ = store at closed
  exact State.finishRecording_ends closed rfl rfl rfl rfl

end Ends

/-! ### The reserve line -/

section Reserve

variable {st : Store} {c : RecordingContext} {e : Take} {p : Payload} {position : Nat} {stamp : Time}

/-- A take that meets the reserve line with blocks for its closing records is closed there (R138, R139). -/
theorem Store.truncateAt_closesTo (recording : st.recording = some c) (own : 1 ≤ c.take ∧ c.take ≤ 16)
    (canonical : Memory.wf st.memory = true) (entry : st.entry c.take = some e) (free : 3 ≤ st.freeList.length)
    (few : c.closings ≤ 96) :
    st.closesTo (st.truncateAt position stamp) c e { e.flags with truncated := true } position := by
  simp only [Store.truncateAt, recording]
  refine Store.closeAt_closesTo recording own canonical ((Store.entry_setEntry _ c.take c.take _).trans ?_)
    (fun m other => (Store.entry_setEntry _ c.take m _).trans (if_neg (fun h => other h.1))) free few
  rw [if_pos ⟨rfl, own⟩, entry]
  rfl

theorem Store.writeOrTruncate_meets (recording : st.recording = some c) (entry : st.entry c.take = some e) (needs : e.needsBlock)
    (full : st.freeList.length ≤ 3) : st.writeOrTruncate p position stamp = (st.truncateAt position stamp, true) := by
  simp only [Store.writeOrTruncate,
    Store.writeAt_none (keep := Config.recordingReserve) recording entry needs full]

/-- A close reads its position in whole milliseconds. -/
theorem Store.closesTo.congr {u : Store} {flags : TakeFlags} {other : Nat} (h : st.closesTo u c e flags position)
    (same : other / 1000 = position / 1000) : st.closesTo u c e flags other := by
  rw [Store.closesTo] at h ⊢
  rw [same]
  exact h

/-- A payload that needs a block at the reserve line truncates the take at its position, or at the GAP expiry that falls within the
same millisecond (R136, R138). -/
theorem Store.record_meets (recording : st.recording = some c) (started : c.started = true) (entry : st.entry c.take = some e)
    (needs : e.needsBlock) (full : st.freeList.length ≤ 3) (early : c.positionAt stamp / 1000 ≤ c.lastTime + 4095) :
    ∃ at_ m, at_ / 1000 = c.positionAt stamp / 1000 ∧ st.record p stamp = (st.truncateAt at_ m, true) := by
  simp only [Store.record, recording, started, if_true, RecordingContext.reckon_position]
  by_cases overdue : c.positionAt stamp ≤ (c.lastTime + 4095) * 1000
  · refine ⟨c.positionAt stamp, (c.reckon stamp).2, rfl, ?_⟩
    simp only [RecordingContext.gapsBefore_zero overdue, Store.writeGaps, Bool.false_eq_true, if_false]
    exact Store.writeOrTruncate_meets recording entry needs full
  · have one : c.gapsBefore (c.positionAt stamp) = 1 := by
      simp only [RecordingContext.gapsBefore, Config.gapMs]
      omega
    refine ⟨c.gapPosition, c.stampAt c.gapPosition, ?_, ?_⟩
    · simp only [RecordingContext.gapPosition, Config.gapMs]
      omega
    · have gap : st.writeGap = (st.truncateAt c.gapPosition (c.stampAt c.gapPosition), true) := by
        simp only [Store.writeGap, recording]
        exact Store.writeOrTruncate_meets recording entry needs full
      simp only [one, Store.writeGaps, gap, if_true]

end Reserve

/-! ### The events of the recording clock -/

section Events

variable {s : State} {c : RecordingContext}

theorem State.onGap_early (recording : s.store.recording = some c) (early : c.positionAt s.now < (c.lastTime + 4095) * 1000) :
    s.onGap = s := by
  simp only [State.onGap, recording, RecordingContext.gapDue, RecordingContext.reckon_position]
  refine if_neg (fun due => ?_)
  exact early.not_ge (of_decide_eq_true ((Bool.and_eq_true _ _).mp due).2)

theorem State.onGap_due (recording : s.store.recording = some c) (started : c.started = true)
    (due : (c.lastTime + 4095) * 1000 ≤ c.positionAt s.now) : s.onGap = s.recordWith Store.writeGap := by
  simp only [State.onGap, recording, RecordingContext.gapDue, RecordingContext.reckon_position]
  exact if_pos ((Bool.and_eq_true _ _).mpr ⟨started, decide_eq_true due⟩)

theorem State.onLimit_early (recording : s.store.recording = some c) (early : c.positionAt s.now < 36000000000) : s.onLimit = s := by
  simp only [State.onLimit, recording, RecordingContext.reckon_position]
  exact if_neg (fun due => early.not_ge due.2)

theorem State.onLimit_due (recording : s.store.recording = some c) (started : c.started = true)
    (due : 36000000000 ≤ c.positionAt s.now) : s.onLimit = s.endRecording .limit (c.stampAt 36000000000) := by
  simp only [State.onLimit, recording, RecordingContext.reckon_position]
  exact if_pos ⟨started, due⟩

/-- The moment of the duration limit, reckoned back, is the limit (R136). -/
theorem RecordingContext.positionAt_stampAt {position : Nat} (before : c.position ≤ position)
    (near : position - c.position < 2147483648) : c.positionAt (c.stampAt position) = position := by
  have passed : (c.stampAt position - c.lastStamp).toNat = position - c.position := by
    simp only [RecordingContext.stampAt, Time.after]
    bv_omega
  simp only [RecordingContext.positionAt, passed, if_pos near]
  omega

end Events

/-! ### O48 -/

/-- Settles O48: a GAP expiry is one appended record or one truncation, and the limit one close behind the expiries overdue. -/
theorem recordingClockWritesGapsAndStops : Obligations.RecordingClockWritesGapsAndStops := by
  intro now c e s on canonical recording started low high entry passed position gapAt needsBlock
  have own : 1 ≤ c.take ∧ c.take ≤ 16 := ⟨low, high⟩
  have running : s.store.Running c.take e.flags := ⟨⟨c, recording, rfl, started⟩, e, entry, rfl⟩
  have reckoned : position = c.positionAt now := rfl
  clear_value position
  subst reckoned
  have gap : gapAt ≤ c.positionAt now → exec (.gapExpiry now) s = .next (State.recordWith Store.writeGap { s with now := now }) :=
    fun due => (exec_event on now).trans (congrArg _ (State.onGap_due (s := { s with now := now }) recording started due))
  have limit : 36000000000 ≤ c.positionAt now →
      exec (.durationLimit now) s =
        .next (State.endRecording .limit (c.stampAt 36000000000) { s with now := now }) :=
    fun due => (exec_event on now).trans (congrArg _ (State.onLimit_due (s := { s with now := now }) recording started due))
  refine ⟨fun early => ?_, fun due room => ?_, fun due needs full => ?_, fun payload needs full early => ?_,
    fun records due => ⟨fun fits => ?_, fun met => ?_, fun before lately free few => ?_⟩, fun early => ?_⟩
  · exact (exec_event on now).trans (congrArg _ (State.onGap_early (s := { s with now := now }) recording early))
  · obtain ⟨u, written, ⟨entryAfter, others, bytes, outside, freeList, _⟩, after⟩ :=
      Store.writeAt_records (p := .gap) (position := c.gapPosition) (stamp := c.stampAt c.gapPosition)
        (keep := Config.recordingReserve) recording own canonical entry room
    have gapped : s.store.writeGap = (u, false) := by
      simp only [Store.writeGap, recording, Store.writeOrTruncate, written]
    have delta : c.gapPosition / 1000 - c.lastTime = 4095 := by
      simp only [RecordingContext.gapPosition, Config.gapMs]
      omega
    have time : c.gapPosition / 1000 = c.lastTime + 4095 := Nat.mul_div_cancel _ (by decide)
    have goes : State.recordWith Store.writeGap { s with now := now } = { s with now := now, store := u } :=
      (State.recordWith_goes (s := { s with now := now }) (congrArg Prod.snd gapped)).trans (by rw [gapped])
    rw [delta] at entryAfter bytes
    rw [time] at after
    exact ⟨_, (gap due).trans (congrArg _ goes), rfl, entryAfter, others, bytes, outside, freeList, after⟩
  · have met : s.store.writeGap = (s.store.truncateAt c.gapPosition (c.stampAt c.gapPosition), true) := by
      simp only [Store.writeGap, recording]
      exact Store.writeOrTruncate_meets recording entry needs full
    have ended := (running.writeGap own).2 (congrArg Prod.snd met)
    have ends : State.EndsTake { s with now := now } _ c.take _ .reserve :=
      State.recordWith_ends (s := { s with now := now }) (congrArg Prod.snd met) ended
    obtain ⟨closed, held, _, flags⟩ := ends.store.2
    refine ⟨_, gap due, ends.told, ⟨closed, held, flags⟩, fun free few => ?_⟩
    have store : (State.recordWith Store.writeGap { s with now := now }).store = s.store.writeGap.1 := by
      simp only [State.recordWith, met, if_true]
      exact (State.finishRecording_kept _ _).2.1
    rw [store, met]
    exact Store.truncateAt_closesTo recording own canonical entry free.ge few
  · obtain ⟨at_, m, same, recorded⟩ := Store.record_meets (p := payload) recording started entry needs full early
    rw [recorded]
    exact ⟨rfl, fun free few =>
      (Store.truncateAt_closesTo recording own canonical entry free.ge few).congr same.symm⟩
  · exact ⟨_, limit due, (State.endRecording_ends (s := { s with now := now }) own records running fits).told⟩
  · exact ⟨_, limit due,
      (State.endRecording_reserve (s := { s with now := now }) met ((running.writeOverdue own _).2 met)).told⟩
  · have reached : c.positionAt (c.stampAt 36000000000) = 36000000000 := by
      refine RecordingContext.positionAt_stampAt before ?_
      simp only [RecordingContext.positionAt] at due
      split at due <;> omega
    have onTime : Store.writeOverdue (c.stampAt 36000000000) s.store = (s.store, false) := by
      simp only [Store.writeOverdue, recording, started, if_true, RecordingContext.reckon_position, reached,
        RecordingContext.gapsBefore_zero (show 36000000000 ≤ (c.lastTime + 4095) * 1000 by omega), Store.writeGaps]
    refine ⟨_, limit due,
      (State.endRecording_ends (s := { s with now := now }) own records running (congrArg Prod.snd onTime)).told, ?_⟩
    rw [State.endRecording_closes (s := { s with now := now }) records (congrArg Prod.snd onTime),
      (State.finishRecording_kept _ _).2.1]
    simp only [onTime, Store.closeRecording, recording, started, if_true, RecordingContext.reckon_position, reached]
    exact Store.closeAt_closesTo recording own canonical entry (fun _ _ => rfl) free few
  · exact (exec_event on now).trans (congrArg _ (State.onLimit_early (s := { s with now := now }) recording early))

end Sys2Proof.Machine
end

section
/-! SUPPORT. The records a clock start writes: one behind another in the take's first block, all at its first moment (R136, R153). -/

namespace Sys2Proof.Machine

open Sys2Proof

/-! ### Records at the take's first moment -/

/-- A context that has noted the payloads of a run keeps its take and its clock. -/
theorem RecordingContext.notedRun_frame (ps : List Payload) (c : RecordingContext) :
    (ps.foldl RecordingContext.noted c).take = c.take ∧ (ps.foldl RecordingContext.noted c).started = c.started ∧
      (ps.foldl RecordingContext.noted c).position = c.position ∧ (ps.foldl RecordingContext.noted c).lastTime = c.lastTime ∧
      (ps.foldl RecordingContext.noted c).lastStamp = c.lastStamp := by
  induction ps generalizing c with
  | nil => exact ⟨rfl, rfl, rfl, rfl, rfl⟩
  | cons p rest ih =>
    obtain ⟨take, started, position, time, stamp⟩ := ih (c.noted p)
    obtain ⟨takeOf, startedOf, positionOf, timeOf, stampOf⟩ := c.noted_frame p
    exact ⟨take.trans takeOf, started.trans startedOf, position.trans positionOf, time.trans timeOf, stamp.trans stampOf⟩

/-- The clock stands at its start: position, last time and last stamp (R135, R153). -/
structure RecordingContext.AtStart (c : RecordingContext) (stamp : Time) : Prop where
  started : c.started = true
  position : c.position = 0
  lastTime : c.lastTime = 0
  lastStamp : c.lastStamp = stamp

theorem RecordingContext.AtStart.reckon {c : RecordingContext} {stamp : Time} (h : c.AtStart stamp) : c.reckon stamp = (0, stamp) := by
  obtain ⟨_, position, _, lastStamp⟩ := h
  simp [RecordingContext.reckon, elapsed, position, lastStamp]

theorem RecordingContext.AtStart.noted {c : RecordingContext} {stamp : Time} (h : c.AtStart stamp) (ps : List Payload) :
    (ps.foldl RecordingContext.noted c).AtStart stamp := by
  obtain ⟨_, started, position, lastTime, lastStamp⟩ := RecordingContext.notedRun_frame ps c
  exact ⟨started.trans h.started, position.trans h.position, lastTime.trans h.lastTime, lastStamp.trans h.lastStamp⟩

/-- A record at the clock's start moves no clock. -/
theorem RecordingContext.AtStart.same {c : RecordingContext} {stamp : Time} (h : c.AtStart stamp) :
    ({ c with started := true, position := 0, lastTime := 0, lastStamp := stamp } : RecordingContext) = c := by
  obtain ⟨started, position, lastTime, lastStamp⟩ := h
  cases c
  simp only at started position lastTime lastStamp
  rw [started, position, lastTime, lastStamp]

/-- The payloads `ps`, written from slot 0 on at the clock's start, are all that the take of `c` holds: `st` the store before the
first of them, `u` the store behind the last. -/
structure Store.Begins (st u : Store) (c : RecordingContext) (e : Take) (ps : List Payload) : Prop where
  recording : u.recording = some (ps.foldl RecordingContext.noted c)
  entry : u.entry c.take = some { e with count := ps.length }
  others : ∀ m, m ≠ c.take → u.entry m = st.entry m
  freeList : u.freeList = st.freeList
  serial : u.serial = st.serial

section Begins

variable {st u : Store} {c : RecordingContext} {e : Take} {ps : List Payload} {stamp : Time}

/-- One more record in the take's first block (R136, R138). -/
theorem Store.Begins.next (h : st.Begins u c e ps) (start : c.AtStart stamp) (own : 1 ≤ c.take ∧ c.take ≤ 16)
    (few : ps.length < 32) (p : Payload) :
    ∃ v, u.record p stamp = (v, false) ∧ st.Begins v c e (ps ++ [p]) := by
  obtain ⟨recording, entry, others, freeList, serial⟩ := h
  have here := start.noted ps
  obtain ⟨take, _⟩ := RecordingContext.notedRun_frame ps c
  have noted : (ps ++ [p]).foldl RecordingContext.noted c = (ps.foldl RecordingContext.noted c).noted p := by
    rw [List.foldl_append, List.foldl_cons, List.foldl_nil]
  have count : (ps ++ [p]).length = ps.length + 1 := List.length_append
  generalize ps.foldl RecordingContext.noted c = d at recording here take noted
  rw [← take] at entry own
  have fits : ¬Take.needsBlock { e with count := ps.length } := fun needs => by
    obtain ⟨some, full⟩ := needs
    exact some (by simp only at full ⊢; omega)
  have appended (keep : Nat) (r : Record) : u.append d.take keep r = some (u.writeSlot d.take { e with count := ps.length } r) := by
    rw [Store.append_of_entry entry, if_neg fits]
  have zero : d.gapsBefore 0 = 0 := RecordingContext.gapsBefore_zero (Nat.zero_le _)
  refine ⟨{ u.writeSlot d.take { e with count := ps.length } { delta := 0, payload := p } with recording := some (d.noted p) }, ?_,
    ⟨congrArg some noted.symm, ?_, fun m other => ?_, freeList, serial⟩⟩
  · simp only [Store.record, recording, here.started, if_true, here.reckon, zero, Store.writeGaps, Bool.false_eq_true, if_false,
      Store.writeOrTruncate, Store.writeAt, appended, here.lastTime, Nat.zero_div, Nat.sub_zero, here.same, Option.map_some]
  · refine (Store.entry_setEntry _ d.take c.take _).trans ?_
    rw [if_pos ⟨take.symm, own⟩, count]
    rfl
  · refine (Store.entry_setEntry _ d.take m _).trans ?_
    rw [if_neg (fun same => other (same.1.trans take))]
    exact others m other

/-- A change of the take's entry that leaves its slots. -/
theorem Store.Begins.modEntry {f : Take → Take} (h : st.Begins u c e ps) (own : 1 ≤ c.take ∧ c.take ≤ 16)
    (counts : f { e with count := ps.length } = { f e with count := ps.length }) :
    st.Begins (u.modEntry c.take f) c (f e) ps := by
  obtain ⟨recording, entry, others, freeList, serial⟩ := h
  refine ⟨recording, ?_, fun m other => ?_, freeList, serial⟩
  · refine (Store.entry_setEntry _ c.take c.take _).trans ?_
    rw [if_pos ⟨rfl, own⟩, entry, Option.map_some, counts]
  · exact (Store.entry_setEntry _ c.take m _).trans ((if_neg (fun same => other same.1)).trans (others m other))

/-- The clock starts over a take with no record yet (R153, step 1). -/
theorem Store.Begins.clockStart (recording : st.recording = some c) (entry : st.entry c.take = some e) (empty : e.count = 0) :
    st.Begins (st.clockStart stamp) { c with started := true, lastStamp := stamp } e [] := by
  refine ⟨?_, ?_, fun _ _ => rfl, rfl, rfl⟩
  · rw [Store.clockStart, recording]
    rfl
  · rw [List.length_nil, ← empty]
    exact entry

end Begins

/-! ### The records of a clock start -/

/-- The PEDAL record of a pedal held down (R153, step 2). -/
def State.heldPayload (s : State) : PedalId → List Payload
  | .damper => if s.pedals.damper.live = 0 then [] else [.pedal .damper s.pedals.damper.live]
  | .sostenuto => if s.pedals.sostenuto.live then [.pedal .sostenuto 127] else []
  | .soft => if s.pedals.soft.live = 0 then [] else [.pedal .soft s.pedals.soft.live]

/-- The PEDAL records of the pedals held down. -/
def State.heldPayloads (s : State) : List Payload := s.heldPayload .damper ++ s.heldPayload .sostenuto ++ s.heldPayload .soft

section Start

variable {s : State} {st : Store} {c : RecordingContext} {e : Take} {ps : List Payload} {stamp : Time}

theorem State.heldPayload_few (p : PedalId) : (s.heldPayload p).length ≤ 1 := by
  cases p <;> simp only [State.heldPayload] <;> split <;> simp

theorem State.heldPayloads_few : s.heldPayloads.length ≤ 3 := by
  have damper := State.heldPayload_few (s := s) .damper
  have sostenuto := State.heldPayload_few (s := s) .sostenuto
  have soft := State.heldPayload_few (s := s) .soft
  simp only [State.heldPayloads, List.length_append]
  omega

/-- A pedal held down, recorded at the clock's start. -/
theorem State.recordHeld_begins (h : st.Begins s.store c e ps) (start : c.AtStart stamp) (own : 1 ≤ c.take ∧ c.take ≤ 16)
    (few : ps.length < 32) (p : PedalId) :
    ∃ v, State.recordHeld stamp s p = { s with store := v } ∧ st.Begins v c e (ps ++ s.heldPayload p) := by
  have written (p : PedalId) (level : Nat) : ∃ v, s.recordWith (Store.record (.pedal p level) stamp) = { s with store := v } ∧
      st.Begins v c e (ps ++ [.pedal p level]) := by
    obtain ⟨v, recorded, begins⟩ := h.next start own few (.pedal p level)
    refine ⟨v, (State.recordWith_goes (congrArg Prod.snd recorded)).trans ?_, begins⟩
    rw [recorded]
  have nothing : ∃ v, s = { s with store := v } ∧ st.Begins v c e (ps ++ []) :=
    ⟨s.store, rfl, (List.append_nil ps).symm ▸ h⟩
  cases p with
  | damper =>
    simp only [State.recordHeld, State.heldPayload]
    split
    · exact nothing
    · exact written .damper _
  | soft =>
    simp only [State.recordHeld, State.heldPayload]
    split
    · exact nothing
    · exact written .soft _
  | sostenuto =>
    cases live : s.pedals.sostenuto.live with
    | true =>
      simp only [State.recordHeld, State.heldPayload, live, if_true]
      exact written .sostenuto 127
    | false =>
      simp only [State.recordHeld, State.heldPayload, live, Bool.false_eq_true, if_false]
      exact nothing

/-- The pedals held down, recorded at the clock's start in the order DAMPER, SOSTENUTO, SOFT. -/
theorem State.recordHeld_run (h : st.Begins s.store c e []) (start : c.AtStart stamp) (own : 1 ≤ c.take ∧ c.take ≤ 16) :
    ∃ v, pedalOrder.foldl (State.recordHeld stamp) s = { s with store := v } ∧ st.Begins v c e s.heldPayloads := by
  have damperFew := State.heldPayload_few (s := s) .damper
  have sostenutoFew := State.heldPayload_few (s := s) .sostenuto
  obtain ⟨v, damper, begins⟩ := State.recordHeld_begins h start own (by decide) .damper
  obtain ⟨w, sostenuto, goes⟩ := State.recordHeld_begins (s := { s with store := v }) begins start own
    (by rw [List.nil_append]; omega) .sostenuto
  obtain ⟨x, soft, ends⟩ := State.recordHeld_begins (s := { s with store := w }) goes start own
    (by
      have same : State.heldPayload { s with store := v } .sostenuto = s.heldPayload .sostenuto := rfl
      rw [same, List.nil_append, List.length_append]
      omega) .soft
  refine ⟨x, ?_, ends⟩
  rw [pedalOrder, List.foldl_cons, List.foldl_cons, List.foldl_cons, List.foldl_nil, damper, sostenuto, soft]

/-- What a clock start makes of the state before the click is judged (R153, steps 1 to 4). -/
def State.clockRuns (v : Store) (s : State) : State :=
  State.post .transport { s with store := v, transport := { s.transport with state := .recording } }

/-- A clock start with no strike writes the pedals held down, and with click on the first beat (R153). -/
theorem State.clockStart_writes (recording : s.store.recording = some c) (own : 1 ≤ c.take ∧ c.take ≤ 16)
    (entry : s.store.entry c.take = some e) (empty : e.count = 0) (position : c.position = 0) (time : c.lastTime = 0) :
    ∃ v, s.store.Begins v { c with started := true, lastStamp := stamp } e s.heldPayloads ∧
      s.clockStart stamp none =
        if s.transport.click then ((s.clockRuns v).recordClickStart.stampTempo).recordBeat { bar := 1, beat := 1 }
        else s.clockRuns v := by
  have start : RecordingContext.AtStart { c with started := true, lastStamp := stamp } stamp := ⟨rfl, position, time, rfl⟩
  obtain ⟨v, held, begins⟩ := State.recordHeld_run (s := s.modStore (Store.clockStart stamp))
    (Store.Begins.clockStart recording entry empty) start own
  refine ⟨v, begins, ?_⟩
  simp only [State.clockStart, held]
  rfl

/-- What the pedals held down leave of the levels of a recording (R137, R153). -/
theorem State.heldPayloads_noted (zero : c.levels = { damper := 0, sostenuto := false, soft := 0 }) :
    s.heldPayloads.foldl RecordingContext.noted c =
      { c with
        levels := { damper := s.pedals.damper.live, sostenuto := s.pedals.sostenuto.live, soft := s.pedals.soft.live } } := by
  have damper (d : RecordingContext) (zero : d.levels.damper = 0) :
      (s.heldPayload .damper).foldl RecordingContext.noted d =
        { d with levels := { d.levels with damper := s.pedals.damper.live } } := by
    simp only [State.heldPayload]
    split
    next none =>
      rw [none, ← zero]
      rfl
    · rfl
  have soft (d : RecordingContext) (zero : d.levels.soft = 0) :
      (s.heldPayload .soft).foldl RecordingContext.noted d = { d with levels := { d.levels with soft := s.pedals.soft.live } } := by
    simp only [State.heldPayload]
    split
    next none =>
      rw [none, ← zero]
      rfl
    · rfl
  have sostenuto (d : RecordingContext) (zero : d.levels.sostenuto = false) :
      (s.heldPayload .sostenuto).foldl RecordingContext.noted d =
        { d with levels := { d.levels with sostenuto := s.pedals.sostenuto.live } } := by
    cases live : s.pedals.sostenuto.live with
    | true =>
      simp only [State.heldPayload, live, if_true]
      rfl
    | false =>
      simp only [State.heldPayload, live, Bool.false_eq_true, if_false]
      rw [← zero]
      rfl
  rw [State.heldPayloads, List.foldl_append, List.foldl_append, damper c (by rw [zero]), sostenuto _ (by simp only [zero]),
    soft _ (by simp only [zero])]

end Start

/-! ### The first beat -/

section FirstBeat

variable {s : State} {w : Store} {n : Nat} {pos : BeatPos}

/-- The take's tempo as the metronome stands (R153, step 5). -/
def Take.inTempo (m : Metro) (t : Take) : Take := { t with tempo := some { bpm := m.tempo, beats := m.beats } }

/-- The tempo stamped and the first beat recorded (R153, step 5; R154). -/
theorem State.firstBeat_goes (recording : s.transport.state = .recording) (take : s.transport.take = some n)
    (written : (s.store.modEntry n (Take.inTempo s.audio.metro)).record (.beat pos.bar pos.beat) s.now = (w, false)) :
    s.stampTempo.recordBeat pos = { s with store := w } := by
  have stamped : s.stampTempo = { s with store := s.store.modEntry n (Take.inTempo s.audio.metro) } := by
    simp only [State.stampTempo, take]
    rfl
  rw [stamped, State.recordBeat, if_pos (by exact recording)]
  refine (State.recordWith_goes (congrArg Prod.snd written)).trans ?_
  simp only [written]

end FirstBeat

end Sys2Proof.Machine
end

section
/-! PROOFS. TAKE_RECORD: its refusals, the opened take, and the clock start of an IMMEDIATE one (R135, R152, R153). -/

namespace Sys2Proof.Machine

open Sys2Proof

section Requests

variable {f : Frame} {take arm click : Byte} {rest : List Byte} {s u : State} {r : Reply}

theorem exec_takeRecord_of_judge (h : s.canTake f (take :: arm :: click :: rest))
    (hj : judgeTakeRecord (take :: arm :: click :: rest) (s.received f) = some (u, r)) : exec (.takeRecord f) s = answered f r u :=
  takeRequest_of_judge (kind := .takeRecord) h (Nat.le_add_left 3 rest.length) (by decide) hj

/-- The operands a TAKE_RECORD may carry (R152). -/
def recordGood (take arm click : Byte) (split : Nat) : Prop :=
  take.toNat ≤ 16 ∧ 2 ≤ split ∧ split ≤ 88 ∧ (arm = 1 ∨ arm = 2) ∧ click.toNat ≤ 1

/-- The split key of a TAKE_RECORD, or 45 (R152). -/
theorem splitOf_takeRecord (take arm click : Byte) (rest : List Byte) :
    splitOf (take :: arm :: click :: rest) = (rest.headD 45).toNat := by
  cases rest with
  | nil => rfl
  | cons b rest =>
    have long : ¬(take :: arm :: click :: b :: rest).length < 4 := by simp
    rw [splitOf, if_neg long, field_cons, field_cons, field_cons, field_byte]
    rfl

/-- The arm mode's code as a byte (R152). -/
theorem armOfCode_byte (b : Byte) :
    armOfCode b.toNat = if b = 1 then some .firstNote else if b = 2 then some .immediate else none := by
  have one := byte_eq_iff b 1 (by omega)
  have two := byte_eq_iff b 2 (by omega)
  by_cases first : b = 1
  · rw [if_pos first, one.mp first]
    rfl
  · by_cases second : b = 2
    · rw [if_neg first, if_pos second, two.mp second]
      rfl
    · rw [if_neg first, if_neg second, armOfCode.eq_def]
      split
      next code => exact absurd (one.mpr code) first
      next code => exact absurd (two.mpr code) second
      · rfl

theorem judgeTakeRecord_range (bad : ¬recordGood take arm click (rest.headD 45).toNat) (s : State) :
    judgeTakeRecord (take :: arm :: click :: rest) s = refuse .range s := by
  simp only [judgeTakeRecord, splitOf_takeRecord, field_byte, field_cons, armOfCode_byte]
  split
  · rfl
  next inRange =>
    split
    next code yes =>
      refine absurd ⟨by omega, by omega, by omega, ?_, ((yesNo_eq click _).mp yes).1⟩ bad
      by_contra neither
      obtain ⟨first, second⟩ := not_or.mp neither
      rw [if_neg first, if_neg second] at code
      exact nomatch code
    · rfl

theorem judgeTakeRecord_good {mode : ArmMode} (good : recordGood take arm click (rest.headD 45).toNat)
    (code : armOfCode arm.toNat = some mode) (s : State) :
    judgeTakeRecord (take :: arm :: click :: rest) s =
      takeRecordWith take.toNat (rest.headD 45).toNat mode (decide (click = 1)) s := by
  obtain ⟨number, low, high, _, clicks⟩ := good
  have yes : yesNo click.toNat = some (decide (click = 1)) :=
    (yesNo_eq click _).mpr ⟨clicks, decide_eq_decide.mpr (byte_eq_iff click 1 (by omega))⟩
  have inRange : ¬(16 < take.toNat ∨ (rest.headD 45).toNat < 2 ∨ 88 < (rest.headD 45).toNat) := by omega
  simp only [judgeTakeRecord, splitOf_takeRecord, field_byte, field_cons, inRange, if_false, code, yes]

end Requests

/-! ### The opening -/

section Opening

variable {st : Store} {n : Nat}

/-- The take a TAKE_RECORD opens: the lowest EMPTY one for "next", or the one it names, when EMPTY (R135). -/
def Store.opensTake (st : Store) (take : Byte) (n : Nat) : Prop :=
  st.entry n = none ∧
    (if take = 0 then 1 ≤ n ∧ n ≤ 16 ∧ ∀ m, 1 ≤ m → m < n → st.entry m ≠ none else n = take.toNat)

theorem Store.lowestEmpty_none (full : ∀ n, 1 ≤ n → n ≤ 16 → st.entry n ≠ none) : st.lowestEmpty = none := by
  rw [Store.lowestEmpty, List.find?_eq_none]
  intro n numbered
  simp only [takeNumbers, List.mem_map, List.mem_range] at numbered
  obtain ⟨i, small, rfl⟩ := numbered
  rw [Option.isNone_iff_eq_none]
  exact full (i + 1) (by omega) (by omega)

theorem Store.lowestEmpty_some (low : 1 ≤ n) (high : n ≤ 16) (empty : st.entry n = none)
    (before : ∀ m, 1 ≤ m → m < n → st.entry m ≠ none) : st.lowestEmpty = some n := by
  rw [Store.lowestEmpty, List.find?_eq_some_iff_getElem]
  refine ⟨Option.isNone_iff_eq_none.mpr empty, n - 1, by simp [takeNumbers]; omega, ?_, fun j first => ?_⟩
  · simp only [takeNumbers, List.getElem_map, List.getElem_range]
    omega
  · simp only [takeNumbers, List.getElem_map, List.getElem_range, Bool.not_eq_true', Option.isNone_eq_false_iff]
    exact Option.isSome_iff_ne_none.mpr (before (j + 1) (by omega) (by omega))

variable {take : Byte} {split : Nat} {tempo : Option Tempo}

/-- The take number that is opened, before its entry is judged (R135). -/
theorem Store.opensTake.target (opens : st.opensTake take n) :
    (if take.toNat = 0 then st.lowestEmpty else some take.toNat) = some n := by
  obtain ⟨empty, which⟩ := opens
  have zero := byte_eq_iff take 0 (by omega)
  by_cases next : take = 0
  · rw [if_pos next] at which
    obtain ⟨low, high, before⟩ := which
    rw [if_pos (zero.mp next)]
    exact Store.lowestEmpty_some low high empty before
  · rw [if_neg next] at which
    rw [if_neg (fun h => next (zero.mpr h)), which]

theorem Store.opensTake.numbered (opens : st.opensTake take n) (small : take.toNat ≤ 16) : 1 ≤ n ∧ n ≤ 16 := by
  obtain ⟨_, which⟩ := opens
  have zero := byte_eq_iff take 0 (by omega)
  by_cases next : take = 0
  · rw [if_pos next] at which
    exact ⟨which.1, which.2.1⟩
  · rw [if_neg next] at which
    exact ⟨which ▸ Nat.pos_of_ne_zero (fun h => next (zero.mpr h)), which ▸ small⟩

theorem Store.openRecording_full (next : take = 0) (full : ∀ n, 1 ≤ n → n ≤ 16 → st.entry n ≠ none) :
    st.openRecording take.toNat split tempo = .error .noSpace := by
  have zero : take.toNat = 0 := (byte_eq_iff take 0 (by omega)).mp next
  simp only [Store.openRecording, zero, if_true, Store.lowestEmpty_none full]

theorem Store.openRecording_taken (named : take ≠ 0) (taken : st.entry take.toNat ≠ none) :
    st.openRecording take.toNat split tempo = .error .state := by
  have some_ : take.toNat ≠ 0 := fun zero => named ((byte_eq_iff take 0 (by omega)).mpr zero)
  simp only [Store.openRecording, if_neg some_, Option.isSome_iff_ne_none.mpr taken, if_true]

theorem Store.openRecording_short (opens : st.opensTake take n) (short : st.freeList.length < 4) :
    st.openRecording take.toNat split tempo = .error .noSpace := by
  have few : st.free < 4 := short
  simp only [Store.openRecording, opens.target, opens.1, Option.isSome_none, Bool.false_eq_true, if_false, few, if_true]

/-- An opening that finds its take and the blocks (R135). -/
theorem Store.openRecording_opens {b : Nat} {blocks : List Nat} (opens : st.opensTake take n) (numbered : 1 ≤ n ∧ n ≤ 16)
    (free : st.freeList = b :: blocks) (room : 3 ≤ blocks.length) :
    ∃ u, st.openRecording take.toNat split tempo = .ok (u, n) ∧
      u.entry n =
        some { state := .recording, flags := {}, count := 0, duration := 0, tempo := tempo, split := split, name := none,
               serial := min (st.serial + 1) 4294967295, first := b, last := b, playing := false, exporting := false } ∧
      (∀ m, m ≠ n → u.entry m = st.entry m) ∧ u.freeList = blocks ∧ u.serial = min (st.serial + 1) 4294967295 ∧
      u.recording = some (.opened n) := by
  obtain ⟨u, created, entry, others, freeList, serial, _⟩ := Store.createTake_creates numbered free .recording tempo split
  have enough : ¬st.free < 4 := by
    rw [Store.free, free, List.length_cons]
    omega
  refine ⟨{ u with recording := some (.opened n) }, ?_, entry, others, freeList, serial, rfl⟩
  simp only [Store.openRecording, opens.target, opens.1, Option.isSome_none, Bool.false_eq_true, if_false, enough, created]

end Opening

/-! ### An IMMEDIATE start -/

section Immediate

variable {s : State} {c : RecordingContext} {e : Take}

/-- The record click starts while the take's click is on (R153, step 5). -/
def State.clickStarts (click : Bool) (s : State) : State := if click then s.recordClickStart else s

/-- A clock start of its own moment with no strike, in a take just opened (R153). -/
theorem State.clockStart_immediate (recording : s.store.recording = some c) (own : 1 ≤ c.take ∧ c.take ≤ 16)
    (entry : s.store.entry c.take = some e) (empty : e.count = 0) (position : c.position = 0) (time : c.lastTime = 0)
    (taken : s.transport.take = some c.take) :
    ∃ x v tempo ps,
      s.store.Begins v { c with started := true, lastStamp := s.now } { e with tempo := tempo } (s.heldPayloads ++ ps) ∧
      (∀ d, (s.heldPayloads ++ ps).foldl RecordingContext.noted d = s.heldPayloads.foldl RecordingContext.noted d) ∧
      s.clockStart s.now none =
        { (s.clockRuns x).clickStarts s.transport.click with store := v } := by
  obtain ⟨v, begins, starts⟩ := State.clockStart_writes (stamp := s.now) recording own entry empty position time
  rw [starts]
  cases s.transport.click with
  | false => exact ⟨v, v, e.tempo, [], (List.append_nil s.heldPayloads).symm ▸ begins, fun _ => by rw [List.append_nil], rfl⟩
  | true =>
    have start : RecordingContext.AtStart { c with started := true, lastStamp := s.now } s.now := ⟨rfl, position, time, rfl⟩
    have few := State.heldPayloads_few (s := s)
    generalize clicking : (s.clockRuns v).recordClickStart = u
    have store : u.store = v := clicking ▸ by simp [State.clockRuns]
    have transport : u.transport = { s.transport with state := .recording } := clicking ▸ by simp [State.clockRuns]
    have now : u.now = s.now := clicking ▸ by simp [State.clockRuns]
    have timed := begins.modEntry (f := Take.inTempo u.audio.metro) own rfl
    obtain ⟨w, recorded, goes⟩ := timed.next start own (by omega) (.beat 1 1)
    refine ⟨v, w, _, _, goes, fun d => ?_, ?_⟩
    · rw [List.foldl_append]
      rfl
    · rw [if_pos rfl, State.clickStarts, if_pos rfl, clicking]
      refine State.firstBeat_goes (n := c.take) (pos := { bar := 1, beat := 1 }) ?_ ?_ ?_
      · rw [transport]
      · rw [transport]
        exact taken
      · rw [store, now]
        exact recorded

/-- What a clock start with a click, or without one, leaves besides the take. -/
theorem State.clockRuns_click (b : Bool) (x : Store) (s : State) {t : State}
    (runs : (s.clockRuns x).clickStarts b = t) :
    t.transport = { s.transport with state := .recording } ∧ t.announces .transport ∧ t.scanner = s.scanner ∧
      t.router = s.router ∧ t.tone = s.tone ∧ t.pedals = s.pedals ∧ t.rail = s.rail ∧
      t.audio.recordClick = (s.audio.recordClick || b) := by
  have pending : (s.clockRuns x).announces .transport := State.post_announces _ _
  cases b with
  | false =>
    rw [State.clickStarts, if_neg Bool.false_ne_true] at runs
    subst runs
    exact ⟨rfl, pending, rfl, rfl, rfl, rfl, rfl, (Bool.or_false _).symm⟩
  | true =>
    rw [State.clickStarts, if_pos rfl] at runs
    subst runs
    refine ⟨by simp [State.clockRuns], (State.noticesStay.of_same (by simp) (by simp)).announces pending, by simp [State.clockRuns],
      by simp [State.clockRuns], by simp [State.clockRuns], by simp [State.clockRuns], by simp [State.clockRuns], ?_⟩
    exact (State.judgeMode_kept _).2.2.trans (Bool.or_true _).symm

end Immediate

/-! ### O49 -/

/-- Settles O49: the refusals in their order, the opening of the take, and the clock start of an IMMEDIATE one. -/
theorem takeRecordOpensATake : Obligations.TakeRecordOpensATake := by
  intro f take arm click rest s h split good opens
  have transport := State.received_transport f s
  have store := State.received_store f s
  have rail := State.received_rail f s
  have outcome {u : State} {r : Reply} {mode : ArmMode} (sound : good) (code : armOfCode arm.toNat = some mode)
      (judged : takeRecordWith take.toNat split mode (decide (click = 1)) (s.received f) = some (u, r)) :
      exec (.takeRecord f) s = answered f r u :=
    exec_takeRecord_of_judge h ((judgeTakeRecord_good sound code _).trans judged)
  have coded (sound : good) : ∃ mode, armOfCode arm.toNat = some mode := by
    obtain ⟨_, _, _, modes, _⟩ := sound
    rw [armOfCode_byte]
    rcases modes with rfl | rfl
    · exact ⟨_, rfl⟩
    · exact ⟨_, rfl⟩
  have refuses {status : Status} (sound : good)
      (refused : ∀ mode, takeRecordWith take.toNat split mode (decide (click = 1)) (s.received f) = refuse status (s.received f)) :
      exec (.takeRecord f) s = refusedWith f status s := by
    obtain ⟨mode, code⟩ := coded sound
    exact outcome sound code (refused mode)
  have unopened {status : Status} (sound : good) (idle : s.transport.state = .idle) (open_ : s.rail.fallboardClosed = false)
      (refused : ∀ tempo, s.store.openRecording take.toNat split tempo = .error status) :
      exec (.takeRecord f) s = refusedWith f status s := by
    refine refuses sound (fun mode => ?_)
    simp only [takeRecordWith, transport, rail, store, ne_eq, idle, not_true_eq_false, if_false, open_, Bool.false_eq_true, refused]
  refine ⟨fun bad => exec_takeRecord_of_judge h (judgeTakeRecord_range bad _), fun sound busy => refuses sound (fun mode => ?_),
    fun sound idle closed => refuses sound (fun mode => ?_), fun sound idle open_ => ⟨fun next full => ?_, fun named taken => ?_,
      fun n opened short => ?_, fun n b blocks opened free room => ?_⟩⟩
  · simp only [takeRecordWith, transport, ne_eq, busy, not_false_eq_true, if_true]
  · simp only [takeRecordWith, transport, rail, ne_eq, idle, not_true_eq_false, if_false, closed, if_true]
  · exact unopened sound idle open_ (fun _ => Store.openRecording_full next full)
  · exact unopened sound idle open_ (fun _ => Store.openRecording_taken named taken)
  · exact unopened sound idle open_ (fun _ => Store.openRecording_short opened short)
  · intro serial
    have numbered : 1 ≤ n ∧ n ≤ 16 := Store.opensTake.numbered opened sound.1
    obtain ⟨st, made, entry, others, freeList, serialOf, recording⟩ :=
      Store.openRecording_opens (split := split) (tempo := (s.received f).openingTempo (decide (click = 1))) opened numbered free
        room
    have accepted {mode : ArmMode} (code : armOfCode arm.toNat = some mode) :
        exec (.takeRecord f) s = acceptedFor f (.takeOpened n serial)
          (State.beginRecording n mode (decide (click = 1)) { s.received f with store := st }) := by
      refine outcome sound code ?_
      simp only [takeRecordWith, transport, rail, store, ne_eq, idle, not_true_eq_false, if_false, open_, Bool.false_eq_true, made,
        serialOf]
      rfl
    have modes : arm = 1 ∨ arm = 2 := sound.2.2.2.1
    rcases modes with rfl | rfl
    · refine ⟨_, accepted (mode := .firstNote) rfl, ?_⟩
      simp only [State.beginRecording]
      refine ⟨serialOf, freeList, others, rfl, rfl, State.post_announces _ _, by simp [State.modTransport],
        by simp [State.modTransport], by simp [State.modTransport], by simp [State.modTransport], by simp [State.modTransport],
        fun _ => ⟨rfl, rfl, ?_, recording, by simp [State.modTransport]⟩, fun second => absurd second (by decide)⟩
      refine entry.trans ?_
      simp only [State.openingTempo, State.received_audio, decide_eq_true_eq]
      rfl
    · obtain ⟨x, v, tempo, ps, begins, noted, starts⟩ :=
        State.clockStart_immediate
          (s := { s.received f with
            store := st
            transport :=
              { (s.received f).transport with
                state := .armed, take := some n, click := decide (click = 1), armMode := some .immediate } })
          recording numbered entry rfl rfl rfl rfl
      generalize runs : State.clickStarts _ _ = t at starts
      obtain ⟨transportAfter, announced, scanner, router, tone, pedals, railAfter, clicking⟩ := State.clockRuns_click _ _ _ runs
      refine ⟨_, accepted (mode := .immediate) rfl, ?_⟩
      have begun : State.beginRecording n .immediate (decide (click = 1)) { s.received f with store := st } =
          { t with store := v } := starts
      obtain ⟨recordingAfter, entryAfter, othersAfter, freeListAfter, serialAfter⟩ := begins
      rw [noted, State.heldPayloads_noted rfl] at recordingAfter
      rw [begun]
      refine ⟨serialAfter.trans serialOf, freeListAfter.trans freeList, fun m other => (othersAfter m other).trans (others m other),
        ?_, ?_, announced, ?_, ?_, ?_, ?_, ?_, fun first => absurd first (by decide), fun _ => ⟨?_, ?_, ?_, ⟨_, entryAfter, rfl, rfl, rfl,
          rfl⟩, ?_⟩⟩
      · rw [transportAfter]
      · rw [transportAfter]
      · exact scanner.trans (State.received_scanner f s)
      · exact router.trans (State.received_router f s)
      · exact (congrArg Tone.queue tone).trans (State.received_queue f s)
      · exact pedals.trans (State.received_pedals f s)
      · exact railAfter.trans rail
      · rw [transportAfter]
      · rw [transportAfter]
      · refine ⟨_, recordingAfter, rfl, rfl, rfl, State.received_now f s, rfl, ?_⟩
        simp only [State.received_pedals]
      · exact clicking.trans (by rw [State.received_audio])

end Sys2Proof.Machine
end

section
/-! PROOFS. A first strike in ARMED whose moment lies far behind the command's own (R136, R138, R153). -/

namespace Sys2Proof.Machine

open Sys2Proof

/-- A take armed with its click on and no free block behind its first, 131.1 s after the time base's 0. -/
def lateArmed : State :=
  { State.reset with
    now := 131100000
    transport := { Transport.initial with state := .armed, take := some 1, click := true }
    store :=
      { Store.initial.setEntry 1 (some
          { state := .recording, flags := {}, count := 0, duration := 0, tempo := none, split := 45, name := none, serial := 1,
            first := 0, last := 0, playing := false, exporting := false }) with
        freeList := []
        recording := some (.opened 1) } }

/-- The strike's own time is the time base's 0: 32 GAP expiries fall before the first beat, and the last of them finds the take's only
block full. -/
theorem lateArmed_ends : (lateArmed.liveStrike 40 64 0).transport.state = .idle := by decide +kernel

/-- Refutes O55: in ARMED with click on the first beat is recorded at the time of the command, behind the GAP expiries that fall
between the strike's time and it. Where these meet the reserve line the take is closed and the Transport is IDLE, while the
statement says RECORDING for every strike time. -/
theorem not_liveStrikesReachTheTransport : ¬ Obligations.LiveStrikesReachTheTransport := by
  intro claim
  obtain ⟨_, _, armed, _⟩ := claim
  obtain ⟨recording, _⟩ := armed 40 64 0 (.opened 1) _ lateArmed rfl rfl rfl rfl (by decide) (by decide) rfl rfl rfl rfl rfl rfl
    (by decide) (by decide) (by decide) (by decide) (by decide) (by decide)
  have state : (lateArmed.liveStrike 40 64 0).transport.state = .recording := by rw [recording]
  exact nomatch state.symm.trans lateArmed_ends

end Sys2Proof.Machine
end

section
/-! SUPPORT. The stroke count, the quiet report, and what it leaves of a waiting rail (R34, R89). -/

namespace Sys2Proof.Machine

open Sys2Proof

section Count

variable {s : State} {k : Nat}

/-- The keyboard is quiet while the stroke count is 0 (R34). -/
theorem State.quiet_iff (s : State) : s.quiet = true ↔ s.strokeCount = 0 := by
  simp only [State.quiet, State.strokeCount, List.countP_eq_zero, List.all_eq_true, Bool.not_eq_true', Bool.not_eq_true]

theorem State.quiet_eq_false (s : State) : s.quiet = false ↔ 0 < s.strokeCount := by
  rw [Nat.pos_iff_ne_zero, ne_eq, ← State.quiet_iff, Bool.not_eq_true]

/-- The keyboard is quiet while no key is in flight. -/
theorem State.quiet_iff_keys (s : State) : s.quiet = true ↔ ∀ k, 1 ≤ k → k ≤ 88 → (s.key k).state.inFlight = false := by
  simp only [State.quiet, List.all_eq_true, Bool.not_eq_true']
  constructor
  · intro quiet k low high
    have inside : slotOf k < 88 := by
      rw [slotOf, if_neg (by omega)]
      omega
    rw [State.key, Vector.getElem?_eq_getElem inside, Option.getD_some]
    exact quiet _ (Vector.mem_toList_iff.mpr (Vector.getElem_mem inside))
  · intro keys x member
    obtain ⟨i, inside, rfl⟩ := Vector.getElem_of_mem (Vector.mem_toList_iff.mp member)
    have key := keys (i + 1) (by omega) (by omega)
    rw [State.key, slotOf, if_neg (Nat.succ_ne_zero i), Nat.add_sub_cancel, Vector.getElem?_eq_getElem inside,
      Option.getD_some] at key
    exact key

/-- A key's record replaced moves the stroke count by that key alone (R34). -/
theorem State.strokeCount_setKey (own : 1 ≤ k ∧ k ≤ 88) (x : Key) :
    (s.setKey k x).strokeCount =
      s.strokeCount - (if (s.key k).state.inFlight then 1 else 0) + (if x.state.inFlight then 1 else 0) := by
  have inside : slotOf k < 88 := by
    rw [slotOf, if_neg (by omega)]
    omega
  have replaced : (s.setKey k x).scanner.keys.toList = s.scanner.keys.toList.set (slotOf k) x := by
    simp [State.setKey]
  have key : s.key k = s.scanner.keys.toList[slotOf k]'(by simpa using inside) := by
    rw [State.key, Vector.getElem?_eq_getElem inside, Option.getD_some, Vector.getElem_toList]
  rw [State.strokeCount, replaced, List.countP_set (by simpa using inside), ← key]
  rfl

/-- A key in flight is counted. -/
theorem State.strokeCount_pos (own : 1 ≤ k ∧ k ≤ 88) (flies : (s.key k).state.inFlight = true) : 0 < s.strokeCount := by
  rw [← State.quiet_eq_false, ← Bool.not_eq_true, State.quiet_iff_keys]
  exact fun keys => Bool.false_ne_true ((keys k own.1 own.2).symm.trans flies)

/-- The stroke count reads the Scanner alone. -/
theorem State.strokeCount_congr {t : State} (same : t.scanner.keys = s.scanner.keys) : t.strokeCount = s.strokeCount := by
  rw [State.strokeCount, same, State.strokeCount]

end Count

section Report

variable {s : State} {before after : KeyState} {target : Target}

theorem State.quietReport_still (still : before.inFlight = false ∨ after.inFlight = true) : s.quietReport before after = s := by
  rcases still with rests | flies
  · simp [State.quietReport, rests]
  · simp [State.quietReport, flies]

theorem State.quietReport_busy (busy : s.quiet = false) : s.quietReport before after = s := by
  simp [State.quietReport, busy]

theorem State.quietReport_quiet (flew : before.inFlight = true) (rests : after.inFlight = false) (quiet : s.quiet = true) :
    s.quietReport before after = s.railQuiet := by
  simp [State.quietReport, flew, rests, quiet]

/-- A rail that waits for no quiet hears none (R89). -/
theorem State.railQuiet_other (other : s.rail.state ≠ .waitQuiet) : s.railQuiet = s := by
  simp only [State.railQuiet]
  split
  next waits _ => exact absurd waits other
  · rfl

theorem State.quietReport_other (other : s.rail.state ≠ .waitQuiet) : s.quietReport before after = s := by
  simp only [State.quietReport]
  split
  · exact State.railQuiet_other other
  · rfl

/-- A waiting rail begins its run (R89, R90). -/
theorem State.railQuiet_starts (waits : s.rail.state = .waitQuiet) (toward : s.rail.target = some target) :
    s.railQuiet = s.startRun target := by
  simp only [State.railQuiet, waits, toward]

end Report

end Sys2Proof.Machine
end

section
/-! SUPPORT. A plausible sample of a key in a stroke state: its judgement, its crossings and what it hands on (R27, R35, R44, R45). -/

namespace Sys2Proof.Machine

open Sys2Proof

/-! ### Crossings and speeds -/

section Crossings

variable {x : Nat} {p q : Plausible}

/-- A rising crossing lies on the line between the two samples (R27). -/
theorem crossingTime_rising (above : p.depth < x) :
    crossingTime x p q =
      p.stamp + BitVec.ofNat 32 ((x - p.depth) * (q.stamp - p.stamp).toNat / (rawDistance q.depth p.depth)) := by
  have distance : rawDistance x p.depth = x - p.depth := by
    simp only [rawDistance]
    omega
  rw [crossingTime, distance]
  rfl

/-- A falling crossing lies on the line between the two samples (R27). -/
theorem crossingTime_falling (below : x ≤ p.depth) :
    crossingTime x p q =
      p.stamp + BitVec.ofNat 32 ((p.depth - x) * (q.stamp - p.stamp).toNat / (rawDistance q.depth p.depth)) := by
  have distance : rawDistance x p.depth = p.depth - x := by
    simp only [rawDistance]
    omega
  rw [crossingTime, distance]
  rfl

theorem rawDistance_rising {a b : Nat} (rises : b ≤ a) : rawDistance a b = a - b := by
  simp only [rawDistance]
  omega

theorem rawDistance_falling {a b : Nat} (falls : a ≤ b) : rawDistance a b = b - a := by
  simp only [rawDistance]
  omega

theorem risingAcross_iff (x d0 d1 : Nat) : risingAcross x d0 d1 = true ↔ d0 < x ∧ x ≤ d1 := by
  simp only [risingAcross, Bool.and_eq_true, decide_eq_true_eq]

theorem fallingAcross_iff (x d0 d1 : Nat) : fallingAcross x d0 d1 = true ↔ x ≤ d0 ∧ d1 < x := by
  simp only [fallingAcross, Bool.and_eq_true, decide_eq_true_eq]

/-- The lines of a well-formed set stand in their order (R24). -/
theorem LineSet.ordered {l : LineSet} (h : l.wellFormed = true) : l.start < l.damp ∧ l.damp < l.rearm ∧ l.rearm < l.strike := by
  simp only [LineSet.wellFormed, Bool.and_eq_true, decide_eq_true_eq] at h
  omega

end Crossings

/-! ### A sample judged -/

section Judged

variable {now : Time} {k raw : Nat} {s : State} {p : Plausible} {x : Key} {e : StrokeEvent}

/-- A record replaced and the previous line set released are what the statements call a key's becoming (R26). -/
theorem State.keyBecomes_eq (k : Nat) (x : Key) (s : State) : (s.setKey k x).releasePrevious = s.keyBecomes k x := by
  simp only [State.releasePrevious, State.keyBecomes]
  split
  · rfl
  · rfl

/-- The sample of key `k` at `now`, with its depth (R3, R27). -/
def State.sampleOf (now : Time) (k raw : Nat) (s : State) : Plausible :=
  { raw := raw, depth := depthOf raw (s.key k).cal.restRaw (s.key k).cal.bottomRaw, stamp := now }

/-- The record of key `k` as a plausible sample finds it: the last raw reading taken, the glitch run 0 (R1, R4). -/
def State.sampledKey (k raw : Nat) (s : State) : Key := { s.key k with lastRaw := some raw, glitchRun := 0 }

/-- A plausible sample of a key in a stroke state (R4, R27): the record takes what the judgement says and the sample as the last
plausible one, and what it found is handed on, ahead of the quiet report (R34, R44, R45; assumption 26). -/
theorem exec_strokeSample (on : s.system.mainOn = true) (own : 1 ≤ k ∧ k ≤ 88) (low : 8 ≤ raw) (high : raw ≤ 1015)
    (last : (s.key k).lastPlausible = some p) (stroke : (s.key k).state.isStroke = true)
    (judged : s.strokes.judgeState p (s.sampleOf now k raw) (s.sampledKey k raw) = (x, e)) :
    exec (.keySample now k raw) s =
      .next ((((State.watchSample k raw { s with now := now }).keyBecomes k
        { x with lastPlausible := some (s.sampleOf now k raw) }).handStroke k e).quietReport (s.key k).state x.state) := by
  refine (exec_keySample on own (by omega)).trans (congrArg _ ?_)
  have good : plausible raw = true := (plausible_iff raw).mpr ⟨low, high⟩
  have heard : (State.setKey (State.watchSample k raw { s with now := now }) k { s.key k with lastRaw := some raw }).key k =
      { s.key k with lastRaw := some raw } := State.setKey_state_own own _
  have sampled : ∀ u : State, u.key k = { s.key k with lastRaw := some raw } → u.judgeSample k raw = u.strokeSample k raw := by
    intro u key
    have state : (u.key k).state = (s.key k).state := by rw [key]
    rw [State.judgeSample, state]
    cases at_ : (s.key k).state <;> rw [at_] at stroke
    case rest | descending | struck | rearmed => exact if_pos good
    all_goals exact nomatch stroke
  rw [sampled _ heard]
  have strokes : (State.setKey (State.watchSample k raw { s with now := now }) k { s.key k with lastRaw := some raw }).strokes =
      s.strokes := by simp
  have time : (State.setKey (State.watchSample k raw { s with now := now }) k { s.key k with lastRaw := some raw }).now = now := by
    simp
  have known : s.strokes.judge (s.sampleOf now k raw) (s.sampledKey k raw) =
      ({ x with lastPlausible := some (s.sampleOf now k raw) }, e) := by
    have lastKnown : (s.sampledKey k raw).lastPlausible = some p := last
    simp only [Strokes.judge, lastKnown, judged]
  simp only [State.strokeSample, heard, strokes, time, State.setKey_setKey]
  have found : s.strokes.judge
      { raw := raw, depth := depthOf raw (s.key k).cal.restRaw (s.key k).cal.bottomRaw, stamp := now }
      { s.key k with lastRaw := some raw, glitchRun := 0 } = ({ x with lastPlausible := some (s.sampleOf now k raw) }, e) := known
  rw [found, State.keyBecomes_eq]

/-- What the watch and a key's record leave as they stood. -/
theorem State.heardBecomes_frame (now : Time) (k raw : Nat) (x : Key) (s : State) {b : State}
    (given : (State.watchSample k raw { s with now := now }).keyBecomes k x = b) :
    b.now = now ∧ b.rail = s.rail ∧ b.router = s.router ∧ b.tone = s.tone ∧ b.pedals = s.pedals ∧ b.store = s.store ∧
      b.transport = s.transport ∧ (∀ j, b.sound j = s.sound j) := by
  subst given
  simp [State.keyBecomes, State.sound]

/-- The stroke count once key `k` has become another. -/
theorem State.heardBecomes_strokeCount (now : Time) (own : 1 ≤ k ∧ k ≤ 88) (raw : Nat) (x : Key) (s : State) :
    ((State.watchSample k raw { s with now := now }).keyBecomes k x).strokeCount =
      s.strokeCount - (if (s.key k).state.inFlight then 1 else 0) + (if x.state.inFlight then 1 else 0) := by
  have count : ((State.watchSample k raw { s with now := now }).setKey k x).strokeCount = _ := State.strokeCount_setKey own x
  rw [State.key_watchSample, State.strokeCount_congr (s := s) (State.watchSample_scanner k raw { s with now := now }).1] at count
  exact count

/-- A judgement that hands nothing on and leaves the keyboard as busy as it was. -/
theorem exec_strokeSample_becomes (on : s.system.mainOn = true) (own : 1 ≤ k ∧ k ≤ 88) (low : 8 ≤ raw) (high : raw ≤ 1015)
    (last : (s.key k).lastPlausible = some p) (stroke : (s.key k).state.isStroke = true)
    (judged : s.strokes.judgeState p (s.sampleOf now k raw) (s.sampledKey k raw) = (x, .nothing))
    (still : (s.key k).state.inFlight = false ∨ x.state.inFlight = true) :
    exec (.keySample now k raw) s =
      .next ((State.watchSample k raw { s with now := now }).keyBecomes k
        { x with lastPlausible := some (s.sampleOf now k raw) }) :=
  (exec_strokeSample on own low high last stroke judged).trans (congrArg _ (State.quietReport_still still))

/-- A sample that leaves key `k` at REST, from a state in flight, ends the rail's wait if it was the last in a stroke (R34, R89):
`b` is the state as the key stands, `v` the state behind what was handed on. -/
theorem State.lastReport {b v : State} (own : 1 ≤ k ∧ k ≤ 88) (flew : (s.key k).state.inFlight = true)
    (rests : x.state.inFlight = false) (became : (State.watchSample k raw { s with now := now }).keyBecomes k x = b)
    (scanner : v.scanner = b.scanner) (rail : v.rail = s.rail) (time : v.now = now) {after : KeyState}
    (ends : after.inFlight = false) :
    (s.rail.state ≠ .waitQuiet ∨ s.strokeCount ≠ 1 → v.quietReport (s.key k).state after = v) ∧
      (∀ target, s.rail.state = .waitQuiet → s.strokeCount = 1 → s.rail.target = some target →
        v.quietReport (s.key k).state after = v.startRun target ∧
          s.rail.leavesWait (v.startRun target).rail target now) := by
  have count : v.strokeCount = s.strokeCount - 1 := by
    have counted := State.heardBecomes_strokeCount now own raw x s
    rw [became, flew, rests, if_pos rfl, if_neg Bool.false_ne_true] at counted
    exact (State.strokeCount_congr (congrArg Scanner.keys scanner)).trans counted
  have some_ : 0 < s.strokeCount := State.strokeCount_pos own flew
  refine ⟨fun busy => ?_, fun target waits one toward => ?_⟩
  · rcases busy with other | more
    · exact State.quietReport_other (by rw [rail]; exact other)
    · exact State.quietReport_busy ((State.quiet_eq_false v).mpr (by omega))
  · have quiet : v.quiet = true := (State.quiet_iff v).mpr (by omega)
    refine ⟨?_, ?_⟩
    · rw [State.quietReport_quiet flew ends quiet, State.railQuiet_starts (by rw [rail]; exact waits) (by rw [rail]; exact toward)]
    · have leaves := State.startRun_leavesWait target v
      rw [rail, time] at leaves
      exact leaves

end Judged

/-! ### The monitor copies of a live intent -/

section Copies

variable {b u : State} {k v : Nat} {owner source : Source} {transit : Bool} {m : Time}

/-- The monitor copies of key `k`'s entries: none while the copy is off, and each at the tail of the Panel Stream while the copy
covers the key and there is room (R67, R197). -/
def State.copied (k : Nat) (entries : List PanelEntry) (b u : State) : Prop :=
  (b.router.copy = .off → u.panel = b.panel) ∧
    (b.router.copy.covers k = true → b.panel.stream.length + entries.length ≤ 64 → u.panel.stream = b.panel.stream ++ entries)

theorem State.offerNote_copied (e : ToneEntry) (k : Nat) (c : Option Cause) (b : State) :
    State.copied k [.noteCopy e c (b.offerTone e).2] b (b.offerNote e k c).1 := by
  obtain ⟨panel, copied, stream⟩ := b.offerNote_copies e k c
  refine ⟨fun off => ?_, fun covers room => ?_⟩
  · have copy : (b.offerTone e).1.router.copy = .off := by rw [State.offerTone_router, off]
    simp [State.offerNote, copy, CopySetting.covers]
  · rw [copied]
    exact stream covers (by simp only [List.length_cons, List.length_nil] at room; omega)

/-- An ON intent for a SILENT key changes the Panel Stream by its copy alone. -/
theorem State.onSilent_panel (k v : Nat) (source : Source) (transit : Bool) (m : Time) (b : State) :
    (b.onSilent k v source transit m).panel = (b.offerNote (.noteOn k v source { transit := transit } m) k none).1.panel := by
  simp only [State.onSilent]
  split <;> rfl

theorem State.onRestrike_panel (k v : Nat) (owner source : Source) (transit : Bool) (m : Time) (b : State) :
    (b.onRestrike k v owner source transit m).panel =
      ((b.restrikeOff k owner m).offerNote (.noteOn k v source { restrike := true, transit := transit } m) k none).1.panel := by
  simp only [State.onRestrike]
  split <;> rfl

/-- A SILENT key sounds with one NOTE_ON (R58). -/
theorem State.onIntent_sounds (own : 1 ≤ k ∧ k ≤ 88) (silent : (b.sound k).owner = none) (room : b.tone.queue.length < 168)
    (given : b.onIntent k v source transit m = u) :
    u.sound k = .sounded source v ∧ (∀ j, j ≠ k → u.sound j = b.sound j) ∧ u.router.sostenutoSet = b.router.sostenutoSet ∧
      u.tone.queue = b.tone.queue ++ [{ entry := .noteOn k v source { transit := transit } m, admitted := b.now }] ∧
      State.copied k [.noteCopy (.noteOn k v source { transit := transit } m) none .admitted] b u := by
  have judged := (State.offerTone_noteOn (e := .noteOn k v source { transit := transit } m) (s := b) rfl).trans (if_pos room)
  obtain ⟨panel, offered, _⟩ := State.offerNote_joins (k := k) (c := none) judged
  have copied := b.offerNote_copied (.noteOn k v source { transit := transit } m) k none
  rw [judged] at copied
  simp only [State.onIntent, silent] at given
  rw [State.copied, ← State.onSilent_panel, given] at copied
  have sounded : u = State.setSound { b with
      tone := b.tone.enqueue (.noteOn k v source { transit := transit } m) b.now, panel := panel } k (.sounded source v) := by
    rw [← given, State.onSilent, offered]
  refine ⟨?_, fun j other => ?_, ?_, ?_, copied⟩
  · rw [sounded]
    exact State.sound_own own _
  · rw [sounded]
    exact State.sound_other other _
  · rw [sounded]
    rfl
  · rw [sounded]
    rfl

/-- A NOTE_ON that finds no room is refused, and counted (R58). -/
theorem State.onIntent_refused (silent : (b.sound k).owner = none) (full : 168 ≤ b.tone.queue.length)
    (given : b.onIntent k v source transit m = u) :
    u.router = { b.router with droppedOn := min (b.router.droppedOn + 1) 65535 } ∧ u.tone = b.tone ∧
      State.copied k [.noteCopy (.noteOn k v source { transit := transit } m) none .refused] b u := by
  have judged := (State.offerTone_noteOn (e := .noteOn k v source { transit := transit } m) (s := b) rfl).trans
    (if_neg (Nat.not_lt.mpr full))
  obtain ⟨panel, offered⟩ := State.offerNote_refused (k := k) (c := none) judged
  have copied := b.offerNote_copied (.noteOn k v source { transit := transit } m) k none
  rw [judged] at copied
  simp only [State.onIntent, silent] at given
  rw [State.copied, ← State.onSilent_panel, given] at copied
  have refused : u = State.countDropped { b with panel := panel } := by
    rw [← given, State.onSilent, offered]
  refine ⟨?_, ?_, copied⟩
  · rw [refused]
    rfl
  · rw [refused]
    rfl

/-- A key that sounds and is announced is struck again with a NOTE_OFF and a NOTE_ON (R59). -/
theorem State.onIntent_restrikes (own : 1 ≤ k ∧ k ≤ 88) (sounding : (b.sound k).owner = some owner)
    (announced : (b.sound k).announced = true) (room : b.tone.queue.length < 167)
    (given : b.onIntent k v source transit m = u) :
    u.sound k = .sounded source v ∧ (∀ j, j ≠ k → u.sound j = b.sound j) ∧ u.router.sostenutoSet = b.router.sostenutoSet ∧
      u.tone.queue =
        b.tone.queue ++ [restrikeOffQueued k owner m b, restrikeOnQueued k v source transit m b] ∧
      State.copied k [.noteCopy (.noteOff k 64 owner { restrike := true } m) none .admitted,
        .noteCopy (.noteOn k v source { restrike := true, transit := transit } m) none .admitted] b u := by
  simp only [State.onIntent, sounding] at given
  obtain ⟨⟨sound, set, _⟩, queue, others, _⟩ := State.onRestrike_sounds (k := k) (velocity := v) (owner := owner)
    (source := source) (transit := transit) (time := m) own (s := b) (by rw [if_pos announced]; exact room)
  rw [given] at sound set queue others
  rw [if_pos announced] at queue
  refine ⟨sound, others, set, queue, ?_⟩
  have offJudged := (State.offerTone_overflows (e := .noteOff k 64 owner { restrike := true } m) (s := b) trivial).trans
    (if_pos (by omega))
  have offCopied := b.offerNote_copied (.noteOff k 64 owner { restrike := true } m) k none
  have first : b.restrikeOff k owner m = (b.offerNote (.noteOff k 64 owner { restrike := true } m) k none).1 := if_pos announced
  obtain ⟨panel, offered, _⟩ := State.offerNote_joins (k := k) (c := none) offJudged
  rw [offJudged, ← first] at offCopied
  rw [offered] at first
  have copy : (b.restrikeOff k owner m).router.copy = b.router.copy := by rw [first]
  have length : (b.restrikeOff k owner m).tone.queue.length = b.tone.queue.length + 1 := by
    rw [first]
    simp [Tone.enqueue]
  have onJudged := (State.offerTone_noteOn (e := .noteOn k v source { restrike := true, transit := transit } m)
    (s := b.restrikeOff k owner m) rfl).trans (if_pos (by omega))
  have onCopied := (b.restrikeOff k owner m).offerNote_copied
    (.noteOn k v source { restrike := true, transit := transit } m) k none
  rw [onJudged, State.copied, ← State.onRestrike_panel, given, copy] at onCopied
  obtain ⟨offSilent, offJoins⟩ := offCopied
  obtain ⟨onSilent, onJoins⟩ := onCopied
  refine ⟨fun off => (onSilent off).trans (offSilent off), fun covers few => ?_⟩
  have tail := offJoins covers (by simp only [List.length_cons, List.length_nil] at few ⊢; omega)
  rw [onJoins covers (by rw [tail]; simp only [List.length_append, List.length_cons, List.length_nil] at few ⊢; omega), tail,
    List.append_assoc]
  rfl

/-- A key that sounds for the source of an OFF intent, announced and not held by sostenuto, is silenced with one NOTE_OFF (R60). -/
theorem State.offIntent_silences (own : 1 ≤ k ∧ k ≤ 88) (sounding : (b.sound k).owner = some source)
    (announced : (b.sound k).announced = true)
    (free : k ∉ b.router.sostenutoSet ∨ b.pedals.sostenuto.effective = false) (room : b.tone.queue.length < 192)
    (given : b.offIntent k v source m = u) :
    u.sound k = (b.sound k).silenced ∧ (∀ j, j ≠ k → u.sound j = b.sound j) ∧ u.router.sostenutoSet = b.router.sostenutoSet ∧
      u.tone.queue = b.tone.queue ++ [{ entry := .noteOff k v source {} m, admitted := b.now }] ∧
      State.copied k [.noteCopy (.noteOff k v source {} m) none .admitted] b u := by
  have silences : u = b.silenceWith k v source {} none m := by
    have unheld : (b.router.sostenutoSet.contains k && b.pedals.sostenuto.effective) = false := by
      rcases free with out | off
      · simp [out]
      · simp [off]
    rw [← given]
    simp only [State.offIntent, sounding]
    rw [if_neg (not_not.mpr rfl), unheld, if_neg Bool.false_ne_true]
  have judged := (State.offerTone_overflows (e := .noteOff k v source {} m) (s := b.silence k) trivial).trans (if_pos room)
  have copied := (b.silence k).offerNote_copied (.noteOff k v source {} m) k none
  rw [judged, ← (b.silenceWith_cases k v source {} none m).2 announced, ← silences] at copied
  obtain ⟨panel, joined, _⟩ := State.silenceWith_joins (k := k) (v := v) (owner := source) (flags := {}) (c := none) (m := m)
    announced room
  rw [← silences] at joined
  refine ⟨?_, fun j other => ?_, ?_, ?_, copied⟩
  · rw [joined]
    exact State.sound_own own _
  · rw [joined]
    exact State.sound_other other _
  · rw [joined]
    rfl
  · rw [joined]
    rfl

end Copies

/-! ### A strike and a release at the Note Router -/

theorem State.liveStrike_idle {u : State} (idle : u.transport.state = .idle) (k v : Nat) (m : Time) : u.liveStrike k v m = u := by
  simp only [State.liveStrike, idle]

theorem State.liveRelease_still {u : State} (still : u.transport.state ≠ .recording) (k v : Nat) (m : Time) :
    u.liveRelease k v m = u := if_neg still

section Router

variable {now : Time} {k raw v : Nat} {m : Time} {x : Key} {s : State}

/-- A copy over the state as key `k` stands is one over what the watch has heard. -/
theorem State.copied.heard {entries : List PanelEntry} {u : State}
    (h : State.copied k entries ((State.watchSample k raw { s with now := now }).keyBecomes k x) u) :
    (s.router.copy = .off → u.panel = (State.watchSample k raw { s with now := now }).panel) ∧
      (s.router.copy.covers k = true →
        (State.watchSample k raw { s with now := now }).panel.stream.length + entries.length ≤ 64 →
        u.panel.stream = (State.watchSample k raw { s with now := now }).panel.stream ++ entries) := by
  obtain ⟨_, _, router, _⟩ := State.heardBecomes_frame now k raw x s rfl
  rw [State.copied, router] at h
  exact h

/-- A live strike at the Note Router (R58, R59, R67): a SILENT key sounds or is refused, and an announced key of LIVE is struck
again. -/
theorem State.strike_routed (own : 1 ≤ k ∧ k ≤ 88) (transit : Bool) {heard before u : State}
    (hears : State.watchSample k raw { s with now := now } = heard) (becomes : heard.keyBecomes k x = before)
    (given : before.onIntent k v .live transit m = u) :
    let on : ToneEntry := .noteOn k v .live { transit := transit } m
    let off : ToneEntry := .noteOff k 64 .live { restrike := true } m
    let again : ToneEntry := .noteOn k v .live { restrike := true, transit := transit } m
    let sounds : Prop :=
      u.sound k = { owner := some .live, lastVelocity := some v, released := false, announced := true } ∧
      (∀ j, j ≠ k → u.sound j = s.sound j) ∧ u.router.sostenutoSet = s.router.sostenutoSet
    let copies (entries : List PanelEntry) : Prop :=
      (s.router.copy = .off → u.panel = heard.panel) ∧
      (s.router.copy.covers k = true → heard.panel.stream.length + entries.length ≤ 64 →
        u.panel.stream = heard.panel.stream ++ entries)
    u.scanner = before.scanner ∧ u.strokes = before.strokes ∧ u.pedals = s.pedals ∧ u.rail = s.rail ∧ u.store = s.store ∧
      u.transport = s.transport ∧
      ((s.sound k).owner = none → s.tone.queue.length < 168 →
        sounds ∧ u.tone.queue = s.tone.queue ++ [{ entry := on, admitted := now }] ∧ copies [.noteCopy on none .admitted]) ∧
      ((s.sound k).owner = none → 168 ≤ s.tone.queue.length →
        u.router = { s.router with droppedOn := min (s.router.droppedOn + 1) 65535 } ∧ u.tone = s.tone ∧
        copies [.noteCopy on none .refused]) ∧
      ((s.sound k).owner = some .live → (s.sound k).announced = true → s.tone.queue.length < 167 →
        sounds ∧
        u.tone.queue = s.tone.queue ++ [{ entry := off, admitted := now }, { entry := again, admitted := now }] ∧
        copies [.noteCopy off none .admitted, .noteCopy again none .admitted]) := by
  subst hears
  obtain ⟨time, rail, router, tone, pedals, store, transport, sound⟩ := State.heardBecomes_frame now k raw x s becomes
  intro on off again sounds copies
  have copiesOf {entries : List PanelEntry} (h : State.copied k entries before u) : copies entries := by
    rw [← becomes] at h
    exact h.heard
  refine ⟨by simp [← given], by simp [← given], by simp [← given, pedals], by simp [← given, rail], by simp [← given, store],
    by simp [← given, transport], fun silent room => ?_, fun silent full => ?_, fun sounding announced room => ?_⟩
  · obtain ⟨own_, others, set, queue, copied⟩ :=
      State.onIntent_sounds own ((sound k).symm ▸ silent) (tone.symm ▸ room) given
    simp only [sound, router, tone, time] at others set queue
    exact ⟨⟨own_, others, set⟩, queue, copiesOf copied⟩
  · obtain ⟨counted, kept, copied⟩ := State.onIntent_refused ((sound k).symm ▸ silent) (tone.symm ▸ full) given
    rw [router] at counted
    exact ⟨counted, kept.trans tone, copiesOf copied⟩
  · obtain ⟨own_, others, set, queue, copied⟩ :=
      State.onIntent_restrikes own ((sound k).symm ▸ sounding) ((sound k).symm ▸ announced) (tone.symm ▸ room) given
    simp only [sound, router, tone, restrikeOffQueued, restrikeOnQueued, time] at others set queue
    exact ⟨⟨own_, others, set⟩, queue, copiesOf copied⟩

/-- A live release at the Note Router (R60, R67): an announced key of LIVE that sostenuto does not hold is silenced. -/
theorem State.release_routed (own : 1 ≤ k ∧ k ≤ 88) {heard before u : State}
    (hears : State.watchSample k raw { s with now := now } = heard) (becomes : heard.keyBecomes k x = before)
    (given : before.offIntent k v .live m = u) :
    let off : ToneEntry := .noteOff k v .live {} m
    u.scanner = before.scanner ∧ u.strokes = before.strokes ∧ u.pedals = s.pedals ∧ u.rail = s.rail ∧ u.store = s.store ∧
      u.transport = s.transport ∧
      ((s.sound k).owner = some .live → (s.sound k).announced = true →
        (k ∉ s.router.sostenutoSet ∨ s.pedals.sostenuto.effective = false) → s.tone.queue.length < 192 →
        u.sound k = { s.sound k with owner := none, released := false, announced := false } ∧
        (∀ j, j ≠ k → u.sound j = s.sound j) ∧ u.router.sostenutoSet = s.router.sostenutoSet ∧
        u.tone.queue = s.tone.queue ++ [{ entry := off, admitted := now }] ∧
        (s.router.copy = .off → u.panel = heard.panel) ∧
        (s.router.copy.covers k = true → heard.panel.stream.length < 64 →
          u.panel.stream = heard.panel.stream ++ [.noteCopy off none .admitted])) := by
  subst hears
  obtain ⟨time, rail, router, tone, pedals, store, transport, sound⟩ := State.heardBecomes_frame now k raw x s becomes
  intro off
  refine ⟨by simp [← given], by simp [← given], by simp [← given, pedals], by simp [← given, rail], by simp [← given, store],
    by simp [← given, transport], fun sounding announced free room => ?_⟩
  obtain ⟨own_, others, set, queue, copied⟩ :=
    State.offIntent_silences own ((sound k).symm ▸ sounding) ((sound k).symm ▸ announced)
      (by rw [router, pedals]; exact free) (tone.symm ▸ room) given
  simp only [sound, router, tone, time] at own_ others set queue
  rw [← becomes] at copied
  obtain ⟨silent, joins⟩ := copied.heard
  exact ⟨own_, others, set, queue, silent, joins⟩

end Router

end Sys2Proof.Machine
end

section
/-! PROOFS. Samples of a key on its way down: strokes begun, turned back and struck (R27 to R30, R33). -/

namespace Sys2Proof.Machine

open Sys2Proof

section Down

variable {st : Strokes} {l : LineSet} {p q : Plausible} {x : Key} {t : Timing}

theorem Strokes.judgeState_rest (state : x.state = .rest) : st.judgeState p q x = st.inRest (st.lines x) p q x := by
  simp only [Strokes.judgeState, state]

theorem Strokes.judgeState_descending (state : x.state = .descending) (timing : x.timing = some t) :
    st.judgeState p q x = st.inDescending (st.lines x) p q (x.slowChecked st.slowLimit q) t := by
  simp only [Strokes.judgeState, state, timing]

theorem Strokes.judgeState_rearmed (state : x.state = .rearmed) (timing : x.timing = some t) :
    st.judgeState p q x = st.inRearmed (st.lines x) p q (x.slowChecked st.slowLimit q) t := by
  simp only [Strokes.judgeState, state, timing]

/-- The slow check of a timed key moves its slow mark alone (R30). -/
theorem Key.slowChecked_timed (timing : x.timing = some t) (limit : Nat) :
    x.slowChecked limit q = { x with slowMark := x.slowMark || decide (limit * 1000 < elapsed q.stamp t.time) } := by
  simp only [Key.slowChecked, timing]

end Down

/-- Settles O28: the judgement of each stroke state by the crossings of the sample, and one argument for every strike. -/
theorem strikeSoundsTheKey : Obligations.StrikeSoundsTheKey := by
  intro now k raw p s on low high rawLow rawHigh last formed heard l depth key rises falls crossed slow velocity transit becomes
    struck strikes
  have own : 1 ≤ k ∧ k ≤ 88 := ⟨low, high⟩
  obtain ⟨startDamp, dampRearm, rearmStrike⟩ := LineSet.ordered formed
  have across {x : Nat} : rises x → risingAcross x p.depth (s.sampleOf now k raw).depth = true := (risingAcross_iff _ _ _).mpr
  have notAcross {x : Nat} (none : ¬rises x) : risingAcross x p.depth (s.sampleOf now k raw).depth = false :=
    Bool.eq_false_iff.mpr (fun h => none ((risingAcross_iff _ _ _).mp h))
  have dropping {x : Nat} : falls x → fallingAcross x p.depth (s.sampleOf now k raw).depth = true := (fallingAcross_iff _ _ _).mpr
  have notDropping {x : Nat} (none : ¬falls x) : fallingAcross x p.depth (s.sampleOf now k raw).depth = false :=
    Bool.eq_false_iff.mpr (fun h => none ((fallingAcross_iff _ _ _).mp h))
  have crossing {x : Nat} (above : p.depth < x) (higher : p.depth < depth) :
      crossingTime x p (s.sampleOf now k raw) = crossed x := by
    have distance : rawDistance (s.sampleOf now k raw).depth p.depth = depth - p.depth := rawDistance_rising higher.le
    rw [crossingTime_rising above, distance]
    rfl
  have strikesOf {x : Key} {d : Nat} {start : Time} {marked : Bool} (mark : x.slowMark = marked) (stroke : (s.key k).state.isStroke = true) (reaches : rises l.strike)
      (same : x.struck = (s.sampledKey k raw).struck) (cal : x.cal = (s.key k).cal)
      (judged : s.strokes.judgeState p (s.sampleOf now k raw) (s.sampledKey k raw) =
        s.strokes.strikeOf x d l.strike start p (s.sampleOf now k raw)) : strikes (velocity marked d start) := by
    subst mark
    have speed : s.strokes.strikeVelocity x.slowMark x.cal.trim d start (crossed l.strike) = velocity x.slowMark d start := by
      rw [cal]
      rfl
    rw [Strokes.strikeOf, crossing reaches.1 (lt_of_lt_of_le reaches.1 reaches.2), speed, same] at judged
    have hits := (exec_strokeSample on own rawLow rawHigh last stroke judged).trans
      (congrArg _ (State.quietReport_still (.inr rfl)))
    have moves : (heard.keyBecomes k struck).rail.state.moving = transit := by
      obtain ⟨_, rail, _⟩ := State.heardBecomes_frame now k raw struck s rfl
      have same : (heard.keyBecomes k struck).rail = s.rail := rail
      rw [same]
      simp only [transit]
      cases s.rail.state <;> rfl
    have run : exec (.keySample now k raw) s =
        .next (((heard.keyBecomes k struck).onIntent k (velocity x.slowMark d start) .live transit (crossed l.strike)).liveStrike k
          (velocity x.slowMark d start) (crossed l.strike)) := by
      rw [← moves]
      exact hits
    obtain ⟨scanner, strokes, pedals, rail, store, transport, told⟩ := State.strike_routed (now := now) (raw := raw) (x := struck)
      (v := velocity x.slowMark d start) (m := crossed l.strike) (s := s) own transit rfl rfl rfl
    exact ⟨run, fun idle => run.trans (congrArg _ (State.liveStrike_idle ((congrArg Transport.state transport).trans idle) _ _ _)),
      scanner, strokes, pedals, rail, store, transport, told⟩
  have lines : s.strokes.lines (s.sampledKey k raw) = l := rfl
  have checked {t : Timing} (timing : key.timing = some t) :
      (s.sampledKey k raw).slowChecked s.strokes.slowLimit (s.sampleOf now k raw) =
        { s.sampledKey k raw with slowMark := slow t.time } :=
    Key.slowChecked_timed (x := s.sampledKey k raw) timing _
  have becomesOf {x : Key} (stroke : (s.key k).state.isStroke = true)
      (judged : s.strokes.judgeState p (s.sampleOf now k raw) (s.sampledKey k raw) = (x, .nothing))
      (still : (s.key k).state.inFlight = false ∨ x.state.inFlight = true) :
      becomes { x with lastPlausible := some (s.sampleOf now k raw) } :=
    exec_strokeSample_becomes on own rawLow rawHigh last stroke judged still
  refine ⟨fun rest => ?_, fun start descending timing => ?_, fun start rearmed timing rises_ => ?_,
    fun start rearmed timing rises_ => ?_⟩
  · have stroke : (s.key k).state.isStroke = true := (congrArg KeyState.isStroke rest).trans rfl
    have resting : (s.key k).state.inFlight = false := (congrArg KeyState.inFlight rest).trans rfl
    have judge := Strokes.judgeState_rest (st := s.strokes) (p := p) (q := s.sampleOf now k raw) (x := s.sampledKey k raw) rest
    rw [lines] at judge
    refine ⟨fun none => ?_, fun begins short => ?_, fun begins reaches => ?_⟩
    · simp only [Strokes.inRest, notAcross none, Bool.false_eq_true, if_false] at judge
      exact becomesOf stroke judge (.inl resting)
    · have below : (s.sampleOf now k raw).depth < l.strike := short
      simp only [Strokes.inRest, across begins, if_true, below, crossing begins.1 (lt_of_lt_of_le begins.1 begins.2)] at judge
      exact becomesOf stroke judge (.inl resting)
    · have above : ¬(s.sampleOf now k raw).depth < l.strike := Nat.not_lt.mpr reaches
      simp only [Strokes.inRest, across begins, if_true, if_neg above, crossing begins.1 (lt_of_lt_of_le begins.1 begins.2)] at judge
      exact strikesOf (x := (s.sampledKey k raw).startTiming .start (crossed l.start)) rfl stroke ⟨begins.1.trans (startDamp.trans (dampRearm.trans rearmStrike)), reaches⟩
        rfl rfl judge
  · have stroke : (s.key k).state.isStroke = true := (congrArg KeyState.isStroke descending).trans rfl
    have flies : (s.key k).state.inFlight = true := (congrArg KeyState.inFlight descending).trans rfl
    have judge := Strokes.judgeState_descending (st := s.strokes) (p := p) (q := s.sampleOf now k raw) (x := s.sampledKey k raw)
      descending timing
    rw [lines, checked timing] at judge
    refine ⟨fun reaches => ?_, fun drops => ?_, fun none stays => ?_⟩
    · simp only [Strokes.inDescending, across reaches, if_true] at judge
      exact strikesOf (x := { s.sampledKey k raw with slowMark := slow start }) rfl stroke reaches rfl rfl judge
    · have none : ¬rises l.strike := fun reaches =>
        absurd (lt_of_le_of_lt reaches.2 (drops.2.trans (startDamp.trans (dampRearm.trans rearmStrike)))) (lt_irrefl _)
      simp only [Strokes.inDescending, notAcross none, Bool.false_eq_true, if_false, dropping drops, if_true] at judge
      intro back
      have run := exec_strokeSample on own rawLow rawHigh last stroke judge
      obtain ⟨time, rail, router, tone, pedals, store, transport, _⟩ := State.heardBecomes_frame now k raw back s rfl
      obtain ⟨ends, starts⟩ := State.lastReport (x := back) (now := now) (raw := raw) own flies rfl rfl rfl rail time
        (after := .rest) rfl
      refine ⟨fun busy => run.trans (congrArg _ (ends busy)), fun target waits one toward => ?_⟩
      obtain ⟨report, leaves⟩ := starts target waits one toward
      obtain ⟨_, _, scanner, strokes, pedalsAfter, routerAfter, toneAfter, storeAfter, transportAfter, _, panel, _⟩ :=
        State.startRun_frame target (heard.keyBecomes k back)
      exact ⟨_, run.trans (congrArg _ report), scanner, strokes, leaves, State.startRun_announces _ _, routerAfter.trans router,
        toneAfter.trans tone, pedalsAfter.trans pedals, storeAfter.trans store, transportAfter.trans transport, panel⟩
    · simp only [Strokes.inDescending, notAcross none, Bool.false_eq_true, if_false, notDropping stays] at judge
      exact becomesOf stroke judge (.inr flies)
  · have stroke : (s.key k).state.isStroke = true := (congrArg KeyState.isStroke rearmed).trans rfl
    have flies : (s.key k).state.inFlight = true := (congrArg KeyState.inFlight rearmed).trans rfl
    have judge := Strokes.judgeState_rearmed (st := s.strokes) (p := p) (q := s.sampleOf now k raw) (x := s.sampledKey k raw)
      rearmed timing
    have held : ¬falls l.damp := fun drops => absurd (lt_of_le_of_lt rises_.2 (drops.2.trans dampRearm)) (lt_irrefl _)
    rw [lines, checked timing] at judge
    simp only [Strokes.inRearmed, notDropping held, Bool.false_eq_true, if_false, across rises_, if_true,
      crossing rises_.1 (lt_of_lt_of_le rises_.1 rises_.2)] at judge
    refine ⟨fun short => ?_, fun reaches => ?_⟩
    · have below : (s.sampleOf now k raw).depth < l.strike := short
      simp only [if_pos below] at judge
      exact becomesOf stroke judge (.inr flies)
    · have above : ¬(s.sampleOf now k raw).depth < l.strike := Nat.not_lt.mpr reaches
      simp only [if_neg above] at judge
      exact strikesOf (x := Key.startTiming .rearmUp (crossed l.rearm) { s.sampledKey k raw with slowMark := slow start }) rfl stroke
        ⟨rises_.1.trans rearmStrike, reaches⟩ rfl rfl judge
  · have stroke : (s.key k).state.isStroke = true := (congrArg KeyState.isStroke rearmed).trans rfl
    have judge := Strokes.judgeState_rearmed (st := s.strokes) (p := p) (q := s.sampleOf now k raw) (x := s.sampledKey k raw)
      rearmed timing
    rw [lines, checked timing] at judge
    simp only [Strokes.inRearmed, across rises_, if_true] at judge
    exact strikesOf (x := { s.sampledKey k raw with slowMark := slow start }) rfl stroke rises_ rfl rfl judge

end Sys2Proof.Machine
end

section
/-! PROOFS. Samples of a key on its way up: REARMED, its restarts and the release (R27, R31 to R33, R45). -/

namespace Sys2Proof.Machine

open Sys2Proof

theorem Strokes.judgeState_struck {st : Strokes} {p q : Plausible} {x : Key} (state : x.state = .struck) :
    st.judgeState p q x = st.inStruck (st.lines x) p q x := by
  simp only [Strokes.judgeState, state]

/-- Settles O29: the judgement of STRUCK and REARMED by the crossings of the sample, and one argument for every release. -/
theorem releaseSilencesTheKey : Obligations.ReleaseSilencesTheKey := by
  intro now k raw p s on low high rawLow rawHigh last formed heard l depth key rises falls crossed slow becomes restarted rested
    releases
  have own : 1 ≤ k ∧ k ≤ 88 := ⟨low, high⟩
  obtain ⟨startDamp, dampRearm, rearmStrike⟩ := LineSet.ordered formed
  have across {x : Nat} : rises x → risingAcross x p.depth (s.sampleOf now k raw).depth = true := (risingAcross_iff _ _ _).mpr
  have notAcross {x : Nat} (none : ¬rises x) : risingAcross x p.depth (s.sampleOf now k raw).depth = false :=
    Bool.eq_false_iff.mpr (fun h => none ((risingAcross_iff _ _ _).mp h))
  have dropping {x : Nat} : falls x → fallingAcross x p.depth (s.sampleOf now k raw).depth = true := (fallingAcross_iff _ _ _).mpr
  have notDropping {x : Nat} (none : ¬falls x) : fallingAcross x p.depth (s.sampleOf now k raw).depth = false :=
    Bool.eq_false_iff.mpr (fun h => none ((fallingAcross_iff _ _ _).mp h))
  have crossing {x : Nat} (drops : falls x) : crossingTime x p (s.sampleOf now k raw) = crossed x := by
    have distance : rawDistance (s.sampleOf now k raw).depth p.depth = p.depth - depth :=
      rawDistance_falling (drops.2.trans_le drops.1).le
    rw [crossingTime_falling drops.1, distance]
    rfl
  have lines : s.strokes.lines (s.sampledKey k raw) = l := rfl
  have checked {t : Timing} (timing : key.timing = some t) :
      (s.sampledKey k raw).slowChecked s.strokes.slowLimit (s.sampleOf now k raw) =
        { s.sampledKey k raw with slowMark := slow t.time } :=
    Key.slowChecked_timed (x := s.sampledKey k raw) timing _
  have releasesOf {x : Key} {start : Time} {marked : Bool} (mark : x.slowMark = marked) (flies : (s.key k).state.inFlight = true)
      (stroke : (s.key k).state.isStroke = true) (drops : falls l.damp) (same : x.toRest = (s.sampledKey k raw).toRest)
      (judged : s.strokes.judgeState p (s.sampleOf now k raw) (s.sampledKey k raw) =
        s.strokes.releaseOf x l start p (s.sampleOf now k raw)) : releases marked start := by
    subst mark
    let velocity : Nat := s.strokes.releaseVelocity x.slowMark (l.rearm - l.damp) start (crossed l.damp)
    let before : State := heard.keyBecomes k rested
    let u : State := before.offIntent k velocity .live (crossed l.damp)
    let v : State := u.liveRelease k velocity (crossed l.damp)
    rw [Strokes.releaseOf, crossing drops, same] at judged
    have run : exec (.keySample now k raw) s = .next (v.quietReport (s.key k).state .rest) :=
      exec_strokeSample on own rawLow rawHigh last stroke judged
    obtain ⟨scanner, strokes, pedals, rail, store, transport, told⟩ := State.release_routed (now := now) (raw := raw)
      (x := rested) (v := velocity) (m := crossed l.damp) (s := s) own (u := u) rfl rfl rfl
    have time : u.now = now :=
      (State.offIntent_frame k velocity .live (crossed l.damp) before).1.trans (State.heardBecomes_frame now k raw rested s rfl).1
    obtain ⟨timeAfter, _, scannerAfter, strokesAfter, pedalsAfter, routerAfter, toneAfter, railAfter, _⟩ :=
      State.liveRelease_frame k velocity (crossed l.damp) u
    obtain ⟨ends, starts⟩ := State.lastReport (x := rested) (v := v) (now := now) (raw := raw) own flies rfl rfl
      (scannerAfter.trans scanner) (railAfter.trans rail) (timeAfter.trans time) (after := .rest) rfl
    refine ⟨fun busy => run.trans (congrArg _ (ends busy)), fun target waits one toward => ?_,
      fun still => State.liveRelease_still (fun records => still ((congrArg Transport.state transport).symm.trans records)) _ _ _,
      scanner, strokes, pedals, rail, store, transport, told⟩
    obtain ⟨report, leaves⟩ := starts target waits one toward
    obtain ⟨_, _, scannerRun, strokesRun, pedalsRun, routerRun, toneRun, storeRun, transportRun, _, panelRun, _⟩ :=
      State.startRun_frame target v
    exact ⟨_, run.trans (congrArg _ report), scannerRun.trans (scannerAfter.trans scanner),
      strokesRun.trans (strokesAfter.trans strokes), leaves, State.startRun_announces _ _, routerRun.trans routerAfter,
      toneRun.trans toneAfter, pedalsRun.trans (pedalsAfter.trans pedals), storeRun, transportRun, panelRun⟩
  have becomesOf {x : Key} (stroke : (s.key k).state.isStroke = true)
      (judged : s.strokes.judgeState p (s.sampleOf now k raw) (s.sampledKey k raw) = (x, .nothing))
      (still : (s.key k).state.inFlight = false ∨ x.state.inFlight = true) :
      becomes { x with lastPlausible := some (s.sampleOf now k raw) } :=
    exec_strokeSample_becomes on own rawLow rawHigh last stroke judged still
  have restartsOf {x : Key} (stroke : (s.key k).state.isStroke = true) (flies : (s.key k).state.inFlight = true)
      (drops : falls l.rearm) (same : x.startTiming .rearmDown (crossed l.rearm) =
        (s.sampledKey k raw).startTiming .rearmDown (crossed l.rearm))
      (judged : s.strokes.judgeState p (s.sampleOf now k raw) (s.sampledKey k raw) =
        s.strokes.throughRearm l p (s.sampleOf now k raw) x) :
      (l.damp ≤ depth → becomes restarted) ∧ (depth < l.damp → releases false (crossed l.rearm)) := by
    simp only [Strokes.throughRearm, crossing drops, same] at judged
    refine ⟨fun above => ?_, fun below => ?_⟩
    · rw [if_neg (Nat.not_lt.mpr (show l.damp ≤ (s.sampleOf now k raw).depth from above))] at judged
      exact becomesOf stroke judged (.inr rfl)
    · rw [if_pos (show (s.sampleOf now k raw).depth < l.damp from below)] at judged
      exact releasesOf (x := (s.sampledKey k raw).startTiming .rearmDown (crossed l.rearm)) rfl flies stroke
        ⟨dampRearm.le.trans drops.1, below⟩ rfl judged
  refine ⟨fun struck => ?_, fun start rearmed timing => ?_, fun start rearmed timing => ?_⟩
  · have stroke : (s.key k).state.isStroke = true := (congrArg KeyState.isStroke struck).trans rfl
    have flies : (s.key k).state.inFlight = true := (congrArg KeyState.inFlight struck).trans rfl
    have judge := Strokes.judgeState_struck (st := s.strokes) (p := p) (q := s.sampleOf now k raw) (x := s.sampledKey k raw) struck
    rw [lines] at judge
    refine ⟨fun stays => ?_, fun drops => ?_, fun drops => ?_⟩
    · simp only [Strokes.inStruck, notDropping stays, Bool.false_eq_true, if_false] at judge
      exact becomesOf stroke judge (.inr flies)
    · simp only [Strokes.inStruck, dropping drops, if_true] at judge
      exact (restartsOf stroke flies drops rfl judge).1
    · simp only [Strokes.inStruck, dropping drops, if_true] at judge
      exact (restartsOf stroke flies drops rfl judge).2
  · have stroke : (s.key k).state.isStroke = true := (congrArg KeyState.isStroke rearmed).trans rfl
    have flies : (s.key k).state.inFlight = true := (congrArg KeyState.inFlight rearmed).trans rfl
    have judge := Strokes.judgeState_rearmed (st := s.strokes) (p := p) (q := s.sampleOf now k raw) (x := s.sampledKey k raw)
      rearmed timing
    rw [lines, checked timing] at judge
    refine ⟨fun drops => ?_, fun stays none => ?_⟩
    · simp only [Strokes.inRearmed, dropping drops, if_true] at judge
      exact releasesOf (x := { s.sampledKey k raw with slowMark := slow start }) rfl flies stroke drops rfl judge
    · simp only [Strokes.inRearmed, notDropping stays, notAcross none, Bool.false_eq_true, if_false] at judge
      exact becomesOf stroke judge (.inr flies)
  · have stroke : (s.key k).state.isStroke = true := (congrArg KeyState.isStroke rearmed).trans rfl
    have flies : (s.key k).state.inFlight = true := (congrArg KeyState.inFlight rearmed).trans rfl
    have judge := Strokes.judgeState_rearmed (st := s.strokes) (p := p) (q := s.sampleOf now k raw) (x := s.sampledKey k raw)
      rearmed timing
    rw [lines, checked timing] at judge
    have sunk (drops : falls l.rearm) : ¬rises l.strike := fun reaches =>
      absurd (lt_of_le_of_lt reaches.2 (drops.2.trans rearmStrike)) (lt_irrefl _)
    refine ⟨fun drops => ?_, fun drops => ?_, fun stays none => ?_⟩
    · simp only [Strokes.inRearmed, notAcross (sunk drops), Bool.false_eq_true, if_false, dropping drops, if_true] at judge
      exact (restartsOf (x := { s.sampledKey k raw with slowMark := slow start }) stroke flies drops rfl judge).1
    · simp only [Strokes.inRearmed, notAcross (sunk drops), Bool.false_eq_true, if_false, dropping drops, if_true] at judge
      exact (restartsOf (x := { s.sampledKey k raw with slowMark := slow start }) stroke flies drops rfl judge).2
    · simp only [Strokes.inRearmed, notAcross none, notDropping stays, Bool.false_eq_true, if_false] at judge
      exact becomesOf stroke judge (.inr flies)

end Sys2Proof.Machine
end

section
/-! SUPPORT. Keys suspended by a fallboard close: their forced offs at the recorder and their quiet report at the rail (R11, R89, R155). -/

namespace Sys2Proof.Machine

open Sys2Proof

/-! ### A recording that has ended -/

section Ended

variable (st : Store) (position : Nat) (stamp : Time)

/-- A close leaves no recording, whether or not one stood (R139). -/
theorem Store.closeAt_recording : (st.closeAt position stamp).recording = none := by
  simp only [Store.closeAt]
  split
  next none_ => exact none_
  · rfl

theorem Store.truncateAt_recording : (st.truncateAt position stamp).recording = none := by
  simp only [Store.truncateAt]
  split
  next none_ => exact none_
  · exact Store.closeAt_recording _ _ _

theorem Store.closeRecording_recording : (st.closeRecording (some stamp)).recording = none := by
  simp only [Store.closeRecording]
  split
  next none_ => exact none_
  · split
    · exact Store.closeAt_recording _ _ _
    · rfl

variable {st position stamp}

/-- A write that meets the reserve line leaves no recording (R138). -/
theorem Store.writeOrTruncate_recording {p : Payload} (met : (st.writeOrTruncate p position stamp).2 = true) :
    (st.writeOrTruncate p position stamp).1.recording = none := by
  simp only [Store.writeOrTruncate] at met ⊢
  split at met
  · exact nomatch met
  · exact Store.truncateAt_recording _ _ _

theorem Store.writeGap_recording (met : st.writeGap.2 = true) : st.writeGap.1.recording = none := by
  simp only [Store.writeGap] at met ⊢
  split at met
  · exact nomatch met
  · exact Store.writeOrTruncate_recording met

theorem Store.writeGaps_recording (n : Nat) (met : (Store.writeGaps n st).2 = true) : (Store.writeGaps n st).1.recording = none := by
  induction n generalizing st with
  | zero => exact nomatch met
  | succ n ih =>
    simp only [Store.writeGaps] at met ⊢
    cases gap : st.writeGap.2 with
    | true => exact Store.writeGap_recording gap
    | false =>
      rw [gap] at met
      exact ih met

theorem Store.writeOverdue_recording (met : (Store.writeOverdue stamp st).2 = true) :
    (Store.writeOverdue stamp st).1.recording = none := by
  simp only [Store.writeOverdue] at met ⊢
  split at met
  · exact nomatch met
  · split at met
    next c _ started =>
      rw [if_pos started]
      exact Store.writeGaps_recording _ met
    · exact nomatch met

theorem Store.record_recording {p : Payload} (met : (st.record p stamp).2 = true) : (st.record p stamp).1.recording = none := by
  simp only [Store.record] at met ⊢
  split at met
  · exact nomatch met
  next c _ =>
    split at met
    next started =>
      rw [if_pos started]
      cases gaps : (Store.writeGaps (c.gapsBefore (c.reckon stamp).1) st).2 with
      | true => exact Store.writeGaps_recording _ gaps
      | false =>
        rw [gaps] at met
        exact Store.writeOrTruncate_recording met
    · exact nomatch met

theorem Store.recordNoteOff_recording {k v : Nat} (met : (st.recordNoteOff k v stamp).2 = true) :
    (st.recordNoteOff k v stamp).1.recording = none := by
  simp only [Store.recordNoteOff] at met ⊢
  split at met
  · exact nomatch met
  · split at met
    next noted =>
      rw [if_pos noted]
      exact Store.record_recording met
    · exact nomatch met

end Ended

/-- The recording of `s` has ended in `t`, and with it the Transport's use of the take (R155). -/
structure State.Finished (s t : State) (cause : EndCause) : Prop where
  recording : t.store.recording = none
  idle : t.transport.state = .idle
  take : t.transport.take = none
  lastEnd : t.transport.lastEnd = some cause
  lastClose : ∃ r, t.transport.lastClose = some r ∧ r.take = s.transport.take.getD 0 ∧ r.cause = cause
  closed : t.announces .takeClosed
  posted : t.announces .transport

section Finished

variable {s t u : State} {cause : EndCause}

theorem State.finishRecording_finished (ended : u.store.recording = none) (transport : u.transport = s.transport) :
    s.Finished (u.finishRecording cause) cause := by
  obtain ⟨idle, take, lastEnd, lastClose, closed, posted⟩ := u.finishRecording_finishes cause
  obtain ⟨_, store, _⟩ := u.finishRecording_kept cause
  obtain ⟨takeOf, causeOf⟩ := closeResult_taken cause (u.transport.take.getD 0) (u.store.entry (u.transport.take.getD 0))
  exact ⟨by rw [store]; exact ended, idle, take, lastEnd, ⟨_, lastClose, takeOf.trans (by rw [transport]), causeOf⟩, closed, posted⟩

/-- What leaves the Transport and the recording alone leaves them finished. -/
theorem State.Finished.keep (h : s.Finished t cause) (store : u.store.recording = t.store.recording)
    (transport : u.transport = t.transport) (notices : t.noticesStay u) : s.Finished u cause := by
  obtain ⟨recording, idle, take, lastEnd, lastClose, closed, posted⟩ := h
  rw [← transport] at idle take lastEnd lastClose
  exact ⟨store.trans recording, idle, take, lastEnd, lastClose, notices.announces closed, notices.announces posted⟩

theorem State.recordWith_finishes {f : Store → Store × Bool} (met : (f s.store).2 = true)
    (ended : (f s.store).1.recording = none) : s.Finished (s.recordWith f) .reserve := by
  simp only [State.recordWith, if_pos met]
  exact State.finishRecording_finished (s := s) (u := { s with store := (f s.store).1 }) ended rfl

/-- A recording, armed or running, that is ended returns the Transport to IDLE with the cause given, or with RESERVE where an overdue
GAP expiry meets the reserve line first (R155; assumption 2). -/
theorem State.endRecording_finishes {stamp : Time} (records : s.transport.state.records = true) :
    s.Finished (s.endRecording cause stamp) cause ∨ s.Finished (s.endRecording cause stamp) .reserve := by
  cases met : (Store.writeOverdue stamp s.store).2 with
  | false =>
    rw [State.endRecording_closes records met]
    exact .inl (State.finishRecording_finished (Store.closeRecording_recording _ _) rfl)
  | true =>
    have overdue : s.Finished (s.takeOverdue stamp) .reserve :=
      State.recordWith_finishes met (Store.writeOverdue_recording met)
    refine .inr ?_
    simp only [State.endRecording]
    rw [if_neg (by rw [overdue.idle]; exact Bool.false_ne_true)]
    exact overdue

end Finished

/-! ### One key suspended -/

/-- A Scanner state is not in flight (R34). -/
theorem KeyState.inFlight_of_scanner {x : KeyState} (scanner : x.isStroke = false) : x.inFlight = false := by
  cases x
  case rest | descending | struck | rearmed => exact nomatch scanner
  all_goals rfl

section Key

variable {x : KeyState} {c : Cause} {s : State} {k : Nat}

/-- A key that leaves a stroke: its record discarded, the forced off made and handed to the recorder, and then the quiet report (R10,
R34). -/
def State.forcedOff (x : KeyState) (c : Cause) (k : Nat) (s : State) : State :=
  ((s.discardStroke x k).forceOff c (some .live) (s.discardStroke x k).now k).liveRelease k 64 (s.discardStroke x k).now

theorem State.enterScanner_stroke (stroke : (s.key k).state.isStroke = true) :
    State.enterScanner x c s k = (s.forcedOff x c k).quietReport (s.key k).state x := if_pos stroke

theorem State.forcedOff_frame :
    (s.forcedOff x c k).now = s.now ∧ (s.forcedOff x c k).rail = s.rail ∧
      (s.forcedOff x c k).scanner = (s.setKey k ((s.key k).leaveStroke x)).scanner := by
  simp [State.forcedOff, State.discardStroke]

/-- The forced off reaches the Transport of a recording alone, and there ends it or leaves the Transport (R138, R154). -/
theorem State.forcedOff_transport :
    (s.transport.state ≠ .recording → (s.forcedOff x c k).transport = s.transport) ∧
      ((s.forcedOff x c k).transport = s.transport ∨ s.Finished (s.forcedOff x c k) .reserve) := by
  rw [State.forcedOff]
  generalize forced : (s.discardStroke x k).forceOff c (some .live) (s.discardStroke x k).now k = v
  have transport : v.transport = s.transport := by simp [← forced, State.discardStroke]
  by_cases recording : s.transport.state = .recording
  · have heard : v.liveRelease k 64 (s.discardStroke x k).now =
        v.recordWith (Store.recordNoteOff k 64 (s.discardStroke x k).now) := if_pos (by rw [transport]; exact recording)
    refine ⟨fun still => absurd recording still, ?_⟩
    rw [heard]
    cases met : (Store.recordNoteOff k 64 (s.discardStroke x k).now v.store).2 with
    | false =>
      rw [State.recordWith_goes met]
      exact .inl transport
    | true =>
      obtain ⟨ended, idle, take, lastEnd, lastClose, closed, posted⟩ :=
        State.recordWith_finishes met (Store.recordNoteOff_recording met)
      rw [transport] at lastClose
      exact .inr ⟨ended, idle, take, lastEnd, lastClose, closed, posted⟩
  · rw [State.liveRelease_still (by rw [transport]; exact recording)]
    exact ⟨fun _ => transport, .inl transport⟩

theorem State.enterScanner_transport :
    (s.transport.state ≠ .recording → (State.enterScanner x c s k).transport = s.transport) ∧
      ((State.enterScanner x c s k).transport = s.transport ∨ s.Finished (State.enterScanner x c s k) .reserve) := by
  cases stroke : (s.key k).state.isStroke with
  | false =>
    have same : (State.enterScanner x c s k).transport = s.transport := by
      rw [State.enterScanner_idle x c s k stroke]
      simp
    exact ⟨fun _ => same, .inl same⟩
  | true =>
    have reported : ((s.forcedOff x c k).quietReport (s.key k).state x).transport = (s.forcedOff x c k).transport := by simp
    obtain ⟨still, ends⟩ := State.forcedOff_transport (x := x) (c := c) (s := s) (k := k)
    rw [State.enterScanner_stroke stroke]
    refine ⟨fun other => reported.trans (still other), ends.imp reported.trans (fun finished => ?_)⟩
    exact finished.keep (by simp) reported (Leads.quietReport _ _ .refl).noticesStay

/-- A rail that waits for no quiet hears nothing of a key that enters a Scanner state (R89). -/
theorem State.enterScanner_rail_other (other : s.rail.state ≠ .waitQuiet) : (State.enterScanner x c s k).rail = s.rail := by
  cases stroke : (s.key k).state.isStroke with
  | false =>
    rw [State.enterScanner_idle x c s k stroke]
    simp
  | true =>
    obtain ⟨_, rail, _⟩ := State.forcedOff_frame (x := x) (c := c) (s := s) (k := k)
    rw [State.enterScanner_stroke stroke, State.quietReport_other (by rw [rail]; exact other), rail]

theorem State.enterScanner_strokeCount (own : 1 ≤ k ∧ k ≤ 88) (rests : x.inFlight = false) :
    (State.enterScanner x c s k).strokeCount = s.strokeCount - (if (s.key k).state.inFlight then 1 else 0) := by
  have same := State.strokeCount_congr (congrArg Scanner.keys (State.enterScanner_scanner x c s k))
  have state : ((s.key k).leaveStroke x).state = x := rfl
  rw [same, State.strokeCount_setKey own, state, rests, if_neg Bool.false_ne_true, Nat.add_zero]

/-- A waiting rail hears the key that was the last in a stroke, and no other (R34, R89). -/
theorem State.enterScanner_rail_waits {target : Target} (own : 1 ≤ k ∧ k ≤ 88) (rests : x.inFlight = false)
    (waits : s.rail.state = .waitQuiet) (toward : s.rail.target = some target) (busy : 0 < s.strokeCount) :
    (0 < (State.enterScanner x c s k).strokeCount → (State.enterScanner x c s k).rail = s.rail) ∧
      ((State.enterScanner x c s k).strokeCount = 0 →
        ∃ v : State, v.rail = s.rail ∧ v.now = s.now ∧ State.enterScanner x c s k = v.startRun target) := by
  have count := State.enterScanner_strokeCount (c := c) (s := s) own rests
  cases stroke : (s.key k).state.isStroke with
  | false =>
    rw [KeyState.inFlight_of_scanner stroke, if_neg Bool.false_ne_true] at count
    refine ⟨fun _ => ?_, fun none => absurd none (by omega)⟩
    rw [State.enterScanner_idle x c s k stroke]
    simp
  | true =>
    obtain ⟨time, rail, scanner⟩ := State.forcedOff_frame (x := x) (c := c) (s := s) (k := k)
    have counted : (State.enterScanner x c s k).strokeCount = (s.forcedOff x c k).strokeCount :=
      State.strokeCount_congr (congrArg Scanner.keys ((State.enterScanner_scanner x c s k).trans scanner.symm))
    rw [counted] at count ⊢
    rw [State.enterScanner_stroke stroke]
    refine ⟨fun more => ?_, fun none => ⟨s.forcedOff x c k, rail, time, ?_⟩⟩
    · rw [State.quietReport_busy ((State.quiet_eq_false _).mpr more), rail]
    · have flies : (s.key k).state.inFlight = true := by
        by_contra rests
        rw [if_neg rests] at count
        omega
      rw [State.quietReport_quiet flies rests ((State.quiet_iff _).mpr none), State.railQuiet_starts (by rw [rail]; exact waits)
        (by rw [rail]; exact toward)]

/-- Of a key with no open note the recorder hears nothing (R137). -/
theorem State.enterScanner_stray {d : RecordingContext} (recording : s.store.recording = some d) (stray : k ∉ d.openNotes) :
    (State.enterScanner x c s k).store = s.store ∧ (State.enterScanner x c s k).transport = s.transport := by
  refine ⟨?_, ?_⟩
  · rw [State.enterScanner_store, Store.recordNoteOff_stray recording stray, ite_self]
  · cases stroke : (s.key k).state.isStroke with
    | false =>
      rw [State.enterScanner_idle x c s k stroke]
      simp
    | true =>
      have reported : ((s.forcedOff x c k).quietReport (s.key k).state x).transport = (s.forcedOff x c k).transport := by simp
      rw [State.enterScanner_stroke stroke, reported, State.forcedOff]
      generalize forced : (s.discardStroke x k).forceOff c (some .live) (s.discardStroke x k).now k = v
      have transport : v.transport = s.transport := by simp [← forced, State.discardStroke]
      have store : v.store = s.store := by simp [← forced, State.discardStroke]
      have unheard := Store.recordNoteOff_stray (v := 64) (stamp := (s.discardStroke x k).now) (store ▸ recording) stray
      rw [State.liveRelease]
      split
      · rw [State.recordWith_goes (congrArg Prod.snd unheard)]
        exact transport
      · exact transport

end Key

/-! ### A run of keys suspended -/

section Run

variable {x : KeyState} {c : Cause} {keys : List Nat}

/-- A fallboard close takes every key in a stroke to SUSPENDED (R11). -/
theorem State.suspendKey_run (s : State) (own : ∀ k ∈ keys, 1 ≤ k ∧ k ≤ 88) (once : keys.Nodup) :
    keys.foldl State.suspendKey s =
      (keys.filter (fun k => (s.key k).state.isStroke)).foldl (State.enterScanner .suspended .fallboard) s := by
  induction keys generalizing s with
  | nil => rfl
  | cons a rest ih =>
    obtain ⟨fresh, once⟩ := List.nodup_cons.mp once
    have run (u : State) := ih u (fun k among => own k (List.mem_cons_of_mem a among)) once
    rw [List.foldl_cons, run]
    by_cases stroke : (s.key a).state.isStroke = true
    · have entered : s.suspendKey a = State.enterScanner .suspended .fallboard s a := if_pos stroke
      have same : rest.filter (fun k => ((s.suspendKey a).key k).state.isStroke) =
          rest.filter (fun k => (s.key k).state.isStroke) := by
        refine List.filter_congr (fun k among => ?_)
        rw [entered, State.key_enterScanner, if_neg (fun h : k = a ∧ 1 ≤ a ∧ a ≤ 88 => fresh (h.1 ▸ among))]
      rw [same, List.filter_cons, if_pos stroke, List.foldl_cons, entered]
    · have idle : s.suspendKey a = s := if_neg stroke
      rw [idle, List.filter_cons, if_neg stroke]

/-- What the Transport and the store hear of a run of keys that enter a Scanner state (R138, R154). -/
theorem State.enterScanner_run_transport (scanner : x.isStroke = false) (s : State) :
    (s.transport.state ≠ .recording →
      (keys.foldl (State.enterScanner x c) s).transport = s.transport ∧
        (keys.foldl (State.enterScanner x c) s).store = s.store) ∧
      ((keys.foldl (State.enterScanner x c) s).transport = s.transport ∨
        s.Finished (keys.foldl (State.enterScanner x c) s) .reserve) := by
  induction keys generalizing s with
  | nil => exact ⟨fun _ => ⟨rfl, rfl⟩, .inl rfl⟩
  | cons a rest ih =>
    obtain ⟨still, ends⟩ := State.enterScanner_transport (x := x) (c := c) (s := s) (k := a)
    obtain ⟨stillRest, endsRest⟩ := ih (State.enterScanner x c s a)
    rw [List.foldl_cons]
    refine ⟨fun other => ?_, ?_⟩
    · have store : (State.enterScanner x c s a).store = s.store := by
        rw [State.enterScanner_store, if_neg (fun h => other h.2)]
      obtain ⟨transportRest, storeRest⟩ := stillRest (by rw [still other]; exact other)
      exact ⟨transportRest.trans (still other), storeRest.trans store⟩
    · rcases ends with same | finished
      · refine endsRest.imp (·.trans same) (fun h => ?_)
        obtain ⟨recording, idle, take, lastEnd, lastClose, closed, posted⟩ := h
        rw [same] at lastClose
        exact ⟨recording, idle, take, lastEnd, lastClose, closed, posted⟩
      · obtain ⟨transportRest, storeRest⟩ := stillRest (by rw [finished.idle]; exact nofun)
        exact .inr (finished.keep (by rw [storeRest]) transportRest
          (Leads.foldl (fun _ k h => h.enterScanner scanner c k) rest .refl).noticesStay)

/-- A run over keys with no open note leaves the recording. -/
theorem State.enterScanner_run_stray {d : RecordingContext} (s : State) (recording : s.store.recording = some d)
    (stray : ∀ k ∈ keys, k ∉ d.openNotes) :
    (keys.foldl (State.enterScanner x c) s).store = s.store ∧ (keys.foldl (State.enterScanner x c) s).transport = s.transport := by
  induction keys generalizing s with
  | nil => exact ⟨rfl, rfl⟩
  | cons a rest ih =>
    obtain ⟨store, transport⟩ := State.enterScanner_stray (x := x) (c := c) recording (stray a List.mem_cons_self)
    obtain ⟨storeRest, transportRest⟩ := ih (State.enterScanner x c s a) (store ▸ recording)
      (fun k among => stray k (List.mem_cons_of_mem a among))
    exact ⟨storeRest.trans store, transportRest.trans transport⟩

theorem State.enterScanner_run_rail_other (s : State) (other : s.rail.state ≠ .waitQuiet) :
    (keys.foldl (State.enterScanner x c) s).rail = s.rail := by
  induction keys generalizing s with
  | nil => rfl
  | cons a rest ih =>
    have same := State.enterScanner_rail_other (x := x) (c := c) (k := a) other
    exact (ih (State.enterScanner x c s a) (by rw [same]; exact other)).trans same

/-- A started run, or an arrival, waits for no quiet (R90, R92). -/
theorem State.startRun_leaves (target : Target) (v : State) : (v.startRun target).rail.state ≠ .waitQuiet := by
  obtain ⟨runs, arrives⟩ := State.startRun_leavesWait target v
  cases active : v.rail.switchOf target with
  | false =>
    obtain ⟨_, _, rail, _⟩ := runs active
    rw [rail]
    cases target <;> nofun
  | true =>
    obtain ⟨state, _⟩ := arrives active
    rw [state]
    cases target <;> nofun

/-- A waiting rail begins its run as the last key in a stroke enters the Scanner state (R34, R89). -/
theorem State.enterScanner_run_rail_waits {target : Target} (scanner : x.isStroke = false) (s : State)
    (own : ∀ k ∈ keys, 1 ≤ k ∧ k ≤ 88) (waits : s.rail.state = .waitQuiet) (toward : s.rail.target = some target)
    (busy : 0 < s.strokeCount) (all : ∀ k, 1 ≤ k → k ≤ 88 → (s.key k).state.inFlight = true → k ∈ keys) :
    ∃ v : State, v.rail = s.rail ∧ v.now = s.now ∧ (keys.foldl (State.enterScanner x c) s).rail = (v.startRun target).rail ∧
      (keys.foldl (State.enterScanner x c) s).announces .railState := by
  induction keys generalizing s with
  | nil =>
    have quiet : s.quiet = true := (State.quiet_iff_keys s).mpr (fun k low high =>
      Bool.eq_false_iff.mpr (fun flies => nomatch all k low high flies))
    exact absurd ((State.quiet_iff s).mp quiet) busy.ne'
  | cons a rest ih =>
    have ownA := own a List.mem_cons_self
    obtain ⟨stays, starts⟩ := State.enterScanner_rail_waits (x := x) (c := c) ownA (KeyState.inFlight_of_scanner scanner) waits
      toward busy
    rw [List.foldl_cons]
    by_cases more : 0 < (State.enterScanner x c s a).strokeCount
    · have rail := stays more
      have time : (State.enterScanner x c s a).now = s.now := by simp
      obtain ⟨v, railOf, timeOf, runs, announced⟩ := ih (State.enterScanner x c s a)
        (fun k among => own k (List.mem_cons_of_mem a among)) (by rw [rail]; exact waits) (by rw [rail]; exact toward) more
        (fun k low high flies => by
          rw [State.key_enterScanner] at flies
          split at flies
          · exact absurd flies (by rw [Key.leaveStroke, KeyState.inFlight_of_scanner scanner]; exact Bool.false_ne_true)
          next other =>
            exact (List.mem_cons.mp (all k low high flies)).resolve_left (fun same => other ⟨same, ownA⟩))
      exact ⟨v, railOf.trans rail, timeOf.trans time, runs, announced⟩
    · obtain ⟨v, railOf, timeOf, entered⟩ := starts (by omega)
      rw [entered]
      refine ⟨v, railOf, timeOf, State.enterScanner_run_rail_other _ (State.startRun_leaves target v), ?_⟩
      exact (Leads.foldl (fun _ k h => h.enterScanner scanner c k) rest .refl).noticesStay.announces (State.startRun_announces _ _)

end Run

end Sys2Proof.Machine
end

section
/-! SUPPORT. What a fallboard close does to the Scanner and at the rail: the capture abandoned and the park move (R11, R17, R104). -/

namespace Sys2Proof.Machine

open Sys2Proof

/-! ### The keys of a fallboard close -/

section Keys

/-- A run of keys taken out of CAPTURE: those in it leave by the validity of their records (R17). -/
theorem State.leaveCapture_run (keys : List Nat) (s : State) (own : ∀ k ∈ keys, 1 ≤ k ∧ k ≤ 88) (once : keys.Nodup) (k : Nat) :
    (keys.foldl State.leaveCapture s).key k =
      if k ∈ keys ∧ (s.key k).state = .capture then (s.key k).leaveStroke (s.key k).cal.settledState else s.key k := by
  induction keys generalizing s with
  | nil => simp
  | cons a rest ih =>
    obtain ⟨fresh, once⟩ := List.nodup_cons.mp once
    have ownA := own a List.mem_cons_self
    rw [List.foldl_cons, ih (s.leaveCapture a) (fun k h => own k (List.mem_cons_of_mem a h)) once]
    have first : (s.leaveCapture a).key k =
        if k = a ∧ (s.key a).state = .capture then (s.key a).leaveStroke (s.key a).cal.settledState else s.key k := by
      simp only [State.leaveCapture]
      split
      next inCapture => simp [State.key_setKey, ownA, inCapture]
      next outside => simp [outside]
    by_cases same : k = a
    · subst same
      simp [first, fresh]
    · simp [first, same]

variable {s : State}

theorem State.abandonCapture_none (none : s.scanner.capture = none) : s.abandonCapture = s := by
  simp only [State.abandonCapture, none]

/-- An abandoned capture: its result and notice, and its keys out of CAPTURE (R17). -/
theorem State.abandonCapture_some {c : Capture} (capture : s.scanner.capture = some c) :
    s.abandonCapture.scanner.capture = none ∧ s.abandonCapture.scanner.lastCapture = some c.abandoned ∧
      s.abandonCapture.announces .calDone ∧
      ∀ k, s.abandonCapture.key k =
        if (1 ≤ k ∧ k ≤ 88) ∧ (s.key k).state = .capture then (s.key k).leaveStroke (s.key k).cal.settledState else s.key k := by
  have nodup : keyNumbers.Nodup := by decide
  have ended : s.abandonCapture = (keyNumbers.foldl State.leaveCapture s).endCapture c.abandoned := by
    simp only [State.abandonCapture, capture]
  have key (k : Nat) := State.leaveCapture_run keyNumbers s (fun k h => (mem_keyNumbers k).mp h) nodup k
  simp only [mem_keyNumbers] at key
  rw [ended]
  generalize keyNumbers.foldl State.leaveCapture s = u at key
  exact ⟨rfl, rfl, State.post_announces _ _, key⟩

/-- The keys in a stroke, in ascending order. -/
def State.strokeKeys (s : State) : List Nat := keyNumbers.filter (fun k => (s.key k).state.isStroke)

theorem State.mem_strokeKeys (k : Nat) : k ∈ s.strokeKeys ↔ (1 ≤ k ∧ k ≤ 88) ∧ (s.key k).state.isStroke = true := by
  simp [State.strokeKeys, mem_keyNumbers]

/-- The keys in a stroke, suspended one after the other, before a capture is abandoned (R11). -/
def State.strokesSuspended (s : State) : State := s.strokeKeys.foldl (State.enterScanner .suspended .fallboard) s

theorem State.suspendAll_eq : s.suspendAll = s.strokesSuspended.abandonCapture := by
  have nodup : keyNumbers.Nodup := by decide
  exact congrArg State.abandonCapture (State.suspendKey_run s (fun k h => (mem_keyNumbers k).mp h) nodup)

theorem State.strokeKeys_own : ∀ k ∈ s.strokeKeys, 1 ≤ k ∧ k ≤ 88 := fun k h => ((State.mem_strokeKeys k).mp h).1

theorem State.strokeKeys_nodup : s.strokeKeys.Nodup :=
  have nodup : keyNumbers.Nodup := by decide
  nodup.filter _

theorem State.strokesSuspended_key (k : Nat) :
    s.strokesSuspended.key k = if (s.key k).state.isStroke = true then (s.key k).leaveStroke .suspended else s.key k := by
  refine ((State.enterScanner_run _ _ _ _ State.strokeKeys_own State.strokeKeys_nodup).1 k).trans ?_
  by_cases stroke : (s.key k).state.isStroke = true
  · rw [if_pos ((State.mem_strokeKeys k).mpr ⟨State.key_of_stroke stroke, stroke⟩), if_pos stroke]
  · rw [if_neg (fun h => stroke ((State.mem_strokeKeys k).mp h).2), if_neg stroke]

theorem State.strokesSuspended_scanner :
    s.strokesSuspended.scanner.capture = s.scanner.capture ∧
      s.strokesSuspended.scanner.lastCapture = s.scanner.lastCapture := by
  rw [State.strokesSuspended]
  generalize s.strokeKeys = keys
  induction keys generalizing s with
  | nil => exact ⟨rfl, rfl⟩
  | cons a rest ih =>
    obtain ⟨capture, last, _⟩ := State.enterScanner_capture .suspended .fallboard s a
    obtain ⟨captureRest, lastRest⟩ := ih (s := State.enterScanner .suspended .fallboard s a)
    exact ⟨captureRest.trans capture, lastRest.trans last⟩

theorem State.strokesSuspended_capture (k : Nat) : (s.strokesSuspended.key k).state = .capture ↔ (s.key k).state = .capture := by
  rw [State.strokesSuspended_key]
  split
  next stroke =>
    refine ⟨fun suspended : KeyState.suspended = .capture => (nomatch suspended), fun captured => ?_⟩
    rw [captured] at stroke
    exact nomatch stroke
  · exact Iff.rfl

/-- The Scanner after a fallboard close (R11, R17). -/
theorem State.suspendAll_scanner :
    (∀ k, (s.key k).state.isStroke = true →
      (s.suspendAll.key k).state = .suspended ∧ (s.suspendAll.sound k).owner ≠ some .live) ∧
    (∀ k, (s.key k).state.isStroke = false → (s.scanner.capture = none ∨ (s.key k).state ≠ .capture) →
      s.suspendAll.key k = s.key k) ∧
    s.suspendAll.scanner.capture = none ∧
    (s.scanner.capture = none → s.suspendAll.scanner.lastCapture = s.scanner.lastCapture) ∧
    (∀ c, s.scanner.capture = some c →
      s.suspendAll.scanner.lastCapture = some c.abandoned ∧ s.suspendAll.announces .calDone ∧
      ∀ k, 1 ≤ k → k ≤ 88 → (s.key k).state = .capture →
        s.suspendAll.key k = (s.key k).leaveStroke (if (s.key k).cal.valid then .suspended else .uncalibrated)) := by
  obtain ⟨captureKept, lastKept⟩ := State.strokesSuspended_scanner (s := s)
  obtain ⟨_, silent, _⟩ := State.enterScanner_run .suspended .fallboard _ s State.strokeKeys_own State.strokeKeys_nodup
  have router : s.suspendAll.router = s.strokesSuspended.router := by
    rw [State.suspendAll_eq]
    simp
  have unowned (k : Nat) (stroke : (s.key k).state.isStroke = true) : (s.suspendAll.sound k).owner ≠ some .live := by
    rw [State.sound, router]
    exact silent k ((State.mem_strokeKeys k).mpr ⟨State.key_of_stroke stroke, stroke⟩) stroke
  rw [State.suspendAll_eq] at unowned ⊢
  have key (k : Nat) := State.strokesSuspended_key (s := s) k
  have inCapture (k : Nat) := State.strokesSuspended_capture (s := s) k
  cases capture : s.scanner.capture with
  | none =>
    rw [capture] at captureKept
    rw [State.abandonCapture_none captureKept] at unowned ⊢
    refine ⟨fun k stroke => ⟨?_, unowned k stroke⟩, fun k idle _ => ?_, captureKept, fun _ => lastKept, nofun⟩
    · rw [key, if_pos stroke]
      rfl
    · rw [key, if_neg (ne_true_of_eq_false idle)]
  | some c =>
    rw [capture] at captureKept
    obtain ⟨ended, last, done, keys⟩ := State.abandonCapture_some captureKept
    refine ⟨fun k stroke => ⟨?_, unowned k stroke⟩, fun k idle apart => ?_, ended, nofun, ?_⟩
    · rw [keys, if_neg, key, if_pos stroke]
      · rfl
      · rintro ⟨_, captured⟩
        rw [(inCapture k).mp captured] at stroke
        exact nomatch stroke
    · have outside : (s.key k).state ≠ .capture := apart.resolve_left nofun
      rw [keys, if_neg (fun h => outside ((inCapture k).mp h.2)), key, if_neg (ne_true_of_eq_false idle)]
    · rintro _ ⟨⟩
      refine ⟨last, done, fun k low high captured => ?_⟩
      rw [keys, if_pos ⟨⟨low, high⟩, (inCapture k).mpr captured⟩, key, if_neg (by rw [captured]; exact nofun)]
      rw [KeyCal.settledState_eq]

theorem KeyCal.settledState_inFlight (c : KeyCal) : c.settledState.inFlight = false := by
  rw [KeyCal.settledState_eq]
  split <;> rfl

/-- A fallboard close leaves the keyboard quiet (R34). -/
theorem State.suspendAll_quiet : s.suspendAll.quiet = true := by
  rw [State.quiet_iff_keys]
  intro k low high
  obtain ⟨strokes, others, _, _, captures⟩ := State.suspendAll_scanner (s := s)
  cases stroke : (s.key k).state.isStroke with
  | true =>
    rw [(strokes k stroke).1]
    rfl
  | false =>
    cases capture : s.scanner.capture with
    | none =>
      rw [others k stroke (.inl capture)]
      exact KeyState.inFlight_of_scanner stroke
    | some c =>
      by_cases captured : (s.key k).state = .capture
      · rw [(captures c capture).2.2 k low high captured, ← KeyCal.settledState_eq]
        exact KeyCal.settledState_inFlight _
      · rw [others k stroke (.inr captured)]
        exact KeyState.inFlight_of_scanner stroke

end Keys

/-! ### The park move -/

/-- The rail retracts (R90). -/
def State.retracts (t : State) : Prop :=
  t.rail.state = .retracting ∧ t.rail.target = some .retract ∧ t.rail.run.isSome = true ∧ t.announces .railState

/-- The rail has arrived at the retract end (R92). -/
def State.arrivesRetracted (t : State) : Prop :=
  t.rail.state = .retracted ∧ t.rail.target = none ∧ t.rail.run = none ∧ t.rail.lastMove = some .complete ∧
    t.announces .railState

section Park

variable {s : State}

theorem State.park_off (off : s.rail.profile.park = false) : s.park = s := if_neg (ne_true_of_eq_false off)

theorem State.park_on (on : s.rail.profile.park = true) : s.park = (s.moveRequest .retract).1 := if_pos on

theorem State.startRun_retracts (v : State) (off : v.rail.retractEnd = false) : (v.startRun .retract).retracts := by
  obtain ⟨x, run, rail, _⟩ := (State.startRun_leavesWait .retract v).1 off
  have announced := State.startRun_announces .retract v
  refine ⟨?_, ?_, by rw [run]; rfl, announced⟩
  · rw [rail]
    rfl
  · rw [rail]

theorem State.startRun_arrivesRetracted (v : State) (active : v.rail.retractEnd = true) :
    (v.startRun .retract).arrivesRetracted := by
  obtain ⟨state, _, run, target, _, _, move⟩ := (State.startRun_leavesWait .retract v).2 active
  exact ⟨state, target, run, move, State.startRun_announces .retract v⟩

/-- A rail that rests away from the retract end, parked over a quiet keyboard (R88, R104). -/
theorem State.park_leaves (on : s.rail.profile.park = true) (quiet : s.quiet = true)
    (rests : s.rail.state = .engaged ∨ s.rail.state = .unknown ∨ s.rail.state = .stalled) :
    (s.rail.retractEnd = false → s.park.retracts) ∧ (s.rail.retractEnd = true → s.park.arrivesRetracted) ∧
      (s.rail.state = .stalled → s.park.rail.alertRequested = false) := by
  have leaves : s.rail.state = .unknown ∨ s.rail.state = .stalled ∨
      ∃ other : Target, other ≠ .retract ∧ s.rail.state = other.endState := by
    rcases rests with engaged | unknown | stalled
    · exact .inr (.inr ⟨.engage, nofun, engaged⟩)
    · exact .inl unknown
    · exact .inr (.inl stalled)
  have answered : s.alertAnswered.rail.retractEnd = s.rail.retractEnd := by rw [State.alertAnswered_rail]
  have alert : s.rail.state = .stalled → s.alertAnswered.rail.alertRequested = false := fun stalled => by
    rw [State.alertAnswered_rail]
    exact if_pos stalled
  rw [State.park_on on, State.moveRequest_leaves leaves,
    State.enterWaitQuiet_quiet _ _ _ (State.alertAnswered_frame.2.trans quiet)]
  generalize entered : State.waitEntered .retract s.rail.state s.alertAnswered = v
  have ends : v.rail.retractEnd = s.rail.retractEnd := by
    rw [← entered]
    exact answered
  refine ⟨fun off => v.startRun_retracts (ends.trans off), fun active => v.startRun_arrivesRetracted (ends.trans active),
    fun stalled => ?_⟩
  rw [State.startRun_alert, ← entered]
  exact alert stalled

theorem State.park_reverses {x : Run} (on : s.rail.profile.park = true) (moves : s.rail.state = .engaging)
    (run : s.rail.run = some x) :
    s.park.retracts ∧
      s.park.rail =
        { s.rail with
          state := .retracting
          resting := .unknown
          target := some .retract
          lastMove := some .reversed
          arm := .below
          run := some
            { x with phase := .reversalDwell, phaseEnd := s.now.after 50000, duty := 0, retriesUsed := 0
                     moveTimer := s.now.after (s.rail.profile.moveTimeout * 1000), stallTimer := none, blindPulses := 0 } } := by
  obtain ⟨rail, announced⟩ := State.reverse_rail .retract run
  rw [State.park_on on, State.moveRequest_reverses (target := .retract) (other := .engage) moves nofun]
  refine ⟨⟨?_, ?_, ?_, announced⟩, rail⟩
  all_goals rw [rail]
  all_goals rfl

/-- A rail at the retract end, on its way there, or at fault, is not moved by a park (R88, R104). -/
theorem State.park_stays
    (stays : s.rail.profile.park = true → s.rail.state = .retracted ∨ s.rail.state = .retracting ∨ s.rail.state = .switchFault) :
    s.park = s := by
  cases on : s.rail.profile.park with
  | false => exact State.park_off on
  | true =>
    rw [State.park_on on]
    rcases stays on with there | moves | fault
    · rw [State.moveRequest_there (target := .retract) there]
    · rw [State.moveRequest_underWay (target := .retract) (.inl moves)]
    · rw [State.moveRequest_faulty fault]

/-- What the start of a run keeps of the rail: its inputs and its profile. -/
theorem State.startRun_inputs (target : Target) (v : State) :
    (v.startRun target).rail.retractEnd = v.rail.retractEnd ∧ (v.startRun target).rail.profile = v.rail.profile ∧
      (v.startRun target).rail.fallboardClosed = v.rail.fallboardClosed := by
  rw [State.startRun_eq]
  split
  · cases target <;> exact ⟨rfl, rfl, rfl⟩
  · exact ⟨rfl, rfl, rfl⟩

/-- A park behind a run that the quiet keyboard has just begun: an engaging rail is turned round (R89, R93, R104). -/
theorem State.park_startRun {target : Target} {v : State} (rail : s.rail = (v.startRun target).rail)
    (on : v.rail.profile.park = true) (quiet : s.quiet = true) (announced : s.announces .railState) :
    (v.rail.retractEnd = false ∨ (target = .engage ∧ v.rail.engageEnd = false) → s.park.retracts) ∧
      (v.rail.retractEnd = true → target = .retract ∨ v.rail.engageEnd = true → s.park.arrivesRetracted) := by
  obtain ⟨ends, profile, _⟩ := State.startRun_inputs target v
  rw [← rail] at ends profile
  have parks : s.rail.profile.park = true := by rw [profile]; exact on
  obtain ⟨runs, arrives⟩ := State.startRun_leavesWait target v
  rw [← rail] at runs arrives
  cases target with
  | retract =>
    cases active : v.rail.retractEnd with
    | false =>
      obtain ⟨x, run, railIs, _⟩ := runs active
      have moves : s.rail.state = .retracting := by rw [railIs]; rfl
      rw [State.park_stays (fun _ => .inr (.inl moves))]
      refine ⟨fun _ => ⟨moves, by rw [railIs], by rw [run]; rfl, announced⟩, nofun⟩
    | true =>
      obtain ⟨state, _, run, none_, _, _, move⟩ := arrives active
      rw [State.park_stays (fun _ => .inl state)]
      exact ⟨fun h => h.elim nofun nofun, fun _ _ => ⟨state, none_, run, move, announced⟩⟩
  | engage =>
    cases active : v.rail.engageEnd with
    | false =>
      obtain ⟨x, run, railIs, _⟩ := runs active
      have moves : s.rail.state = .engaging := by rw [railIs]; rfl
      obtain ⟨turned, _⟩ := State.park_reverses parks moves run
      exact ⟨fun _ => turned, fun _ h => h.elim nofun nofun⟩
    | true =>
      obtain ⟨state, _⟩ := arrives active
      obtain ⟨retracts, arrivesBack, _⟩ := State.park_leaves parks quiet (.inl state)
      exact ⟨fun h => retracts (ends.trans (h.resolve_right nofun)), fun back _ => arrivesBack (ends.trans back)⟩

end Park

/-! ### The fallboard level -/

section Fallboard

variable (s : State)

/-- A rail that hears of a quiet keyboard keeps the level of the fallboard switch (R103). -/
theorem State.quietReport_fallboard (before after : KeyState) :
    (s.quietReport before after).rail.fallboardClosed = s.rail.fallboardClosed := by
  simp only [State.quietReport]
  split
  · simp only [State.railQuiet]
    split
    · exact (State.startRun_inputs _ s).2.2
    · rfl
  · rfl

theorem State.enterScanner_fallboard (x : KeyState) (c : Cause) (k : Nat) :
    (State.enterScanner x c s k).rail.fallboardClosed = s.rail.fallboardClosed := by
  cases stroke : (s.key k).state.isStroke with
  | false =>
    rw [State.enterScanner_idle x c s k stroke]
    simp
  | true =>
    obtain ⟨_, rail, _⟩ := State.forcedOff_frame (x := x) (c := c) (s := s) (k := k)
    rw [State.enterScanner_stroke stroke, State.quietReport_fallboard, rail]

theorem State.enterScanner_run_fallboard (x : KeyState) (c : Cause) (keys : List Nat) :
    (keys.foldl (State.enterScanner x c) s).rail.fallboardClosed = s.rail.fallboardClosed := by
  induction keys generalizing s with
  | nil => rfl
  | cons a rest ih => exact (ih (State.enterScanner x c s a)).trans (s.enterScanner_fallboard x c a)

theorem State.suspendAll_fallboard : s.suspendAll.rail.fallboardClosed = s.rail.fallboardClosed := by
  have abandoned : s.suspendAll.rail = s.strokesSuspended.rail := by
    rw [State.suspendAll_eq]
    simp
  rw [abandoned]
  exact s.enterScanner_run_fallboard .suspended .fallboard s.strokeKeys

theorem State.enterWaitQuiet_fallboard (target : Target) (prior : RailState) :
    (s.enterWaitQuiet target prior).rail.fallboardClosed = s.rail.fallboardClosed := by
  cases quiet : s.quiet with
  | false => rw [State.enterWaitQuiet_busy _ _ _ quiet]; rfl
  | true =>
    rw [State.enterWaitQuiet_quiet _ _ _ quiet]
    exact (State.startRun_inputs target _).2.2

theorem State.moveRequest_fallboard (target : Target) :
    (s.moveRequest target).1.rail.fallboardClosed = s.rail.fallboardClosed := by
  have entered (prior : RailState) := s.enterWaitQuiet_fallboard target prior
  have turned : (s.reverse target).rail.fallboardClosed = s.rail.fallboardClosed := by cases target <;> rfl
  cases state : s.rail.state
  all_goals simp only [State.moveRequest, state]
  case unknown => exact entered _
  case stalled => exact State.enterWaitQuiet_fallboard { s with rail := { s.rail with alertRequested := false } } target .stalled
  case waitQuiet =>
    split
    · rfl
    · split
      · rfl
      · rfl
  case retracted | engaged =>
    split
    · rfl
    · exact entered _
  case engaging | retracting =>
    split
    · rfl
    · exact turned

theorem State.park_fallboard : s.park.rail.fallboardClosed = s.rail.fallboardClosed := by
  simp only [State.park]
  split
  · exact s.moveRequest_fallboard .retract
  · rfl

end Fallboard

end Sys2Proof.Machine
end

section
/-! PROOFS. The fallboard switch, and the end switches on the standby supply (R11, R17, R103, R104, R109, R155). -/

namespace Sys2Proof.Machine

open Sys2Proof

/-! ### The steps of a fallboard close -/

section Close

/-- The fallboard close is taken at its time (R103). -/
def State.shut (now : Time) (s : State) : State := { s with now := now, rail := { s.rail with fallboardClosed := true } }

/-- The Transport's part of a fallboard close, behind the Scanner's: a recording ends (R155). -/
def State.recorderShut (s : State) : State :=
  if s.suspendAll.transport.state.records then s.suspendAll.endRecording .fallboard s.suspendAll.now else s.suspendAll

/-- The state a fallboard close leaves. -/
def State.closedAt (now : Time) (s : State) : State := (s.shut now).recorderShut.park.post .fallboard

variable {now : Time} {s : State}

/-- A taken close: the Scanner, the Transport, the park move and the notice, in this order (assumption 15). -/
theorem exec_fallboardClose (on : s.system.mainOn = true) (opened : s.rail.fallboardClosed = false) :
    exec (.fallboardClose now) s = .next (s.closedAt now) := by
  refine (exec_event on now).trans (congrArg _ ?_)
  have shut : State.modRail (fun r => { r with fallboardClosed := true }) { s with now := now } = s.shut now := rfl
  simp only [State.onFallboardClose, opened, shut, Bool.false_eq_true, if_false]
  rfl

theorem State.recorderShut_kept :
    s.recorderShut.now = s.now ∧ s.recorderShut.scanner = s.suspendAll.scanner ∧
      s.recorderShut.router = s.suspendAll.router ∧ s.recorderShut.rail = s.suspendAll.rail ∧
      s.recorderShut.pedals = s.pedals := by
  simp only [State.recorderShut]
  split
  · simp
  · simp

theorem State.recorderShut_noticesStay : s.suspendAll.noticesStay s.recorderShut := by
  simp only [State.recorderShut]
  split
  · exact (Leads.endRecording _ _ .refl).noticesStay
  · exact .refl _

theorem State.parked_noticesStay : s.noticesStay (s.park.post .fallboard) :=
  (Leads.post .fallboard (Leads.park s .refl)).noticesStay

/-- The park move and the notice stay with the rail and the links. -/
theorem State.parked_kept :
    (s.park.post .fallboard).scanner = s.scanner ∧ (s.park.post .fallboard).router = s.router ∧
      (s.park.post .fallboard).store = s.store ∧ (s.park.post .fallboard).transport = s.transport ∧
      (s.park.post .fallboard).rail = s.park.rail ∧ (s.park.post .fallboard).pedals = s.pedals := by
  simp

end Close

/-! ### The recorder -/

section Recorder

variable {s : State}

/-- An abandoned capture stays with the Scanner and the links. -/
theorem State.suspendAll_kept :
    s.suspendAll.store = s.strokesSuspended.store ∧ s.suspendAll.transport = s.strokesSuspended.transport ∧
      s.suspendAll.rail = s.strokesSuspended.rail := by
  rw [State.suspendAll_eq]
  simp

/-- The Scanner's part, at the Transport: the forced offs reach a recording alone, and may end it (R138, R154). -/
theorem State.suspendAll_transport :
    (s.transport.state ≠ .recording → s.suspendAll.transport = s.transport ∧ s.suspendAll.store = s.store) ∧
      (s.suspendAll.transport = s.transport ∨ s.Finished s.suspendAll .reserve) := by
  obtain ⟨still, ends⟩ :=
    State.enterScanner_run_transport (x := .suspended) (c := .fallboard) (keys := s.strokeKeys) rfl s
  obtain ⟨store, transport, _⟩ := State.suspendAll_kept (s := s)
  refine ⟨fun other => ⟨transport.trans (still other).1, store.trans (still other).2⟩, ends.imp transport.trans (fun h => ?_)⟩
  refine State.Finished.keep h (congrArg Store.recording store) transport ?_
  rw [State.suspendAll_eq]
  exact (Leads.abandonCapture .refl).noticesStay

/-- A recording, armed or running, has ended behind a fallboard close, with cause FALLBOARD or RESERVE (R155). -/
theorem State.recorderShut_finishes (records : s.transport.state.records = true) :
    s.Finished s.recorderShut .fallboard ∨ s.Finished s.recorderShut .reserve := by
  rcases State.suspendAll_transport.2 with same | finished
  · have still : s.suspendAll.transport.state.records = true := by
      rw [same]
      exact records
    have ended : s.recorderShut = s.suspendAll.endRecording .fallboard s.suspendAll.now := if_pos still
    have lift {cause : EndCause} {t : State} (h : s.suspendAll.Finished t cause) : s.Finished t cause := by
      obtain ⟨recording, idle, take, lastEnd, lastClose, closed, posted⟩ := h
      rw [same] at lastClose
      exact ⟨recording, idle, take, lastEnd, lastClose, closed, posted⟩
    rw [ended]
    exact (State.endRecording_finishes still).imp lift lift
  · have idle : s.recorderShut = s.suspendAll := if_neg (by rw [finished.idle]; exact Bool.false_ne_true)
    rw [idle]
    exact .inr finished

theorem State.recorderShut_other (rests : s.transport.state.records = false) : s.recorderShut.transport = s.transport := by
  have other : s.transport.state ≠ .recording := fun recording => by
    rw [recording] at rests
    exact nomatch rests
  obtain ⟨same, _⟩ := State.suspendAll_transport.1 other
  have idle : s.recorderShut = s.suspendAll := if_neg (by rw [same, rests]; exact Bool.false_ne_true)
  rw [idle, same]

/-- A recording of which the suspended keys hold no note, with no GAP expiry overdue, is closed with cause FALLBOARD (R155). -/
theorem State.recorderShut_closes (records : s.transport.state.records = true)
    (transport : s.suspendAll.transport = s.transport) (store : s.suspendAll.store = s.store)
    (onTime : Store.writeOverdue s.now s.store = (s.store, false)) :
    s.recorderShut =
      State.finishRecording .fallboard { s.suspendAll with store := s.store.closeRecording (some s.now) } := by
  have still : s.suspendAll.transport.state.records = true := by
    rw [transport]
    exact records
  have time : s.suspendAll.now = s.now := by simp
  have ended : s.recorderShut = s.suspendAll.endRecording .fallboard s.suspendAll.now := if_pos still
  have fits : Store.writeOverdue s.now s.suspendAll.store = (s.store, false) := by rw [store, onTime]
  rw [ended, time, State.endRecording_closes still (congrArg Prod.snd fits), fits]

theorem State.suspendAll_stray {c : RecordingContext} (recording : s.store.recording = some c)
    (stray : ∀ k ∈ c.openNotes, (s.key k).state.isStroke = false) :
    s.suspendAll.transport = s.transport ∧ s.suspendAll.store = s.store := by
  obtain ⟨store, transport⟩ := State.enterScanner_run_stray (x := .suspended) (c := .fallboard) (keys := s.strokeKeys) s recording
    (fun k among noted => by
      have idle := stray k noted
      rw [((State.mem_strokeKeys k).mp among).2] at idle
      exact nomatch idle)
  obtain ⟨sameStore, sameTransport, _⟩ := State.suspendAll_kept (s := s)
  exact ⟨sameTransport.trans transport, sameStore.trans store⟩

end Recorder

/-! ### The rail behind the Scanner's part -/

section Rail

variable {s : State}

theorem State.suspendAll_rail_other (other : s.rail.state ≠ .waitQuiet) : s.suspendAll.rail = s.rail := by
  obtain ⟨_, _, rail⟩ := State.suspendAll_kept (s := s)
  exact rail.trans (State.enterScanner_run_rail_other s other)

/-- A waiting move begins by the quiet that the close brings (R89). -/
theorem State.suspendAll_rail_waits {target : Target} (waits : s.rail.state = .waitQuiet) (toward : s.rail.target = some target)
    (busy : 0 < s.strokeCount) :
    ∃ v : State, v.rail = s.rail ∧ v.now = s.now ∧ s.suspendAll.rail = (v.startRun target).rail ∧
      s.suspendAll.announces .railState := by
  obtain ⟨_, _, same⟩ := State.suspendAll_kept (s := s)
  obtain ⟨v, rail, time, runs, announced⟩ := State.enterScanner_run_rail_waits (x := .suspended) (c := .fallboard)
    (keys := s.strokeKeys) rfl s State.strokeKeys_own waits toward busy (fun k low high flies => by
      refine (State.mem_strokeKeys k).mpr ⟨⟨low, high⟩, ?_⟩
      by_contra idle
      rw [KeyState.inFlight_of_scanner (Bool.eq_false_iff.mpr idle)] at flies
      exact nomatch flies)
  refine ⟨v, rail, time, same.trans runs, ?_⟩
  rw [State.suspendAll_eq]
  exact (Leads.abandonCapture .refl).noticesStay.announces announced

theorem State.recorderShut_quiet : s.recorderShut.quiet = true := by
  obtain ⟨_, scanner, _⟩ := State.recorderShut_kept (s := s)
  rw [State.quiet_iff, State.strokeCount_congr (congrArg Scanner.keys scanner), ← State.quiet_iff]
  exact State.suspendAll_quiet

theorem State.retracts.keep {t u : State} (h : t.retracts) (rail : u.rail = t.rail) (notices : t.noticesStay u) : u.retracts := by
  obtain ⟨state, target, run, announced⟩ := h
  rw [← rail] at state target run
  exact ⟨state, target, run, notices.announces announced⟩

theorem State.arrivesRetracted.keep {t u : State} (h : t.arrivesRetracted) (rail : u.rail = t.rail) (notices : t.noticesStay u) :
    u.arrivesRetracted := by
  obtain ⟨state, target, run, move, announced⟩ := h
  rw [← rail] at state target run move
  exact ⟨state, target, run, move, notices.announces announced⟩

end Rail

/-! ### The obligation -/

section Settled

variable {now : Time} {s : State}

theorem State.closedAt_kept :
    (s.closedAt now).rail = (s.shut now).recorderShut.park.rail ∧ (s.closedAt now).store = (s.shut now).recorderShut.store ∧
      (s.closedAt now).transport = (s.shut now).recorderShut.transport ∧ (s.closedAt now).pedals = s.pedals := by
  obtain ⟨_, _, store, transport, rail, pedals⟩ := State.parked_kept (s := (s.shut now).recorderShut)
  obtain ⟨_, _, _, _, pedalsShut⟩ := State.recorderShut_kept (s := s.shut now)
  exact ⟨rail, store, transport, pedals.trans pedalsShut⟩

theorem State.Finished.closedAt {cause : EndCause} (h : (s.shut now).Finished (s.shut now).recorderShut cause) :
    s.Finished (s.closedAt now) cause := by
  obtain ⟨_, store, transport, _⟩ := State.closedAt_kept (s := s) (now := now)
  obtain ⟨recording, idle, take, lastEnd, lastClose, closed, posted⟩ :=
    h.keep (u := s.closedAt now) (congrArg Store.recording store) transport State.parked_noticesStay
  exact ⟨recording, idle, take, lastEnd, lastClose, closed, posted⟩

/-- The Scanner behind a close (R11, R17). -/
theorem State.closedAt_scanner :
    (s.closedAt now).scanner = (s.shut now).suspendAll.scanner ∧ (s.closedAt now).router = (s.shut now).suspendAll.router ∧
      (s.shut now).suspendAll.noticesStay (s.closedAt now) := by
  obtain ⟨scanner, router, _⟩ := State.parked_kept (s := (s.shut now).recorderShut)
  obtain ⟨_, scannerShut, routerShut, _⟩ := State.recorderShut_kept (s := s.shut now)
  exact ⟨scanner.trans scannerShut, router.trans routerShut, State.recorderShut_noticesStay.trans State.parked_noticesStay⟩

/-- An armed take is released by a close, and a running recording with its gaps in time is closed (R139, R155). -/
theorem State.closedAt_records {c : RecordingContext} {e : Take} (recording : s.store.recording = some c)
    (take : s.transport.take = some c.take) (own : 1 ≤ c.take ∧ c.take ≤ 16) (entry : s.store.entry c.take = some e) :
    (s.transport.state = .armed → c.started = false →
      (s.closedAt now).store.entry c.take = none ∧
        (s.closedAt now).store.freeList = s.store.freeList ++ s.store.chain e ∧
        (s.closedAt now).transport.lastEnd = some .fallboard ∧
        (s.closedAt now).transport.lastClose =
          some { take := c.take, outcome := .discarded, flags := {}, count := 0, duration := 0, cause := .fallboard }) ∧
    (s.transport.state = .recording → c.started = true → s.memoryCanonical →
      c.positionAt now ≤ (c.lastTime + 4095) * 1000 → 3 ≤ s.store.freeList.length → c.closings ≤ 96 →
      (∀ k ∈ c.openNotes, (s.key k).state.isStroke = false) →
      s.store.closesTo (s.closedAt now).store c e e.flags (c.positionAt now) ∧
        (s.closedAt now).transport.lastEnd = some .fallboard ∧
        (s.closedAt now).transport.lastClose =
          some { take := c.take, outcome := .closed, flags := e.flags, count := e.count + c.closings,
                 duration := e.duration + (c.positionAt now / 1000 - c.lastTime), cause := .fallboard }) := by
  obtain ⟨_, store, transport, _⟩ := State.closedAt_kept (s := s) (now := now)
  have closes (records : s.transport.state.records = true) (same : (s.shut now).suspendAll.transport = s.transport)
      (kept : (s.shut now).suspendAll.store = s.store) (onTime : Store.writeOverdue now s.store = (s.store, false)) :
      (s.closedAt now).store = s.store.closeRecording (some now) ∧
        (s.closedAt now).transport.lastEnd = some .fallboard ∧
        (s.closedAt now).transport.lastClose =
          some (closeResult c.take ((s.store.closeRecording (some now)).entry c.take) .fallboard) := by
    have shut : (s.shut now).recorderShut =
        State.finishRecording .fallboard { (s.shut now).suspendAll with store := s.store.closeRecording (some now) } :=
      State.recorderShut_closes (s := s.shut now) records same kept onTime
    generalize closing : ({ (s.shut now).suspendAll with store := s.store.closeRecording (some now) } : State) = v at shut
    have storeOf : v.store = s.store.closeRecording (some now) := by rw [← closing]
    have transportOf : v.transport = s.transport := by rw [← closing, same]
    obtain ⟨_, _, lastEnd, lastClose, _⟩ := State.finishRecording_finishes .fallboard v
    obtain ⟨_, storeEnd, _⟩ := State.finishRecording_kept .fallboard v
    rw [shut] at store transport
    rw [storeOf] at storeEnd
    rw [storeOf, transportOf, take, Option.getD_some] at lastClose
    exact ⟨store.trans storeEnd, (congrArg Transport.lastEnd transport).trans lastEnd,
      (congrArg Transport.lastClose transport).trans lastClose⟩
  refine ⟨fun armed unstarted => ?_, fun running started canonical early free few stray => ?_⟩
  · have other : (s.shut now).transport.state ≠ .recording := by
      rw [show (s.shut now).transport.state = .armed from armed]
      nofun
    obtain ⟨same, kept⟩ := (State.suspendAll_transport (s := s.shut now)).1 other
    have onTime : Store.writeOverdue now s.store = (s.store, false) := by
      simp only [Store.writeOverdue, recording, unstarted, Bool.false_eq_true, if_false]
    have released : s.store.closeRecording (some now) = { s.store.releaseTake c.take with recording := none } := by
      simp only [Store.closeRecording, recording, unstarted, Bool.false_eq_true, if_false]
    obtain ⟨storeEnd, lastEnd, lastClose⟩ := closes (by rw [armed]; rfl) same kept onTime
    have gone : (s.store.closeRecording (some now)).entry c.take = none := by
      rw [released]
      exact (Store.releaseTake_entry entry own c.take).trans (if_pos rfl)
    rw [gone] at lastClose
    rw [storeEnd]
    refine ⟨gone, ?_, lastEnd, lastClose⟩
    rw [released]
    exact Store.releaseTake_freeList entry
  · obtain ⟨same, kept⟩ := State.suspendAll_stray (s := s.shut now) recording stray
    have onTime : Store.writeOverdue now s.store = (s.store, false) := by
      simp only [Store.writeOverdue, recording, started, if_true, RecordingContext.reckon_position,
        RecordingContext.gapsBefore_zero early, Store.writeGaps]
    have closedStore : s.store.closeRecording (some now) = s.store.closeAt (c.positionAt now) (c.reckon now).2 := by
      simp only [Store.closeRecording, recording, started, if_true, RecordingContext.reckon_position]
    obtain ⟨storeEnd, lastEnd, lastClose⟩ := closes (by rw [running]; rfl) same kept onTime
    have closedTo : s.store.closesTo (s.store.closeRecording (some now)) c e e.flags (c.positionAt now) := by
      rw [closedStore]
      exact Store.closeAt_closesTo recording own canonical entry (fun _ _ => rfl) free few
    obtain ⟨_, _, last, entryEnd, _⟩ := id closedTo
    rw [entryEnd] at lastClose
    rw [storeEnd]
    exact ⟨closedTo, lastEnd, lastClose⟩

/-- The park of a close, by the rail's state (R88, R89, R93, R104). -/
theorem State.closedAt_parks :
    let r := { s.rail with fallboardClosed := true }
    (r.profile.park = true → (r.state = .engaged ∨ r.state = .unknown ∨ r.state = .stalled) →
      (r.retractEnd = false → (s.closedAt now).retracts) ∧ (r.retractEnd = true → (s.closedAt now).arrivesRetracted) ∧
      (r.state = .stalled → (s.closedAt now).rail.alertRequested = false)) ∧
    (∀ x, r.profile.park = true → r.state = .engaging → r.run = some x →
      (s.closedAt now).retracts ∧
      (s.closedAt now).rail =
        { r with
          state := .retracting, resting := .unknown, target := some .retract, lastMove := some .reversed, arm := .below
          run := some
            { x with phase := .reversalDwell, phaseEnd := now.after 50000, duty := 0, retriesUsed := 0,
                     moveTimer := now.after (r.profile.moveTimeout * 1000), stallTimer := none, blindPulses := 0 } }) ∧
    (∀ target, r.profile.park = true → r.state = .waitQuiet → 0 < s.strokeCount → r.target = some target →
      ((r.retractEnd = false ∨ (target = .engage ∧ r.engageEnd = false)) → (s.closedAt now).retracts) ∧
      (r.retractEnd = true → (target = .retract ∨ r.engageEnd = true) → (s.closedAt now).arrivesRetracted)) ∧
    (∀ target, r.profile.park = false → r.state = .waitQuiet → 0 < s.strokeCount → r.target = some target →
      r.leavesWait (s.closedAt now).rail target now) ∧
    ((r.profile.park = true → r.state = .retracted ∨ r.state = .retracting ∨ r.state = .switchFault) →
      r.state ≠ .waitQuiet → (s.closedAt now).rail = r) := by
  intro r
  have here : (s.shut now).rail = r := rfl
  obtain ⟨time, _, _, rail, _⟩ := State.recorderShut_kept (s := s.shut now)
  have quiet := State.recorderShut_quiet (s := s.shut now)
  obtain ⟨railEnd, _⟩ := State.closedAt_kept (s := s) (now := now)
  have posted : (s.shut now).recorderShut.park.noticesStay (s.closedAt now) := .post _ _
  have heard (other : r.state ≠ .waitQuiet) : (s.shut now).recorderShut.rail = r :=
    rail.trans (State.suspendAll_rail_other other)
  have started {target : Target} (waits : r.state = .waitQuiet) (busy : 0 < s.strokeCount) (toward : r.target = some target) :
      ∃ v : State, v.rail = r ∧ v.now = now ∧ (s.shut now).recorderShut.rail = (v.startRun target).rail ∧
        (s.shut now).recorderShut.announces .railState := by
    obtain ⟨v, railOf, timeOf, runs, announced⟩ := State.suspendAll_rail_waits (s := s.shut now) waits toward busy
    exact ⟨v, railOf, timeOf, rail.trans runs, State.recorderShut_noticesStay.announces announced⟩
  refine ⟨fun on rests => ?_, fun x on moves run => ?_, fun target on waits busy toward => ?_,
    fun target off waits busy toward => ?_, fun stays other => ?_⟩
  · have same := heard (by rintro waits; rw [waits] at rests; exact nomatch rests)
    have parks := State.park_leaves (s := (s.shut now).recorderShut)
    rw [same] at parks
    obtain ⟨retracts, arrives, alert⟩ := parks on quiet rests
    exact ⟨fun off => (retracts off).keep railEnd posted, fun active => (arrives active).keep railEnd posted,
      fun stalled => by rw [railEnd]; exact alert stalled⟩
  · have same := heard (by rw [moves]; nofun)
    have turns := State.park_reverses (s := (s.shut now).recorderShut) (x := x)
    rw [same, time] at turns
    obtain ⟨retracts, turned⟩ := turns on moves run
    exact ⟨retracts.keep railEnd posted, railEnd.trans turned⟩
  · obtain ⟨v, railOf, _, runs, announced⟩ := started waits busy toward
    have parks := State.park_startRun runs (by rw [railOf]; exact on) quiet announced
    rw [railOf] at parks
    exact ⟨fun off => (parks.1 off).keep railEnd posted, fun active ends => (parks.2 active ends).keep railEnd posted⟩
  · obtain ⟨v, railOf, timeOf, runs, _⟩ := started waits busy toward
    have begun := State.startRun_leavesWait target v
    obtain ⟨_, profile, _⟩ := State.startRun_inputs target v
    rw [railOf] at profile
    rw [railOf, timeOf, ← runs] at begun
    rw [← runs] at profile
    rw [railEnd, State.park_off (by rw [profile]; exact off)]
    exact begun
  · have same := heard other
    rw [railEnd, State.park_stays (by rw [same]; exact stays), same]

end Settled

/-- Settles O43: a close as the Scanner's part, the recorder's and the park; an open; and the end switches on the standby supply. -/
theorem fallboardAndStandbySwitches : Obligations.FallboardAndStandbySwitches := by
  refine ⟨fun now s on => ⟨fun closed => ?again, fun opened => ?closes, fun opened => ?opened, fun closed => ?opens⟩,
    fun w active s => ?standby⟩
  case again => exact (exec_event on now).trans (congrArg _ (if_pos closed))
  case opened => exact (exec_event on now).trans (congrArg _ (if_neg (ne_true_of_eq_false opened)))
  case opens => exact (exec_event on now).trans (congrArg _ (if_pos closed))
  case closes =>
    obtain ⟨scanner, router, notices⟩ := State.closedAt_scanner (s := s) (now := now)
    obtain ⟨strokes, others, capture, last, captures⟩ := State.suspendAll_scanner (s := s.shut now)
    have key (k : Nat) : (s.closedAt now).key k = (s.shut now).suspendAll.key k := State.key_congr scanner k
    have parks := State.closedAt_parks (s := s) (now := now)
    obtain ⟨railEnd, _, transport, pedals⟩ := State.closedAt_kept (s := s) (now := now)
    refine ⟨s.closedAt now, exec_fallboardClose on opened, ?_, fun k low high stroke => ?_, fun k idle apart => ?_, ?_, fun none => ?_,
      fun c captured => ?_, fun records => ?_, fun c e recording take low high entry => ?_, fun notArmed notRecording => ?_,
      parks, State.post_announces _ _, ?_⟩
    · obtain ⟨_, _, _, rail, _⟩ := State.recorderShut_kept (s := s.shut now)
      rw [railEnd, State.park_fallboard, rail, State.suspendAll_fallboard]
      rfl
    · rw [key, State.sound, router]
      exact strokes k stroke
    · rw [key]
      exact others k idle apart
    · rw [scanner]
      exact capture
    · rw [scanner]
      exact last none
    · obtain ⟨result, done, left⟩ := captures c captured
      refine ⟨?_, notices.announces done, fun k low high inCapture => ?_⟩
      · rw [scanner, result]
        cases c <;> rfl
      · rw [key]
        exact left k low high inCapture
    · have recorded : (s.shut now).transport.state.records = true := by
        rcases records with armed | running
        · exact congrArg TransportState.records armed
        · exact congrArg TransportState.records running
      rcases State.recorderShut_finishes recorded with finished | finished
      · obtain ⟨recording, idle, take, lastEnd, ⟨r, lastClose, takeOf, causeOf⟩, closed, posted⟩ := finished.closedAt
        exact ⟨idle, take, recording, closed, posted, .inl lastEnd, r, lastClose, takeOf, by rw [lastEnd, causeOf]⟩
      · obtain ⟨recording, idle, take, lastEnd, ⟨r, lastClose, takeOf, causeOf⟩, closed, posted⟩ := finished.closedAt
        exact ⟨idle, take, recording, closed, posted, .inr lastEnd, r, lastClose, takeOf, by rw [lastEnd, causeOf]⟩
    · exact State.closedAt_records recording take ⟨low, high⟩ entry
    · have rests : (s.shut now).transport.state.records = false := by
        show s.transport.state.records = false
        cases state : s.transport.state
        case armed => exact absurd state notArmed
        case recording => exact absurd state notRecording
        all_goals rfl
      exact transport.trans (State.recorderShut_other rests)
    · exact pedals
  case standby =>
    refine Eq.trans (b := .next s.standbySwitch) rfl ?_
    simp only [State.standbySwitch]
    split <;> rfl

end Sys2Proof.Machine
end
